-- ==== Sys2Proof/Word.lean ====
section
/-!
DEFINITION. The word types of the part (R8, R9, R30): bytes, 32-bit register words and 64-bit addresses.
-/

namespace Sys2Proof

/-- One byte of memory, of a frame or of an I3C transfer. -/
abbrev Byte := BitVec 8

/-- One register word (R30). -/
abbrev Word := BitVec 32

/-- A 64-bit address or counter (R38). -/
abbrev DWord := BitVec 64

end Sys2Proof
end

