-- ==== Sys2Proof/Syntax.lean ====
section
/-!
DEFINITION. The commands of the part: one constructor of `Instr` per row of spec/opcode_table.json, with the operands
that the row's rule names. The table gives no row any bits, so a command is what its sender means, not a word.

Operands are of three kinds: which object the command acts on (an index); what software or a bus partner puts on the
boundary (an address, data, a frame); and what the spec leaves to picture content or to a physical event (coded bits,
which fetches of a line fail). The last kind is free: assumption 3.
-/

namespace Sys2Proof

/-- The two register paths (R15, R30, R338). -/
inductive Path where
  | i3c | regload
  deriving DecidableEq, Repr

/-- Where a session command comes from (R57, R174): a register path, or a CONTROL step of a channel. -/
inductive CmdBy where
  | reg (p : Path)
  | channel (c : Nat)
  deriving DecidableEq, Repr

/-- Where a channel command comes from (R321). -/
inductive ChanBy where
  | i3c | regload | doorbell | signal
  deriving DecidableEq, Repr

/-- The core clocks whose PLLs CLK_STAT shows (R433). -/
inductive Clk where
  | fclk | vclk | mclk
  deriving DecidableEq, Repr

/-- The power domains that can be asked to power down (R424). -/
inductive Domain where
  | core
  | quad (n : Nat)
  deriving DecidableEq, Repr

/-- The tamper causes, in the bit order of IBR_TAMPER (R463, R464). -/
inductive TamperCause where
  | supply | clock | temperature | mesh
  deriving DecidableEq, Repr

/-- The key-store integrity failures of R463: both copies of a slot, or a fuse vote with no majority. -/
inductive KeyFailure where
  | slot (n : Nat)
  | fuse
  deriving DecidableEq, Repr

/-- The content of an error capture (R40, R492): address, master ID and access type. -/
structure Cap where
  addr   : DWord
  master : BitVec 12
  acc    : BitVec 4
  deriving DecidableEq, Repr

/-- The HDR-DDR commands between ENTHDR0 and the HDR exit (R35). -/
inductive HdrCmd where
  | write (bytes : List Byte) (crcOk : Bool)
  | readAddr (bytes : List Byte) (crcOk : Bool)
  | read (bytes : Nat)
  | other (code : Byte)
  deriving DecidableEq, Repr

/-- The three broadcast/direct forms a CCC can take (R24, R28). -/
inductive CccForm where
  | broadcast | direct
  deriving DecidableEq, Repr

/-- One prediction unit of a coding block, as analysis decides it (R95, R98, R101, R105 to R107, R116): its place and size in the
block in luma samples; its intra mode, and whether that uses samples above to the right; or its references with motion vectors in
quarter luma samples and its AV1 interpolation filter (0 REGULAR). -/
structure PredUnit where
  x      : Nat
  y      : Nat
  w      : Nat
  h      : Nat
  intra  : Option (Nat × Bool)
  refs   : List (Nat × Int × Int)
  interp : Nat
  deriving DecidableEq, Repr

/-- One coding block of a row segment, as picture content decides it (R95, R130, R134, R136, R198): its prediction units; its
transforms by side and type (0 DCT, 1 with ADST, 2 another); its binarised syntax as coding elements, as decided and in floor mode;
and its complexity. -/
structure Block where
  units : List PredUnit
  tx    : List (Nat × Nat)
  elems : List DWord
  floor : List DWord
  cplx  : Nat
  deriving DecidableEq, Repr

/-- What the reconstruction and filters of a segment leave (R95, R97, R119, R148): the filtered samples of each plane, line by line from
the lines that waited for this row; the motion field; and along its bottom edge the samples before the filters still pending and the
modes, for its checkpoint. -/
structure SegRecon where
  y      : List Nat
  cb     : List Nat
  cr     : List Nat
  motion : List Byte
  edge   : List Nat
  modes  : List Byte
  deriving DecidableEq, Repr

/-- The sequence parameters of a picture (R177, R178): PROFILE as R60 codes it (15 for another), level × 10, HEVC High tier,
chroma_format_idc, bit depth, field or MBAFF coding, large_scale_tile, the coded size in luma samples (AV1: upscaled), and the
pictures that its decoded picture buffer needs. -/
structure DecSeq where
  profile : Nat
  level   : Nat
  high    : Bool
  chroma  : Nat
  depth   : Nat
  field   : Bool
  large   : Bool
  width   : Nat
  height  : Nat
  dpb     : Nat
  deriving DecidableEq, Repr

/-- What a picture's headers say (R167, R169, R178, R182, R184): its sequence; the cropped output window; POC or order hint; an IDR,
IRAP or KEY_FRAME; the recovery point at which a count with exact_match_flag 1 completes; the references it names by decode-order
number, the first of list 0 or LAST first, none where no entry matches; film grain; the entropy units of its data, bins or symbols and
CAVLC bits; the picture of a show_existing_frame; whether more frames follow in its access unit; and, by decode-order number,
what the output process releases after it, in output order, what awaits output, and what stays a reference. -/
structure DecHead where
  seq      : DecSeq
  cropX    : Nat
  cropY    : Nat
  width    : Nat
  height   : Nat
  order    : Word
  key      : Bool
  recovers : Bool
  refs     : List (Option Nat)
  grain    : Bool
  bins     : Nat
  vlc      : Nat
  shows    : Option Nat
  more     : Bool
  outputs  : List Nat
  waits    : List Nat
  keeps    : List Nat
  deriving DecidableEq, Repr

/-- A slice or tile that the access unit holds (R168, R181): CABAC; its 16×16 units in decode order; how many the runner decodes
before a syntax error; and for each unit the offset in the access unit and the line of part DRAM at which its data ends. -/
structure DecSlice where
  cabac : Bool
  units : List Nat
  good  : Nat
  data  : List (Nat × Nat)
  deriving DecidableEq, Repr

/-- What a picture's decode brings (R168): its slices or tiles, the samples of each plane line by line, its motion field, and the
motion of units that predict from ref0. Corrupt units' samples are never used. -/
structure DecodeOutcome where
  slices : List DecSlice
  y      : List Nat
  cb     : List Nat
  cr     : List Nat
  field  : List Byte
  moves  : List (Nat × Int × Int)
  deriving DecidableEq, Repr

/-- What a controller answers while it is brought up (R312): none where a step fails or exceeds CAP.TO. -/
structure NvmeIdentity where
  /-- The largest Max Payload Size the controller supports, as Device Control codes it (R494). -/
  payload    : Nat
  granted    : Nat
  mdts       : Nat
  namespaces : List (Nat × Nat)
  deriving DecidableEq, Repr

/-- An NVMe completion status (R316): the 16-bit status field without the phase, its DNR bit, and dword 0. -/
structure NvmeStatus where
  status : BitVec 16
  dnr    : Bool
  dw0    : Word
  data   : List Byte
  deriving DecidableEq, Repr

/-- What stands around a runner during one microword (R195 to R199): the request that a decode pipeline sends, which its picture's
syntax decides; whether the output path refuses bytes for a reason of its own; and whether fewer than 32 bits of the input are buffered. -/
structure RunnerInput where
  elem    : Option DWord
  outFull : Bool
  starved : Bool
  deriving DecidableEq, Repr

/-- The kinds of PCIe configuration request outcomes the part gives (R303). -/
inductive CfgReq where
  | read (reg : Nat)
  | write (reg : Nat) (data : Word)
  deriving DecidableEq, Repr

/-- A decision of the ring neighbour's frame (R261): the hand-off header fields and payload. -/
structure HandOff where
  ver     : Nat
  typ     : Nat
  hops    : Nat
  src     : DWord
  dst     : DWord
  seq     : Word
  tag     : Word
  payload : List Byte
  checkOk : Bool
  deriving DecidableEq, Repr

/-- The commands of the part. Every constructor is one row of spec/opcode_table.json. -/
inductive Instr where
  -- power, reset, modes and faults of the whole part (R414–R447, R463, R482)
  | pwrOkFall
  | pwrOkRise
  | railUndervoltage
  | resetNAssert
  | resetNRelease
  | bringupComplete (ms : Nat)
  | bringupFail (code : Nat)
  | tamper (cause : TamperCause)
  | keyStoreIntegrityFail (what : KeyFailure)
  | lockstepDoubleParity (cp : Nat)
  | corePllLoss (clk : Clk)
  | corePllRelockTimeout (clk : Clk)
  | pdDrainExpiry (dom : Domain)
  -- I3C common command codes and in-band interrupts (R24–R37)
  | enec (events : Byte)
  | disec (events : Byte)
  | rstdaa
  | entdaa (addr : BitVec 7)
  | setdasa (target addr : BitVec 7)
  | setmwl (value : Nat)
  | getmwl
  | setmrl (value : Nat)
  | getmrl
  | getpid
  | getbcr
  | getdcr
  | getstatus
  | rstact (form : CccForm) (db : Byte)
  | rstactRead (db : Byte)
  | enthdr0 (cmds : List HdrCmd)
  | targetResetPattern
  | ibiIssue (accepted : Bool)
  -- register accesses (R30–R47, R491–R493); a read carries how many bytes the controller takes, and an access that its row's
  -- rule does not single out, a read of plain words or of a run of words, is an RC_READ of them (assumption 84)
  | registerWrite (p : Path) (bytes : List Byte)
  | rcRead (p : Path) (addr bytes : Nat)
  | errStatRead (p : Path) (page bytes : Nat)
  | loWordRead (p : Path) (addr bytes : Nat)
  | tbNowLoRead (p : Path) (bytes : Nat)
  | unlistedCommandCode (p : Path) (addr : Nat) (data : Word)
  | pgCtlEnable (p : Path) (page : Nat) (on : Bool)
  | pgCtlFreeze (p : Path) (page : Nat) (on : Bool)
  | pgCtlSreset (p : Path) (page : Nat)
  | pgSresetDone (page : Nat)
  | errForce (p : Path) (page : Nat) (bits : BitVec 16)
  | errClassWrite (p : Path) (page : Nat) (value : Word)
  | errorDetect (page src : Nat) (cap : Cap) (obj : Nat)
  | intCoalTimeExpiry (page : Nat)
  -- takeovers (R120, R213, R358)
  | stoneTakeover (n : Nat)
  | runnerTakeover (n : Nat)
  | cpTakeover (n : Nat)
  -- configuration CRC (R46, R47)
  | cfgCommit (p : Path) (data : Word)
  | cfgPassStart
  | cfgPassEnd
  -- channel commands, doorbells, event queue and router (R48–R55, R321, R363, R369)
  | chanStart (by_ : ChanBy) (c : Nat)
  | chanResume (by_ : ChanBy) (c : Nat)
  | chanStop (by_ : ChanBy) (c : Nat)
  | srcDb (value : Word)
  | evqConsWrite (p : Option Path) (value : Word)
  | evqCtlWrite (p : Path) (value : Word)
  | routerMessage
  | evqNotifyTimeout
  | evqOverflowWrite
  | evqLagExpiry
  | evrInject (p : Path) (value : Word)
  -- encode sessions and frames (R56–R77)
  | stripeDb (renderer : Nat) (value : Word)
  | sesSetup (by_ : CmdBy) (session : Nat)
  | sesStart (by_ : CmdBy) (session : Nat)
  | sesStop (by_ : CmdBy) (session : Nat)
  | sesAbort (by_ : CmdBy) (session : Nat)
  | sessionStopped (session : Nat)
  | comparatorMatch (n : Nat)
  | frameStart (session : Nat)
  | frameComplete (session : Nat)
  | ingestTimeout (session : Nat)
  -- Bolters, stones, Governor (R78–R146)
  | bolterRowStart (b : Nat)
  | bolterRowDone (b : Nat)
  | stoneSegmentStart (n : Nat) (blocks : List Block)
  | stoneSegmentDone (n : Nat) (out : SegRecon)
  | segmentCommit (n : Nat)
  | seamTimeout (n : Nat)
  | stoneWatchdog (n : Nat)
  | govFeedbackReport (session : Nat)
  | govRateInForce (session : Nat)
  | govFbTimeout (session : Nat)
  -- reference pool (R147–R173)
  | packetLost (session : Nat) (seq : BitVec 16)
  | refClsWrite (p : Path) (cls word : Nat) (value : Word)
  -- decode sessions and pipelines (R174–R188)
  | decSetup (by_ : CmdBy) (page session : Nat)
  | decStart (by_ : CmdBy) (page session : Nat)
  | decStop (by_ : CmdBy) (page session : Nat)
  | decAbort (by_ : CmdBy) (page session : Nat)
  | decSessionStopped (session : Nat)
  | decRtpPacket (session : Nat)
  | decReorderTimeout (session : Nat)
  | decPictureStart (pipe : Nat) (h : Option DecHead)
  | decPictureDone (pipe : Nat) (r : DecodeOutcome)
  | decDeliveryDone (session : Nat)
  | decConsPoll (session : Nat)
  | decWatchdog (pipe : Nat)
  | decCtlWrite (p : Path) (pipe : Nat) (value : Word)
  -- runners (R189–R214)
  | runnerAssignWrite (p : Path) (l : Nat) (value : Word)
  | runnerAssignApply (l : Nat)
  | libInsert (p : Path) (slot : Nat)
  | libRemove (p : Path) (slot : Nat)
  | libInsertDone
  | runnerLoadDone (n : Nat)
  | runnerUnitStart (n : Nat)
  | assetUnitStart (n : Nat)
  | runnerMicroword (n : Nat) (inp : RunnerInput)
  | runnerMemOpDone (n : Nat)
  | runnerCpyOpDone (n : Nat)
  | runnerWatchdog (n : Nat)
  -- channel processor instructions (R347–R356), of physical CP n
  | cpNop (n : Nat)
  | cpRet (n : Nat)
  | cpRett (n : Nat)
  | cpWfm (n : Nat)
  | cpWfmWake (n : Nat)
  | cpXcall (n : Nat)
  | cpRep (n : Nat)
  | cpImm (n : Nat)
  | cpMovi (n : Nat)
  | cpAddi (n : Nat)
  | cpCmpi (n : Nat)
  | cpAlu (n : Nat)
  | cpShf (n : Nat)
  | cpShi (n : Nat)
  | cpLd (n : Nat)
  | cpSt (n : Nat)
  | cpLdb (n : Nat)
  | cpStb (n : Nat)
  | cpMovp (n : Nat)
  | cpPmov (n : Nat)
  | cpPaddi (n : Nat)
  | cpJmp (n : Nat)
  | cpBz (n : Nat)
  | cpBnz (n : Nat)
  | cpBc (n : Nat)
  | cpBnc (n : Nat)
  | cpBn (n : Nat)
  | cpBnn (n : Nat)
  | cpCall (n : Nat)
  | cpJr (n : Nat)
  | cpCrc (n : Nat)
  | cpBit (n : Nat)
  | cpIn (n : Nat)
  | cpOut (n : Nat)
  | cpReservedOpcode (n : Nat)
  | cpExtWatchdog (n : Nat)
  -- CP event controllers and images (R357–R359, R364–R367)
  | eicHoldExpiry (n : Nat)
  | eicSetPend (p : Path) (n source : Nat)
  | eicClrPend (p : Path) (n source : Nat)
  | eicMask (p : Path) (n source : Nat)
  | eicUnmask (p : Path) (n source : Nat)
  | cpImgLoad (p : Path) (n : Nat)
  | cpImgLoadExt (p : Path) (n : Nat)
  | cpImgMove (p : Path) (n logical : Nat)
  | cpMoveBind (n : Nat)
  -- pawl instructions (R360–R362), of PAWL[n]
  | pawlNop (n : Nat)
  | pawlRet (n : Nat)
  | pawlRett (n : Nat)
  | pawlWfe (n : Nat)
  | pawlWfeWake (n : Nat)
  | pawlTwait (n : Nat)
  | pawlTwaitExpiry (n : Nat)
  | pawlLdi (n : Nat)
  | pawlPfx (n : Nat)
  | pawlAlu (n : Nat)
  | pawlAddi (n : Nat)
  | pawlIn (n : Nat)
  | pawlOut (n : Nat)
  | pawlJmp (n : Nat)
  | pawlBz (n : Nat)
  | pawlBnz (n : Nat)
  | pawlCall (n : Nat)
  | pawlSev (n : Nat)
  | pawlTset (n : Nat)
  | pawlEv (n : Nat)
  | pawlReservedOpcode (n : Nat)
  | pawlRqEnd (n : Nat) (data : Word) (ok : Bool)
  | pawlMemDone (n : Nat)
  | pawlImgLoad (p : Path) (n : Nat)
  | pawlLoadDone (n : Nat)
  -- NVMe (R309–R318)
  | nvmeControllerInit (q : Nat) (ans : Option NvmeIdentity)
  | nvmeCompletion (q cid : Nat) (st : NvmeStatus)
  | nvmeCmdTimeout (q : Nat) (cid : Option Nat)
  -- channel program steps (R320–R346)
  | stepDispatch (c : Nat)
  | stepRead (c : Nat)
  | stepWrite (c : Nat)
  | stepMove (c : Nat)
  | stepSense (c : Nat)
  | stepTransform (c : Nat)
  | stepSubmit (c : Nat)
  | stepWait (c : Nat)
  | stepSignal (c : Nat)
  | stepJump (c : Nat)
  | stepTest (c : Nat)
  | stepRegload (c : Nat)
  | regloadPoll (c : Nat)
  | stepFill (c : Nat)
  | stepNop (c : Nat)
  | stepEnd (c : Nat)
  | stepExtension (c : Nat)
  | egressOpen (c : Nat)
  | egressClose (c : Nat)
  | egressCloseDone (dev : Nat)
  | egressFlush (c : Nat)
  | ingestDoorbell (c : Nat)
  | stepComplete (c : Nat)
  | stepTimeout (c : Nat)
  -- DMA engines and the Hopper (R370–R391)
  | dmaTransferStart (e : Nat)
  | dmaTransferEnd (e : Nat)
  | hopInit (p : Path) (pool : Nat)
  | hopInitDone
  | hopDisable (p : Path) (pool : Nat)
  | hopGrant (pool : Nat)
  | hopCacheRefill (pool : Nat)
  | hopCacheSpill (pool : Nat)
  | hopWaitLong (pool : Nat)
  | hopResvWrite (p : Path) (owner : Nat) (b : Bool) (value : Word)
  -- memory (R392–R412)
  | dramLineRead (master : BitVec 12) (acc : BitVec 4) (addr : Nat) (badFetches : Nat)
  | dramLineWrite (master : BitVec 12) (acc : BitVec 4) (addr : Nat) (bytes : List Byte)
  | dramRefresh (site : Nat)
  | actWindowStart (site : Nat)
  | throttleEnd (site : Nat)
  | maWaitLimitReached (master : BitVec 12) (site : Nat)
  | maCtlFreeze (p : Path) (on : Bool)
  | maBankHashWrite (p : Path) (k : Nat) (value : Word)
  | mcChkFlipWrite (p : Path) (site : Nat) (value : Word)
  | scrubStart (p : Path)
  | scrubAbort (p : Path) (bad : List (Nat × Nat))
  | scrubDone (bad : List (Nat × Nat))
  | ceBucketLeak
  -- mode requests and device reset (R414–R425)
  | reqStandby (p : Path)
  | reqRun (p : Path)
  | reqDrain (p : Path)
  | reqSlack (p : Path)
  | devSreset (p : Path)
  | devSresetDone
  | slackWakeFrame (q : Nat) (da : BitVec 48)
  -- the Ledger (R427–R434)
  | ldgSync (p : Path)
  | ldgWriteUser (p : Path)
  | ldgReadUser (p : Path)
  | ldgWriteRecord (p : Path)
  | ldgClearRetire (p : Path)
  | ldgReadFaults (p : Path)
  | ledgerRecordWrite
  | ledgerWriteDone (verified : Bool)
  | ledgerFlashTimeout
  | ledgerIntervalExpiry
  | ledgerWearUpdate
  -- the time base (R273–R285)
  | tbOffsetWrite (p : Path) (value : Word)
  | tbRateWrite (p : Path) (value : Word)
  | tbStepWrite (p : Path) (value : Word)
  | tbCmpWrite (p : Path) (n word : Nat) (value : Word)
  | sdrefWLoss
  | tbPllLockE
  | ppsInEdge
  | ppsOutPulseEnd
  -- the Sluice (R286–R296)
  | sluFlowReload (p : Path) (flow : Nat)
  | sluiceFineSlot
  | sluiceCoarseSlot
  | sluTblCommit (p : Path) (value : Word)
  | sluTblSwap (port : Nat)
  | gateEntryBoundary (port : Nat)
  -- packetizer and leat queues (R215–R239)
  | packetize (session : Nat)
  | pktRekeyCmd (p : Path) (value : Word)
  | feedbackPacket (session : Nat)
  | srIntervalExpiry (session : Nat)
  | historyExpiry (queue lane : Nat)
  | leatFlush (p : Path) (value : Word)
  | leatStale (queue lane : Nat)
  -- switch, ports, forwarding and ring (R240–R272)
  | frameHeaderReceived (port : Nat) (bytes : List Byte)
  | frameStored (port : Nat) (fcsOk : Bool)
  | frameTxStart (port : Nat)
  | frameTxDone (port : Nat)
  | portUp (port : Nat)
  | portDown (port : Nat)
  | portHoldExpiry (port : Nat)
  | anRetry (port : Nat)
  | quadCfgWrite (p : Path) (q : Nat) (value : Word)
  | quadPortEnWrite (p : Path) (q k : Nat) (value : Word)
  | fwdInsert (p : Path) (flow : Bool)
  | fwdDelete (p : Path) (flow : Bool)
  | fwdRead (p : Path) (flow : Bool)
  | fwdCommit (p : Path)
  | fwdCommitDone
  | fwdDiscard (p : Path)
  | ringAnnounceTimer
  | ringAnnounceRx (east : Bool) (h : HandOff)
  | ringElectTimeout
  | ringTopoRx (east : Bool) (h : HandOff)
  | ringTopoTimeout
  | ringReadyRx (east : Bool) (h : HandOff)
  | ringDataRx (east : Bool) (h : HandOff)
  | weirSwitchDone
  | weirStuckTimeout
  | weirHoldClosedWrite (p : Path) (value : Word)
  -- PCIe (R298–R308)
  | pcieCfgWrite (p : Path) (n : Nat) (value : Word)
  | pcieLinkUp (n rate width : Nat) (flit : Bool)
  | pcieLinkDown (n : Nat)
  | pcieConfigRequest (n : Nat) (r : CfgReq)
  | pcieInboundWrite (n : Nat) (bar : Option Nat) (addr : Nat) (bytes : List Byte) (be : BitVec 4) (poison : Bool)
  | pcieInboundRead (n : Nat) (bar : Option Nat) (addr len : Nat)
  | pcieCompletion (n : Nat) (addr : Nat) (bytes : List Byte) (ok : Bool)
  | pcieCplTimeout (n : Nat) (addr : Nat)
  -- Ibreham (R453–R464)
  | ibrImport (p : Path) (slot kek : Nat)
  | ibrClear (p : Path) (slot : Nat)
  | ibrAttest (p : Path)
  | ibrFuseCust (p : Path)
  -- the rows added after the first (R28, R36, R357, R429, R431, R433, R444, R457)
  | reservedLocationRead (addr bytes : Nat)
  | corePllRelock (clk : Clk)
  | overtemp (sensor : Nat) (value : BitVec 16)
  | wearHourCount
  | cpImgLoadDone (n : Nat)
  | ibrCommandDone
  | ledgerReadDone
  | i3cTargetResetEnd
  deriving DecidableEq, Repr

end Sys2Proof
end

