-- ==== Sys2Proof/Machine/Addr.lean ====
section
/-!
DEFINITION. The byte addresses of the block registers, under their names in the spec (R465, R474). A register of an
instance page takes the instance `n`; a register of an array takes the index `i`.
-/

namespace Sys2Proof.Machine.Reg

/-- DEV_MODE of DEV. -/
def devMode : Nat := 0x000040
/-- DEV_CTL of DEV. -/
def devCtl : Nat := 0x000044
/-- DEV_STAT of DEV. -/
def devStat : Nat := 0x000048
/-- DEV_SERIAL_LO of DEV. -/
def devSerialLo : Nat := 0x00004C
/-- DEV_SERIAL_HI of DEV. -/
def devSerialHi : Nat := 0x000050
/-- DEV_ID of DEV. -/
def devId : Nat := 0x000054
/-- DEV_CAP of DEV. -/
def devCap0 : Nat := 0x000058
/-- DEV_CAP[1] of DEV. -/
def devCap1 : Nat := 0x00005C
/-- DEV_CAP[2] of DEV. -/
def devCap2 : Nat := 0x000060
/-- DEV_CAP[3] of DEV. -/
def devCap3 : Nat := 0x000064
/-- DEV_CAP[4] of DEV. -/
def devCap4 : Nat := 0x000068
/-- DEV_CAP_LIVE of DEV. -/
def devCapLive (i : Nat) : Nat := 0x00006C + 4 * i
/-- DEV_RESET_CAUSE of DEV. -/
def devResetCause : Nat := 0x000080
/-- DEV_POR_COUNT of DEV. -/
def devPorCount : Nat := 0x000084
/-- DEV_LOG_IDX of DEV. -/
def devLogIdx : Nat := 0x000088
/-- DEV_MODE_LOG of DEV. -/
def devModeLog (i : Nat) : Nat := 0x00008C + 4 * i
/-- DEV_TJ_MAX of DEV. -/
def devTjMax : Nat := 0x0000CC
/-- DEV_TJ of DEV. -/
def devTj (i : Nat) : Nat := 0x0000D0 + 4 * i
/-- CLK_STAT of CLKPWR. -/
def clkStat : Nat := 0x000440
/-- PD_DRAIN_US of CLKPWR. -/
def pdDrainUs : Nat := 0x000444
/-- PD_STAT of CLKPWR. -/
def pdStat : Nat := 0x000448
/-- PD_DOMAIN_OFF of CLKPWR. -/
def pdDomainOff : Nat := 0x00044C
/-- SLACK_WAKE_DA_LO of CLKPWR. -/
def slackWakeDaLo : Nat := 0x000450
/-- SLACK_WAKE_DA_HI of CLKPWR. -/
def slackWakeDaHi : Nat := 0x000454
/-- SLACK_CTL of CLKPWR. -/
def slackCtl : Nat := 0x000458
/-- TJ_ALERT of CLKPWR. -/
def tjAlert : Nat := 0x00045C
/-- SLACK_ENTRIES of CLKPWR. -/
def slackEntries : Nat := 0x000460
/-- CFG_CTL of CFGCHK. -/
def cfgCtl : Nat := 0x000840
/-- CFG_COMMIT of CFGCHK. -/
def cfgCommit : Nat := 0x000844
/-- CFG_STAT of CFGCHK. -/
def cfgStat : Nat := 0x000848
/-- CFG_CRC_REF of CFGCHK. -/
def cfgCrcRef : Nat := 0x00084C
/-- CFG_CRC_LIVE of CFGCHK. -/
def cfgCrcLive : Nat := 0x000850
/-- CFG_MM_FIRST of CFGCHK. -/
def cfgMmFirst : Nat := 0x000854
/-- CFG_MM_COUNT of CFGCHK. -/
def cfgMmCount : Nat := 0x000858
/-- CFG_PAGE_SEL of CFGCHK. -/
def cfgPageSel : Nat := 0x00085C
/-- CFG_PAGE_REF of CFGCHK. -/
def cfgPageRef : Nat := 0x000860
/-- CFG_PAGE_LIVE of CFGCHK. -/
def cfgPageLive : Nat := 0x000864
/-- I3C_DA of I3C. -/
def i3cDa : Nat := 0x000C40
/-- I3C_LIMITS of I3C. -/
def i3cLimits : Nat := 0x000C44
/-- I3C_IBI of I3C. -/
def i3cIbi : Nat := 0x000C48
/-- I3C_XFERS of I3C. -/
def i3cXfers : Nat := 0x000C4C
/-- I3C_ACC_FAULTS of I3C. -/
def i3cAccFaults : Nat := 0x000C50
/-- I3C_IBIS of I3C. -/
def i3cIbis : Nat := 0x000C54
/-- I3C_IBI_NACKS of I3C. -/
def i3cIbiNacks : Nat := 0x000C58
/-- EVQ_CTL of EVQ. -/
def evqCtl : Nat := 0x001040
/-- EVQ_BASE_LO of EVQ. -/
def evqBaseLo : Nat := 0x001044
/-- EVQ_BASE_HI of EVQ. -/
def evqBaseHi : Nat := 0x001048
/-- EVQ_MIRROR_LO of EVQ. -/
def evqMirrorLo : Nat := 0x00104C
/-- EVQ_MIRROR_HI of EVQ. -/
def evqMirrorHi : Nat := 0x001050
/-- EVQ_PROD of EVQ. -/
def evqProd : Nat := 0x001054
/-- EVQ_CONS of EVQ. -/
def evqCons : Nat := 0x001058
/-- EVQ_NOTIFY_COAL of EVQ. -/
def evqNotifyCoal : Nat := 0x00105C
/-- EVQ_SUM of EVQ. -/
def evqSum : Nat := 0x001060
/-- EVQ_LOST of EVQ. -/
def evqLost (i : Nat) : Nat := 0x001064 + 4 * i
/-- EVQ_LAG_LIMIT of EVQ. -/
def evqLagLimit : Nat := 0x001078
/-- EVQ_REPOST of EVQ. -/
def evqRepost : Nat := 0x00107C
/-- EVQ_HEAD of EVQ. -/
def evqHead (i : Nat) : Nat := 0x001080 + 4 * i
/-- LDG_STAT of LEDGER. -/
def ldgStat : Nat := 0x001440
/-- LDG_SEQ of LEDGER. -/
def ldgSeq : Nat := 0x001444
/-- LDG_CMD of LEDGER. -/
def ldgCmd : Nat := 0x001448
/-- LDG_ADDR_LO of LEDGER. -/
def ldgAddrLo : Nat := 0x00144C
/-- LDG_ADDR_HI of LEDGER. -/
def ldgAddrHi : Nat := 0x001450
/-- LDG_LEN of LEDGER. -/
def ldgLen : Nat := 0x001454
/-- LDG_MIN_INTERVAL_S of LEDGER. -/
def ldgMinIntervalS : Nat := 0x001458
/-- LDG_WRITES of LEDGER. -/
def ldgWrites : Nat := 0x00145C
/-- LDG_FAULTS of LEDGER. -/
def ldgFaults : Nat := 0x001460
/-- LDG_SIZE_MIB of LEDGER. -/
def ldgSizeMib : Nat := 0x001464
/-- TB_NOW_LO of TIMEBASE. -/
def tbNowLo : Nat := 0x001840
/-- TB_NOW_HI of TIMEBASE. -/
def tbNowHi : Nat := 0x001844
/-- TB_TIME_S_LO of TIMEBASE. -/
def tbTimeSLo : Nat := 0x001848
/-- TB_TIME_S_HI of TIMEBASE. -/
def tbTimeSHi : Nat := 0x00184C
/-- TB_TIME_NS of TIMEBASE. -/
def tbTimeNs : Nat := 0x001850
/-- TB_TIME_SUB of TIMEBASE. -/
def tbTimeSub : Nat := 0x001854
/-- TB_OFFSET of TIMEBASE. -/
def tbOffset (i : Nat) : Nat := 0x001858 + 4 * i
/-- TB_RATE_LO of TIMEBASE. -/
def tbRateLo : Nat := 0x001868
/-- TB_RATE_HI of TIMEBASE. -/
def tbRateHi : Nat := 0x00186C
/-- TB_STEP_LO of TIMEBASE. -/
def tbStepLo : Nat := 0x001870
/-- TB_STEP_HI of TIMEBASE. -/
def tbStepHi : Nat := 0x001874
/-- TB_SYNC of TIMEBASE. -/
def tbSync : Nat := 0x001878
/-- TB_STAT of TIMEBASE. -/
def tbStat : Nat := 0x00187C
/-- TB_CMP_HIT of TIMEBASE. -/
def tbCmpHit : Nat := 0x001880
/-- TB_CMP_SKIP of TIMEBASE. -/
def tbCmpSkip : Nat := 0x001884
/-- TB_PPS_CTL of TIMEBASE. -/
def tbPpsCtl : Nat := 0x001888
/-- TB_PPS_IN_LO of TIMEBASE. -/
def tbPpsInLo : Nat := 0x00188C
/-- TB_PPS_IN_HI of TIMEBASE. -/
def tbPpsInHi : Nat := 0x001890
/-- TB_PPS_IN_CNT of TIMEBASE. -/
def tbPpsInCnt : Nat := 0x001894
/-- TB_CMP_PERIOD_NS of TIMEBASE. -/
def tbCmpPeriodNs (i : Nat) : Nat := 0x001A00 + 16 * i
/-- TB_CMP_PERIOD_FRAC of TIMEBASE. -/
def tbCmpPeriodFrac (i : Nat) : Nat := 0x001A04 + 16 * i
/-- TB_CMP_PHASE_NS of TIMEBASE. -/
def tbCmpPhaseNs (i : Nat) : Nat := 0x001A08 + 16 * i
/-- TB_CMP_CTL of TIMEBASE. -/
def tbCmpCtl (i : Nat) : Nat := 0x001A0C + 16 * i
/-- IBR_STAT of IBREHAM. -/
def ibrStat : Nat := 0x001C40
/-- IBR_CMD of IBREHAM. -/
def ibrCmd : Nat := 0x001C44
/-- IBR_ADDR_LO of IBREHAM. -/
def ibrAddrLo : Nat := 0x001C48
/-- IBR_ADDR_HI of IBREHAM. -/
def ibrAddrHi : Nat := 0x001C4C
/-- IBR_SLOT_SEL of IBREHAM. -/
def ibrSlotSel : Nat := 0x001C50
/-- IBR_SLOT_INFO of IBREHAM. -/
def ibrSlotInfo : Nat := 0x001C54
/-- IBR_SLOT_TAG of IBREHAM. -/
def ibrSlotTag : Nat := 0x001C58
/-- IBR_SLOT_USES of IBREHAM. -/
def ibrSlotUses : Nat := 0x001C5C
/-- IBR_SLOTS_USED of IBREHAM. -/
def ibrSlotsUsed : Nat := 0x001C60
/-- IBR_AUTH_FAIL of IBREHAM. -/
def ibrAuthFail : Nat := 0x001C64
/-- IBR_IMG_FAIL of IBREHAM. -/
def ibrImgFail : Nat := 0x001C68
/-- IBR_TAMPER of IBREHAM. -/
def ibrTamper : Nat := 0x001C6C
/-- IBR_OPENED_LO of IBREHAM. -/
def ibrOpenedLo : Nat := 0x001C70
/-- IBR_OPENED_HI of IBREHAM. -/
def ibrOpenedHi : Nat := 0x001C74
/-- WEIR_CTL of WEIR. -/
def weirCtl : Nat := 0x002040
/-- WEIR_STAT of WEIR. -/
def weirStat : Nat := 0x002044
/-- WEIR_SWITCHES of WEIR. -/
def weirSwitches : Nat := 0x002048
/-- STONE_STAT of STONE. -/
def stoneStat (n : Nat) : Nat := 0x010040 + 0x400 * n
/-- STONE_CUR of STONE. -/
def stoneCur (n : Nat) : Nat := 0x010044 + 0x400 * n
/-- STONE_CTL of STONE. -/
def stoneCtl (n : Nat) : Nat := 0x010048 + 0x400 * n
/-- STONE_SEGS of STONE. -/
def stoneSegs (n : Nat) : Nat := 0x01004C + 0x400 * n
/-- STONE_RECODE of STONE. -/
def stoneRecode (n : Nat) : Nat := 0x010050 + 0x400 * n
/-- STONE_REF_LOST of STONE. -/
def stoneRefLost (n : Nat) : Nat := 0x010054 + 0x400 * n
/-- STONE_SEAM_WAIT of STONE. -/
def stoneSeamWait (n : Nat) : Nat := 0x010058 + 0x400 * n
/-- STONE_RESUMED of STONE. -/
def stoneResumed (n : Nat) : Nat := 0x01005C + 0x400 * n
/-- DEC_STAT of DEC. -/
def decStat (n : Nat) : Nat := 0x020040 + 0x400 * n
/-- DEC_LOAD of DEC. -/
def decLoad (n : Nat) : Nat := 0x020044 + 0x400 * n
/-- DEC_PICS of DEC. -/
def decPics (n : Nat) : Nat := 0x020048 + 0x400 * n
/-- DEC_CTL of DEC. -/
def decCtl (n : Nat) : Nat := 0x02004C + 0x400 * n
/-- DEC_SES_SEL of DEC. -/
def decSesSel (n : Nat) : Nat := 0x020050 + 0x400 * n
/-- DEC_SES_DESC_LO of DEC. -/
def decSesDescLo (n : Nat) : Nat := 0x020054 + 0x400 * n
/-- DEC_SES_DESC_HI of DEC. -/
def decSesDescHi (n : Nat) : Nat := 0x020058 + 0x400 * n
/-- DEC_SES_CMD of DEC. -/
def decSesCmd (n : Nat) : Nat := 0x02005C + 0x400 * n
/-- DEC_SES_RESULT of DEC. -/
def decSesResult (n : Nat) : Nat := 0x020060 + 0x400 * n
/-- DEC_SES_STATE of DEC. -/
def decSesState (n : Nat) : Nat := 0x020064 + 0x400 * n
/-- DEC_SES_PICS of DEC. -/
def decSesPics (n : Nat) : Nat := 0x020068 + 0x400 * n
/-- DEC_SES_OUT of DEC. -/
def decSesOut (n : Nat) : Nat := 0x02006C + 0x400 * n
/-- DEC_SES_CONCEALED of DEC. -/
def decSesConcealed (n : Nat) : Nat := 0x020070 + 0x400 * n
/-- DEC_SES_PKT_DROP of DEC. -/
def decSesPktDrop (n : Nat) : Nat := 0x020074 + 0x400 * n
/-- DEC_SES_OUT_WAIT of DEC. -/
def decSesOutWait (n : Nat) : Nat := 0x020078 + 0x400 * n
/-- DEC_SES_AU_BYTES of DEC. -/
def decSesAuBytes (n : Nat) : Nat := 0x02007C + 0x400 * n
/-- RUN_CTL of RUNNERS. -/
def runCtl : Nat := 0x024040
/-- RUN_LIB_SEL of RUNNERS. -/
def runLibSel : Nat := 0x024044
/-- RUN_LIB_ADDR_LO of RUNNERS. -/
def runLibAddrLo : Nat := 0x024048
/-- RUN_LIB_ADDR_HI of RUNNERS. -/
def runLibAddrHi : Nat := 0x02404C
/-- RUN_LIB_CMD of RUNNERS. -/
def runLibCmd : Nat := 0x024050
/-- RUN_LIB_STAT of RUNNERS. -/
def runLibStat : Nat := 0x024054
/-- RUN_LIB_INFO of RUNNERS. -/
def runLibInfo : Nat := 0x024058
/-- RUN_SPARE_LIB of RUNNERS. -/
def runSpareLib : Nat := 0x02405C
/-- RUN_CKPT_BASE_LO of RUNNERS. -/
def runCkptBaseLo : Nat := 0x024060
/-- RUN_CKPT_BASE_HI of RUNNERS. -/
def runCkptBaseHi : Nat := 0x024064
/-- RUN_XSTATE_BASE_LO of RUNNERS. -/
def runXstateBaseLo : Nat := 0x024068
/-- RUN_XSTATE_BASE_HI of RUNNERS. -/
def runXstateBaseHi : Nat := 0x02406C
/-- RUN_POOL of RUNNERS. -/
def runPool : Nat := 0x024070
/-- RUN_TAKEOVERS of RUNNERS. -/
def runTakeovers : Nat := 0x024074
/-- RUNNER_ASSIGN[l] of RUNNERS. -/
def runnerAssign (i : Nat) : Nat := 0x024440 + 4 * i
/-- RUN_MAP of RUNNERS. -/
def runMap (i : Nat) : Nat := 0x024540 + 4 * i
/-- RUN_STAT[p] of RUNNERS. -/
def runStat (i : Nat) : Nat := 0x024840 + 4 * i
/-- RUN_CNT_SEL of RUNNERS. -/
def runCntSel : Nat := 0x024A00
/-- RUN_UNITS of RUNNERS. -/
def runUnits : Nat := 0x024A04
/-- RUN_OUT_LO of RUNNERS. -/
def runOutLo : Nat := 0x024A08
/-- RUN_OUT_HI of RUNNERS. -/
def runOutHi : Nat := 0x024A0C
/-- RUN_STALL of RUNNERS. -/
def runStall : Nat := 0x024A10
/-- RUN_XCYC of RUNNERS. -/
def runXcyc : Nat := 0x024A14
/-- RUN_DICT[i].ID of RUNNERS. -/
def runDictId (i : Nat) : Nat := 0x024C40 + 12 * i
/-- RUN_DICT[i].ADDR of RUNNERS. -/
def runDictAddr (i : Nat) : Nat := 0x024C44 + 12 * i
/-- RUN_DICT[i].LEN of RUNNERS. -/
def runDictLen (i : Nat) : Nat := 0x024C48 + 12 * i
/-- BOLTER_CUR of BOLTER. -/
def bolterCur (n : Nat) : Nat := 0x030040 + 0x400 * n
/-- BOLTER_LOAD_OUT of BOLTER. -/
def bolterLoadOut (n : Nat) : Nat := 0x030044 + 0x400 * n
/-- BOLTER_LOAD_IN of BOLTER. -/
def bolterLoadIn (n : Nat) : Nat := 0x030048 + 0x400 * n
/-- BOLTER_ROWS of BOLTER. -/
def bolterRows (n : Nat) : Nat := 0x03004C + 0x400 * n
/-- BOLTER_RDERR of BOLTER. -/
def bolterRderr (n : Nat) : Nat := 0x030050 + 0x400 * n
/-- BOLTER_COEF_SEL of BOLTER. -/
def bolterCoefSel (n : Nat) : Nat := 0x030054 + 0x400 * n
/-- BOLTER_COEF of BOLTER. -/
def bolterCoef (n : Nat) (i : Nat) : Nat := 0x030058 + 0x400 * n + 4 * i
/-- GOV_SEL of GOVERNOR. -/
def govSel : Nat := 0x038040
/-- GOV_STAT of GOVERNOR. -/
def govStat : Nat := 0x038044
/-- GOV_RATE of GOVERNOR. -/
def govRate : Nat := 0x038048
/-- GOV_FULL_LO of GOVERNOR. -/
def govFullLo : Nat := 0x03804C
/-- GOV_FULL_HI of GOVERNOR. -/
def govFullHi : Nat := 0x038050
/-- GOV_TARGET of GOVERNOR. -/
def govTarget : Nat := 0x038054
/-- GOV_CAP of GOVERNOR. -/
def govCap : Nat := 0x038058
/-- GOV_USED of GOVERNOR. -/
def govUsed : Nat := 0x03805C
/-- GOV_THETA_P of GOVERNOR. -/
def govThetaP : Nat := 0x038060
/-- GOV_THETA_I of GOVERNOR. -/
def govThetaI : Nat := 0x038064
/-- GOV_GRAD of GOVERNOR. -/
def govGrad : Nat := 0x038068
/-- GOV_QDELAY_US of GOVERNOR. -/
def govQdelayUs : Nat := 0x03806C
/-- GOV_LOSS of GOVERNOR. -/
def govLoss : Nat := 0x038070
/-- GOV_FLOOR_PICS of GOVERNOR. -/
def govFloorPics : Nat := 0x038074
/-- GOV_DECREASES of GOVERNOR. -/
def govDecreases : Nat := 0x038078
/-- GOV_REPORTS of GOVERNOR. -/
def govReports : Nat := 0x03807C
/-- GOV_DEC_FACTOR of GOVERNOR. -/
def govDecFactor : Nat := 0x038080
/-- GOV_INC_RATE of GOVERNOR. -/
def govIncRate : Nat := 0x038084
/-- GOV_GRAD_HI of GOVERNOR. -/
def govGradHi : Nat := 0x038088
/-- GOV_QDELAY_HI_US of GOVERNOR. -/
def govQdelayHiUs : Nat := 0x03808C
/-- GOV_LOSS_HI of GOVERNOR. -/
def govLossHi : Nat := 0x038090
/-- GOV_DEC_HOLD_MS of GOVERNOR. -/
def govDecHoldMs : Nat := 0x038094
/-- GOV_FB_TIMEOUT_MS of GOVERNOR. -/
def govFbTimeoutMs : Nat := 0x038098
/-- GOV_ROW_CTL of GOVERNOR. -/
def govRowCtl : Nat := 0x03809C
/-- GOV_ROW_MIN_BITS of GOVERNOR. -/
def govRowMinBits : Nat := 0x0380A0
/-- GOV_GUARD_CTBS of GOVERNOR. -/
def govGuardCtbs : Nat := 0x0380A4
/-- REF_CLS_SEL of REFPOOL. -/
def refClsSel : Nat := 0x038440
/-- REF_CLS_BUF_SIZE of REFPOOL. -/
def refClsBufSize : Nat := 0x038444
/-- REF_CLS_SBLK_SIZE of REFPOOL. -/
def refClsSblkSize : Nat := 0x038448
/-- REF_CLS_FREE of REFPOOL. -/
def refClsFree : Nat := 0x03844C
/-- REF_BUF_SEL of REFPOOL. -/
def refBufSel : Nat := 0x038450
/-- REF_BUF_STAT of REFPOOL. -/
def refBufStat : Nat := 0x038454
/-- REF_BUF_FRAME of REFPOOL. -/
def refBufFrame : Nat := 0x038458
/-- REF_BUF_RTP of REFPOOL. -/
def refBufRtp : Nat := 0x03845C
/-- REF_SES_SEL of REFPOOL. -/
def refSesSel : Nat := 0x038460
/-- REF_SES_STAT of REFPOOL. -/
def refSesStat : Nat := 0x038464
/-- REF_SES_ACKS of REFPOOL. -/
def refSesAcks : Nat := 0x038468
/-- REF_SES_LOSSES of REFPOOL. -/
def refSesLosses : Nat := 0x03846C
/-- REF_SES_RECOVERIES of REFPOOL. -/
def refSesRecoveries : Nat := 0x038470
/-- REF_RECODE_PEND of REFPOOL. -/
def refRecodePend : Nat := 0x038474
/-- REF_REGIONS of REFPOOL. -/
def refRegions : Nat := 0x038478
/-- REF_CONCEALED of REFPOOL. -/
def refConcealed : Nat := 0x03847C
/-- REF_CLS[i]_GEOM of REFPOOL. -/
def refClsGeom (i : Nat) : Nat := 0x038500 + 16 * i
/-- REF_CLS[i]_BASE_LO of REFPOOL. -/
def refClsBaseLo (i : Nat) : Nat := 0x038504 + 16 * i
/-- REF_CLS[i]_BASE_HI of REFPOOL. -/
def refClsBaseHi (i : Nat) : Nat := 0x038508 + 16 * i
/-- REF_CLS[i]_COUNT of REFPOOL. -/
def refClsCount (i : Nat) : Nat := 0x03850C + 16 * i
/-- SES_SEL of SESSIONS. -/
def sesSel : Nat := 0x038840
/-- SES_DESC_LO of SESSIONS. -/
def sesDescLo : Nat := 0x038844
/-- SES_DESC_HI of SESSIONS. -/
def sesDescHi : Nat := 0x038848
/-- SES_CMD of SESSIONS. -/
def sesCmd : Nat := 0x03884C
/-- SES_RESULT of SESSIONS. -/
def sesResult : Nat := 0x038850
/-- SES_STATE of SESSIONS. -/
def sesState : Nat := 0x038854
/-- SES_FRAME of SESSIONS. -/
def sesFrame : Nat := 0x038858
/-- SES_RD_FRAME of SESSIONS. -/
def sesRdFrame : Nat := 0x03885C
/-- SES_LINES of SESSIONS. -/
def sesLines : Nat := 0x038860
/-- SES_DEBT_US of SESSIONS. -/
def sesDebtUs : Nat := 0x038864
/-- SES_LAST_DUR_US of SESSIONS. -/
def sesLastDurUs : Nat := 0x038868
/-- SES_LATE of SESSIONS. -/
def sesLate : Nat := 0x03886C
/-- SES_DB_DROP of SESSIONS. -/
def sesDbDrop : Nat := 0x038870
/-- SES_ACTIVE of SESSIONS. -/
def sesActive : Nat := 0x038874
/-- STONE_LOAD of SESSIONS. -/
def stoneLoad (i : Nat) : Nat := 0x038880 + 4 * i
/-- LSTONE_MAP of SESSIONS. -/
def lstoneMap (i : Nat) : Nat := 0x0388C0 + 4 * i
/-- PKT_SEL of PACKETIZER. -/
def pktSel : Nat := 0x040040
/-- PKT_STAT of PACKETIZER. -/
def pktStat : Nat := 0x040044
/-- PKT_SEQ of PACKETIZER. -/
def pktSeq : Nat := 0x040048
/-- PKT_ROC of PACKETIZER. -/
def pktRoc : Nat := 0x04004C
/-- PKT_PACKETS of PACKETIZER. -/
def pktPackets : Nat := 0x040050
/-- PKT_OCTETS of PACKETIZER. -/
def pktOctets : Nat := 0x040054
/-- PKT_SRTCP_IDX of PACKETIZER. -/
def pktSrtcpIdx : Nat := 0x040058
/-- PKT_RTX of PACKETIZER. -/
def pktRtx : Nat := 0x04005C
/-- PKT_NACK_MISS of PACKETIZER. -/
def pktNackMiss : Nat := 0x040060
/-- PKT_FB_DROP of PACKETIZER. -/
def pktFbDrop : Nat := 0x040064
/-- PKT_FB_SKIP of PACKETIZER. -/
def pktFbSkip : Nat := 0x040068
/-- PKT_RTT_US of PACKETIZER. -/
def pktRttUs : Nat := 0x04006C
/-- PKT_RR of PACKETIZER. -/
def pktRr : Nat := 0x040070
/-- PKT_JITTER of PACKETIZER. -/
def pktJitter : Nat := 0x040074
/-- PKT_REKEY_IDX_LO of PACKETIZER. -/
def pktRekeyIdxLo : Nat := 0x040078
/-- PKT_REKEY_IDX_HI of PACKETIZER. -/
def pktRekeyIdxHi : Nat := 0x04007C
/-- PKT_REKEY_CMD of PACKETIZER. -/
def pktRekeyCmd : Nat := 0x040080
/-- PKT_TMPL_BASE_LO of PACKETIZER. -/
def pktTmplBaseLo : Nat := 0x040084
/-- PKT_TMPL_BASE_HI of PACKETIZER. -/
def pktTmplBaseHi : Nat := 0x040088
/-- PKT_INDEX_BASE_LO of PACKETIZER. -/
def pktIndexBaseLo : Nat := 0x04008C
/-- PKT_INDEX_BASE_HI of PACKETIZER. -/
def pktIndexBaseHi : Nat := 0x040090
/-- PKT_UTC_OFFSET of PACKETIZER. -/
def pktUtcOffset : Nat := 0x040094
/-- PKT_TOTAL of PACKETIZER. -/
def pktTotal : Nat := 0x040098
/-- LEAT_SEL of LEAT. -/
def leatSel : Nat := 0x040440
/-- LEAT_LSTAT of LEAT. -/
def leatLstat : Nat := 0x040444
/-- LEAT_LIVE of LEAT. -/
def leatLive : Nat := 0x040448
/-- LEAT_HIST of LEAT. -/
def leatHist : Nat := 0x04044C
/-- LEAT_SEGS of LEAT. -/
def leatSegs : Nat := 0x040450
/-- LEAT_PKTS of LEAT. -/
def leatPkts : Nat := 0x040454
/-- LEAT_QRESETS of LEAT. -/
def leatQresets : Nat := 0x040458
/-- LEAT_FLUSH of LEAT. -/
def leatFlush : Nat := 0x040460
/-- LEAT_OWNER of LEAT. -/
def leatOwner : Nat := 0x040464
/-- LEAT_STALE_US of LEAT. -/
def leatStaleUs : Nat := 0x040468
/-- LEAT_RESV of LEAT. -/
def leatResv : Nat := 0x04046C
/-- LEAT_RESET_TOTAL of LEAT. -/
def leatResetTotal : Nat := 0x040470
/-- LEAT_OPEN_MAP of LEAT. -/
def leatOpenMap (i : Nat) : Nat := 0x040840 + 4 * i
/-- LEAT_STALE_MAP of LEAT. -/
def leatStaleMap (i : Nat) : Nat := 0x040880 + 4 * i
/-- QUAD_CFG of QUAD. -/
def quadCfg (n : Nat) : Nat := 0x050040 + 0x400 * n
/-- QUAD_PORT of QUAD. -/
def quadPort (n : Nat) (i : Nat) : Nat := 0x050044 + 0x400 * n + 4 * i
/-- QUAD_LINK of QUAD. -/
def quadLink (n : Nat) (i : Nat) : Nat := 0x050054 + 0x400 * n + 4 * i
/-- QUAD_CNT_SEL of QUAD. -/
def quadCntSel (n : Nat) : Nat := 0x050064 + 0x400 * n
/-- RX_FRAMES of QUAD. -/
def rxFrames (n : Nat) : Nat := 0x050068 + 0x400 * n
/-- RX_BYTES_LO of QUAD. -/
def rxBytesLo (n : Nat) : Nat := 0x05006C + 0x400 * n
/-- RX_BYTES_HI of QUAD. -/
def rxBytesHi (n : Nat) : Nat := 0x050070 + 0x400 * n
/-- RX_ERR of QUAD. -/
def rxErr (n : Nat) : Nat := 0x050074 + 0x400 * n
/-- TX_FRAMES of QUAD. -/
def txFrames (n : Nat) : Nat := 0x050078 + 0x400 * n
/-- TX_BYTES_LO of QUAD. -/
def txBytesLo (n : Nat) : Nat := 0x05007C + 0x400 * n
/-- TX_BYTES_HI of QUAD. -/
def txBytesHi (n : Nat) : Nat := 0x050080 + 0x400 * n
/-- TX_ABORT of QUAD. -/
def txAbort (n : Nat) : Nat := 0x050084 + 0x400 * n
/-- FEC_CORR of QUAD. -/
def fecCorr (n : Nat) : Nat := 0x050088 + 0x400 * n
/-- FEC_UNCORR of QUAD. -/
def fecUncorr (n : Nat) : Nat := 0x05008C + 0x400 * n
/-- DROP_HELD of QUAD. -/
def dropHeld (n : Nat) : Nat := 0x050090 + 0x400 * n
/-- DROP_AGE of QUAD. -/
def dropAge (n : Nat) : Nat := 0x050094 + 0x400 * n
/-- DROP_QFULL of QUAD. -/
def dropQfull (n : Nat) : Nat := 0x050098 + 0x400 * n
/-- SW_PORT_HOLD_US of SWITCH. -/
def swPortHoldUs : Nat := 0x058040
/-- SW_AGE_MAX_US of SWITCH. -/
def swAgeMaxUs : Nat := 0x058044
/-- SW_RESV_CELLS of SWITCH. -/
def swResvCells : Nat := 0x058048
/-- SW_PORT_QMAX of SWITCH. -/
def swPortQmax : Nat := 0x05804C
/-- SW_CELLS_FREE of SWITCH. -/
def swCellsFree : Nat := 0x058050
/-- SW_CELLS_LOW of SWITCH. -/
def swCellsLow : Nat := 0x058054
/-- SW_DROP_SEL of SWITCH. -/
def swDropSel : Nat := 0x058058
/-- SW_DROP_CNT of SWITCH. -/
def swDropCnt : Nat := 0x05805C
/-- SW_RING_CTL of SWITCH. -/
def swRingCtl : Nat := 0x058060
/-- SW_RING_DA_LO of SWITCH. -/
def swRingDaLo : Nat := 0x058064
/-- SW_RING_DA_HI of SWITCH. -/
def swRingDaHi : Nat := 0x058068
/-- SW_RING_CH of SWITCH. -/
def swRingCh : Nat := 0x05806C
/-- SW_RING_STAT of SWITCH. -/
def swRingStat : Nat := 0x058070
/-- SW_RING_MASTER_LO of SWITCH. -/
def swRingMasterLo : Nat := 0x058074
/-- SW_RING_MASTER_HI of SWITCH. -/
def swRingMasterHi : Nat := 0x058078
/-- SW_RING_CHANGES of SWITCH. -/
def swRingChanges : Nat := 0x05807C
/-- SW_RING_PORTS of SWITCH. -/
def swRingPorts : Nat := 0x058080
/-- SW_RING_BAD of SWITCH. -/
def swRingBad : Nat := 0x058084
/-- FWD_KEY of FWD. -/
def fwdKey (i : Nat) : Nat := 0x058440 + 4 * i
/-- FWD_DATA of FWD. -/
def fwdData (i : Nat) : Nat := 0x058468 + 4 * i
/-- FWD_CMD of FWD. -/
def fwdCmd : Nat := 0x058478
/-- FWD_STAT of FWD. -/
def fwdStat : Nat := 0x05847C
/-- FWD_INDEX of FWD. -/
def fwdIndex : Nat := 0x058480
/-- FWD_GEN of FWD. -/
def fwdGen : Nat := 0x058484
/-- FWD_USED_L2 of FWD. -/
def fwdUsedL2 : Nat := 0x058488
/-- FWD_USED_FLOW of FWD. -/
def fwdUsedFlow : Nat := 0x05848C
/-- FWD_MISS of FWD. -/
def fwdMiss : Nat := 0x058490
/-- MIR_CTL of MIRROR. -/
def mirCtl : Nat := 0x058840
/-- MIR_BASE_LO of MIRROR. -/
def mirBaseLo : Nat := 0x058844
/-- MIR_BASE_HI of MIRROR. -/
def mirBaseHi : Nat := 0x058848
/-- MIR_PROD of MIRROR. -/
def mirProd : Nat := 0x05884C
/-- MIR_RX of MIRROR. -/
def mirRx (i : Nat) : Nat := 0x058850 + 4 * i
/-- MIR_TX of MIRROR. -/
def mirTx (i : Nat) : Nat := 0x05885C + 4 * i
/-- MIR_OVERRUN of MIRROR. -/
def mirOverrun : Nat := 0x058868
/-- SLU_FLOW_BASE_LO of SLUICE. -/
def sluFlowBaseLo : Nat := 0x058C40
/-- SLU_FLOW_BASE_HI of SLUICE. -/
def sluFlowBaseHi : Nat := 0x058C44
/-- SLU_BACKLOG of SLUICE. -/
def sluBacklog : Nat := 0x058C48
/-- SLU_FLOW_SEL of SLUICE. -/
def sluFlowSel : Nat := 0x058C4C
/-- SLU_FLOW_STAT of SLUICE. -/
def sluFlowStat : Nat := 0x058C50
/-- SLU_FLOW_RATE of SLUICE. -/
def sluFlowRate : Nat := 0x058C54
/-- SLU_FLOW_CREDIT of SLUICE. -/
def sluFlowCredit : Nat := 0x058C58
/-- SLU_FLOW_PKTS of SLUICE. -/
def sluFlowPkts : Nat := 0x058C5C
/-- SLU_FLOW_CMD of SLUICE. -/
def sluFlowCmd : Nat := 0x058C60
/-- SLU_FLOW_RESULT of SLUICE. -/
def sluFlowResult : Nat := 0x058C64
/-- SLU_TBL_SEL of SLUICE. -/
def sluTblSel : Nat := 0x058C68
/-- SLU_TBL_HDR of SLUICE. -/
def sluTblHdr : Nat := 0x058C6C
/-- SLU_TBL_PHASE of SLUICE. -/
def sluTblPhase : Nat := 0x058C70
/-- SLU_TBL_COMMIT of SLUICE. -/
def sluTblCommit : Nat := 0x058C74
/-- SLU_TBL_STAT of SLUICE. -/
def sluTblStat : Nat := 0x058C78
/-- SLU_GATE_DROP of SLUICE. -/
def sluGateDrop : Nat := 0x058C7C
/-- SLU_BOUND of SLUICE. -/
def sluBound : Nat := 0x058C80
/-- SLU_TBL_ENTRY[e] of SLUICE. -/
def sluTblEntry (i : Nat) : Nat := 0x058D00 + 4 * i
/-- PCIE_CFG of PCIE. -/
def pcieCfg (n : Nat) : Nat := 0x060040 + 0x400 * n
/-- PCIE_ID of PCIE. -/
def pcieId (n : Nat) : Nat := 0x060044 + 0x400 * n
/-- PCIE_AP of PCIE. -/
def pcieAp (n : Nat) : Nat := 0x060048 + 0x400 * n
/-- PCIE_AP_BASE_LO of PCIE. -/
def pcieApBaseLo (n : Nat) : Nat := 0x06004C + 0x400 * n
/-- PCIE_AP_BASE_HI of PCIE. -/
def pcieApBaseHi (n : Nat) : Nat := 0x060050 + 0x400 * n
/-- PCIE_IN_BASE_LO of PCIE. -/
def pcieInBaseLo (n : Nat) : Nat := 0x060054 + 0x400 * n
/-- PCIE_IN_BASE_HI of PCIE. -/
def pcieInBaseHi (n : Nat) : Nat := 0x060058 + 0x400 * n
/-- PCIE_IN_LIMIT_LO of PCIE. -/
def pcieInLimitLo (n : Nat) : Nat := 0x06005C + 0x400 * n
/-- PCIE_IN_LIMIT_HI of PCIE. -/
def pcieInLimitHi (n : Nat) : Nat := 0x060060 + 0x400 * n
/-- PCIE_LINK of PCIE. -/
def pcieLink (n : Nat) : Nat := 0x060064 + 0x400 * n
/-- PCIE_DISCARD of PCIE. -/
def pcieDiscard (n : Nat) : Nat := 0x060068 + 0x400 * n
/-- PCIE_UR_RX of PCIE. -/
def pcieUrRx (n : Nat) : Nat := 0x06006C + 0x400 * n
/-- PCIE_POISON of PCIE. -/
def pciePoison (n : Nat) : Nat := 0x060070 + 0x400 * n
/-- PCIE_CPL_TO of PCIE. -/
def pcieCplTo (n : Nat) : Nat := 0x060074 + 0x400 * n
/-- PCIE_CORR of PCIE. -/
def pcieCorr (n : Nat) : Nat := 0x060078 + 0x400 * n
/-- NVME_CTL of PCIE. -/
def nvmeCtl (n : Nat) : Nat := 0x060080 + 0x400 * n
/-- NVME_Q_BASE_LO of PCIE. -/
def nvmeQBaseLo (n : Nat) : Nat := 0x060084 + 0x400 * n
/-- NVME_Q_BASE_HI of PCIE. -/
def nvmeQBaseHi (n : Nat) : Nat := 0x060088 + 0x400 * n
/-- NVME_Q_SIZE of PCIE. -/
def nvmeQSize (n : Nat) : Nat := 0x06008C + 0x400 * n
/-- NVME_STAT of PCIE. -/
def nvmeStat (n : Nat) : Nat := 0x060090 + 0x400 * n
/-- NVME_MDTS of PCIE. -/
def nvmeMdts (n : Nat) : Nat := 0x060094 + 0x400 * n
/-- NVME_CMDS of PCIE. -/
def nvmeCmds (n : Nat) : Nat := 0x060098 + 0x400 * n
/-- NVME_ERRS of PCIE. -/
def nvmeErrs (n : Nat) : Nat := 0x06009C + 0x400 * n
/-- NVME_RESETS of PCIE. -/
def nvmeResets (n : Nat) : Nat := 0x0600A0 + 0x400 * n
/-- NVME_NS_SEL of PCIE. -/
def nvmeNsSel (n : Nat) : Nat := 0x0600A4 + 0x400 * n
/-- NVME_NS_SIZE_LO of PCIE. -/
def nvmeNsSizeLo (n : Nat) : Nat := 0x0600A8 + 0x400 * n
/-- NVME_NS_SIZE_HI of PCIE. -/
def nvmeNsSizeHi (n : Nat) : Nat := 0x0600AC + 0x400 * n
/-- NVME_NS_LBA of PCIE. -/
def nvmeNsLba (n : Nat) : Nat := 0x0600B0 + 0x400 * n
/-- MR_CHAN_SEL of MILLRACE. -/
def mrChanSel : Nat := 0x070040
/-- CHAN_CFG of MILLRACE. -/
def chanCfg : Nat := 0x070044
/-- CHAN_PRIV of MILLRACE. -/
def chanPriv : Nat := 0x070048
/-- CHAN_PROG_LO of MILLRACE. -/
def chanProgLo : Nat := 0x07004C
/-- CHAN_PROG_HI of MILLRACE. -/
def chanProgHi : Nat := 0x070050
/-- CHAN_SR_BASE_LO of MILLRACE. -/
def chanSrBaseLo : Nat := 0x070054
/-- CHAN_SR_BASE_HI of MILLRACE. -/
def chanSrBaseHi : Nat := 0x070058
/-- CHAN_STAT of MILLRACE. -/
def chanStat : Nat := 0x07005C
/-- CHAN_PC_LO of MILLRACE. -/
def chanPcLo : Nat := 0x070060
/-- CHAN_PC_HI of MILLRACE. -/
def chanPcHi : Nat := 0x070064
/-- CHAN_SR_PROD of MILLRACE. -/
def chanSrProd : Nat := 0x070068
/-- CHAN_STEPS of MILLRACE. -/
def chanSteps : Nat := 0x07006C
/-- MR_CHAN_CMD of MILLRACE. -/
def mrChanCmd : Nat := 0x070070
/-- MR_DEVTAB_BASE_LO of MILLRACE. -/
def mrDevtabBaseLo : Nat := 0x070074
/-- MR_DEVTAB_BASE_HI of MILLRACE. -/
def mrDevtabBaseHi : Nat := 0x070078
/-- MR_ACTIVE of MILLRACE. -/
def mrActive : Nat := 0x07007C
/-- MR_FAULT_MAP of MILLRACE. -/
def mrFaultMap (i : Nat) : Nat := 0x070080 + 4 * i
/-- MR_DB_DROP of MILLRACE. -/
def mrDbDrop : Nat := 0x070100
/-- EVR_INJECT of MILLRACE. -/
def evrInject : Nat := 0x070180
/-- EVR_WCNT_SEL of MILLRACE. -/
def evrWcntSel : Nat := 0x070184
/-- EVR_WCNT of MILLRACE. -/
def evrWcnt : Nat := 0x070188
/-- EVR_MSGS of MILLRACE. -/
def evrMsgs : Nat := 0x07018C
/-- EVR_SWREC of MILLRACE. -/
def evrSwrec (i : Nat) : Nat := 0x070200 + 4 * i
/-- CP_STAT of CP. -/
def cpStat (n : Nat) : Nat := 0x070440 + 0x400 * n
/-- CP_PC of CP. -/
def cpPc (n : Nat) : Nat := 0x070444 + 0x400 * n
/-- CP_TRAP of CP. -/
def cpTrap (n : Nat) : Nat := 0x070448 + 0x400 * n
/-- CP_TRAPS of CP. -/
def cpTraps (n : Nat) : Nat := 0x07044C + 0x400 * n
/-- CP_EIC_SEL of CP. -/
def cpEicSel (n : Nat) : Nat := 0x070450 + 0x400 * n
/-- CP_EIC_PEND of CP. -/
def cpEicPend (n : Nat) : Nat := 0x070454 + 0x400 * n
/-- CP_EIC_MASK of CP. -/
def cpEicMask (n : Nat) : Nat := 0x070458 + 0x400 * n
/-- CP_EIC_AUTO of CP. -/
def cpEicAuto (n : Nat) : Nat := 0x07045C + 0x400 * n
/-- CP_EIC_CMD of CP. -/
def cpEicCmd (n : Nat) : Nat := 0x070460 + 0x400 * n
/-- CP_EIC_COAL of CP. -/
def cpEicCoal (n : Nat) : Nat := 0x070464 + 0x400 * n
/-- CP_EIC_HOLD_MAX of CP. -/
def cpEicHoldMax (n : Nat) : Nat := 0x070468 + 0x400 * n
/-- CP_EXT_LIMIT_US of CP. -/
def cpExtLimitUs (n : Nat) : Nat := 0x07046C + 0x400 * n
/-- CP_IMG_ADDR_LO of CP. -/
def cpImgAddrLo (n : Nat) : Nat := 0x070470 + 0x400 * n
/-- CP_IMG_ADDR_HI of CP. -/
def cpImgAddrHi (n : Nat) : Nat := 0x070474 + 0x400 * n
/-- CP_IMG_CMD of CP. -/
def cpImgCmd (n : Nat) : Nat := 0x070478 + 0x400 * n
/-- CP_IMG_STAT of CP. -/
def cpImgStat (n : Nat) : Nat := 0x07047C + 0x400 * n
/-- CP_WAKES of CP. -/
def cpWakes (n : Nat) : Nat := 0x070480 + 0x400 * n
/-- CP_EXT_CALLS of CP. -/
def cpExtCalls (n : Nat) : Nat := 0x070484 + 0x400 * n
/-- CP_EIC_GSUM of CP. -/
def cpEicGsum (n : Nat) (i : Nat) : Nat := 0x070488 + 0x400 * n + 4 * i
/-- PAWL_STAT of PAWL. -/
def pawlStat (n : Nat) : Nat := 0x078040 + 0x400 * n
/-- PAWL_EV of PAWL. -/
def pawlEv (n : Nat) : Nat := 0x078044 + 0x400 * n
/-- PAWL_T_LO of PAWL. -/
def pawlTLo (n : Nat) : Nat := 0x078048 + 0x400 * n
/-- PAWL_T_HI of PAWL. -/
def pawlTHi (n : Nat) : Nat := 0x07804C + 0x400 * n
/-- PAWL_CMP_SEL of PAWL. -/
def pawlCmpSel (n : Nat) : Nat := 0x078050 + 0x400 * n
/-- PAWL_TRAP of PAWL. -/
def pawlTrap (n : Nat) : Nat := 0x078054 + 0x400 * n
/-- PAWL_TRAPS of PAWL. -/
def pawlTraps (n : Nat) : Nat := 0x078058 + 0x400 * n
/-- PAWL_IMG_ADDR_LO of PAWL. -/
def pawlImgAddrLo (n : Nat) : Nat := 0x07805C + 0x400 * n
/-- PAWL_IMG_ADDR_HI of PAWL. -/
def pawlImgAddrHi (n : Nat) : Nat := 0x078060 + 0x400 * n
/-- PAWL_IMG_CMD of PAWL. -/
def pawlImgCmd (n : Nat) : Nat := 0x078064 + 0x400 * n
/-- PAWL_IMG_STAT of PAWL. -/
def pawlImgStat (n : Nat) : Nat := 0x078068 + 0x400 * n
/-- DMA_STAT of DMA. -/
def dmaStat (n : Nat) : Nat := 0x080040 + 0x400 * n
/-- DMA_CUR_SRC_LO of DMA. -/
def dmaCurSrcLo (n : Nat) : Nat := 0x080044 + 0x400 * n
/-- DMA_CUR_SRC_HI of DMA. -/
def dmaCurSrcHi (n : Nat) : Nat := 0x080048 + 0x400 * n
/-- DMA_CUR_DST_LO of DMA. -/
def dmaCurDstLo (n : Nat) : Nat := 0x08004C + 0x400 * n
/-- DMA_CUR_DST_HI of DMA. -/
def dmaCurDstHi (n : Nat) : Nat := 0x080050 + 0x400 * n
/-- DMA_CUR_LEFT of DMA. -/
def dmaCurLeft (n : Nat) : Nat := 0x080054 + 0x400 * n
/-- DMA_CUR_CTL of DMA. -/
def dmaCurCtl (n : Nat) : Nat := 0x080058 + 0x400 * n
/-- DMA_SH of DMA. -/
def dmaSh (n : Nat) (i : Nat) : Nat := 0x08005C + 0x400 * n + 4 * i
/-- DMA_LAST of DMA. -/
def dmaLast (n : Nat) : Nat := 0x080078 + 0x400 * n
/-- DMA_LAST_DONE of DMA. -/
def dmaLastDone (n : Nat) : Nat := 0x08007C + 0x400 * n
/-- DMA_XFERS of DMA. -/
def dmaXfers (n : Nat) : Nat := 0x080080 + 0x400 * n
/-- DMA_BYTES_LO of DMA. -/
def dmaBytesLo (n : Nat) : Nat := 0x080084 + 0x400 * n
/-- DMA_BYTES_HI of DMA. -/
def dmaBytesHi (n : Nat) : Nat := 0x080088 + 0x400 * n
/-- DMA_FAILS of DMA. -/
def dmaFails (n : Nat) : Nat := 0x08008C + 0x400 * n
/-- HOP_CMD of HOPPER. -/
def hopCmd : Nat := 0x090040
/-- HOP_CMD_STAT of HOPPER. -/
def hopCmdStat : Nat := 0x090044
/-- HOP_SCALE of HOPPER. -/
def hopScale : Nat := 0x090048
/-- HOP_WAIT_LIMIT_US of HOPPER. -/
def hopWaitLimitUs : Nat := 0x09004C
/-- HOP_OWN_SEL of HOPPER. -/
def hopOwnSel : Nat := 0x090050
/-- HOP_OWN_HELD of HOPPER. -/
def hopOwnHeld (i : Nat) : Nat := 0x090054 + 4 * i
/-- HOP_OWN_WAITS of HOPPER. -/
def hopOwnWaits : Nat := 0x09006C
/-- HOP_GRANTS of HOPPER. -/
def hopGrants : Nat := 0x090070
/-- HOP_LEAKED of HOPPER. -/
def hopLeaked : Nat := 0x090074
/-- HOP_POOL[p]_BASE_LO of HOPPER. -/
def hopPoolBaseLo (i : Nat) : Nat := 0x090100 + 32 * i
/-- HOP_POOL[p]_BASE_HI of HOPPER. -/
def hopPoolBaseHi (i : Nat) : Nat := 0x090104 + 32 * i
/-- HOP_POOL[p]_COUNT of HOPPER. -/
def hopPoolCount (i : Nat) : Nat := 0x090108 + 32 * i
/-- HOP_POOL[p]_RING_LO of HOPPER. -/
def hopPoolRingLo (i : Nat) : Nat := 0x09010C + 32 * i
/-- HOP_POOL[p]_RING_HI of HOPPER. -/
def hopPoolRingHi (i : Nat) : Nat := 0x090110 + 32 * i
/-- HOP_POOL[p]_FREE of HOPPER. -/
def hopPoolFree (i : Nat) : Nat := 0x090114 + 32 * i
/-- HOP_POOL[p]_STAT of HOPPER. -/
def hopPoolStat (i : Nat) : Nat := 0x090118 + 32 * i
/-- HOP_POOL[p]_LOW of HOPPER. -/
def hopPoolLow (i : Nat) : Nat := 0x09011C + 32 * i
/-- HOP_RESV[o]_A of HOPPER. -/
def hopResvA (i : Nat) : Nat := 0x090200 + 8 * i
/-- HOP_RESV[o]_B of HOPPER. -/
def hopResvB (i : Nat) : Nat := 0x090204 + 8 * i
/-- MC_INFO of MEMCTL. -/
def mcInfo (n : Nat) : Nat := 0x0A0040 + 0x400 * n
/-- MC_REF of MEMCTL. -/
def mcRef (n : Nat) : Nat := 0x0A0044 + 0x400 * n
/-- MC_ACT_WINDOW_US of MEMCTL. -/
def mcActWindowUs (n : Nat) : Nat := 0x0A0048 + 0x400 * n
/-- MC_ACT_LIMIT of MEMCTL. -/
def mcActLimit (n : Nat) : Nat := 0x0A004C + 0x400 * n
/-- MC_THROTTLE of MEMCTL. -/
def mcThrottle (n : Nat) : Nat := 0x0A0050 + 0x400 * n
/-- MC_THROTTLED of MEMCTL. -/
def mcThrottled (n : Nat) : Nat := 0x0A0054 + 0x400 * n
/-- MC_CHK_FLIP of MEMCTL. -/
def mcChkFlip (n : Nat) : Nat := 0x0A0058 + 0x400 * n
/-- MC_FLIP_ADDR_LO of MEMCTL. -/
def mcFlipAddrLo (n : Nat) : Nat := 0x0A005C + 0x400 * n
/-- MC_FLIP_ADDR_HI of MEMCTL. -/
def mcFlipAddrHi (n : Nat) : Nat := 0x0A0060 + 0x400 * n
/-- MC_READS_LO of MEMCTL. -/
def mcReadsLo (n : Nat) : Nat := 0x0A0064 + 0x400 * n
/-- MC_READS_HI of MEMCTL. -/
def mcReadsHi (n : Nat) : Nat := 0x0A0068 + 0x400 * n
/-- MC_WRITES_LO of MEMCTL. -/
def mcWritesLo (n : Nat) : Nat := 0x0A006C + 0x400 * n
/-- MC_WRITES_HI of MEMCTL. -/
def mcWritesHi (n : Nat) : Nat := 0x0A0070 + 0x400 * n
/-- MC_REFRESHES of MEMCTL. -/
def mcRefreshes (n : Nat) : Nat := 0x0A0074 + 0x400 * n
/-- MC_REFETCH_OK of MEMCTL. -/
def mcRefetchOk (n : Nat) : Nat := 0x0A0078 + 0x400 * n
/-- MC_LINE_UE of MEMCTL. -/
def mcLineUe (n : Nat) : Nat := 0x0A007C + 0x400 * n
/-- MC_THROTTLES of MEMCTL. -/
def mcThrottles (n : Nat) : Nat := 0x0A0080 + 0x400 * n
/-- MA_CTL of MEMARB. -/
def maCtl : Nat := 0x0A4040
/-- MA_BURST of MEMARB. -/
def maBurst : Nat := 0x0A4044
/-- MA_WAIT_LIMIT of MEMARB. -/
def maWaitLimit : Nat := 0x0A4048
/-- MA_STAT of MEMARB. -/
def maStat : Nat := 0x0A404C
/-- MA_SIZE of MEMARB. -/
def maSize : Nat := 0x0A4050
/-- MA_BANK_HASH of MEMARB. -/
def maBankHash (i : Nat) : Nat := 0x0A4060 + 4 * i
/-- MA_CE_BUCKET of MEMARB. -/
def maCeBucket : Nat := 0x0A4080
/-- MA_SCRUB_BASE_LO of MEMARB. -/
def maScrubBaseLo : Nat := 0x0A4090
/-- MA_SCRUB_BASE_HI of MEMARB. -/
def maScrubBaseHi : Nat := 0x0A4094
/-- MA_SCRUB_LEN_LO of MEMARB. -/
def maScrubLenLo : Nat := 0x0A4098
/-- MA_SCRUB_LEN_HI of MEMARB. -/
def maScrubLenHi : Nat := 0x0A409C
/-- MA_SCRUB_CMD of MEMARB. -/
def maScrubCmd : Nat := 0x0A40A0
/-- MA_SCRUB_STAT of MEMARB. -/
def maScrubStat : Nat := 0x0A40A4
/-- MA_SCRUB_CORR of MEMARB. -/
def maScrubCorr : Nat := 0x0A40A8
/-- MA_SCRUB_UNCORR of MEMARB. -/
def maScrubUncorr : Nat := 0x0A40AC
/-- MA_SCRUB_DONE_LO of MEMARB. -/
def maScrubDoneLo : Nat := 0x0A40B0
/-- MA_SCRUB_DONE_HI of MEMARB. -/
def maScrubDoneHi : Nat := 0x0A40B4
/-- MA_SCRUB_RATE of MEMARB. -/
def maScrubRate : Nat := 0x0A40B8
/-- MA_SCRUB_FAIL[i]_LO of MEMARB. -/
def maScrubFailLo (i : Nat) : Nat := 0x0A40C0 + 8 * i
/-- MA_SCRUB_FAIL[i]_HI of MEMARB. -/
def maScrubFailHi (i : Nat) : Nat := 0x0A40C4 + 8 * i

end Sys2Proof.Machine.Reg
end

