-- ==== Sys2Proof/Config.lean ====
section
/-!
DEFINITION. What one implementation fixes: which of the three parts it is (R1), the clock periods (R12), and the values
that the spec leaves open. An open value is an opaque constant: no proof can see what it is.
-/

namespace Sys2Proof

/-- The three parts cut from the die (R1). -/
inductive Part where
  | nrt9680 | nrt9664 | nrt9640
  deriving DecidableEq, Repr

/-- Picks the value of a variant table (R1, R2) for the part. -/
def Part.pick {α : Type} (p : Part) (a b c : α) : α :=
  match p with
  | .nrt9680 => a
  | .nrt9664 => b
  | .nrt9640 => c

/-- Physical encode stones (R1). -/
def Part.stonesPhys (p : Part) : Nat := p.pick 34 26 17
/-- Usable encode stones (R1). -/
def Part.stonesUse (p : Part) : Nat := p.pick 32 24 16
/-- Decode pipelines (R1). -/
def Part.pipes (p : Part) : Nat := p.pick 8 4 0
/-- Physical runners (R1). -/
def Part.runnersPhys (p : Part) : Nat := p.pick 66 50 33
/-- Usable runners (R1). -/
def Part.runnersUse (p : Part) : Nat := p.pick 64 48 32
/-- Quads and pawls (R1, R2). -/
def Part.quads (p : Part) : Nat := p.pick 24 16 12
/-- PCIe-capable quads (R1). -/
def Part.pcieQuads (p : Part) : Nat := p.pick 20 16 12
/-- GDDR7 sites (R1). -/
def Part.sites (p : Part) : Nat := p.pick 12 8 6
/-- The Weir is present (R1). -/
def Part.hasWeir (p : Part) : Bool := p.pick true true false
/-- Encode sessions (R1). -/
def Part.encSessions (p : Part) : Nat := p.pick 512 384 256
/-- Decode sessions (R1). -/
def Part.decSessions (p : Part) : Nat := p.pick 128 64 0
/-- Physical channel processors (R1). -/
def Part.cpsPhys (p : Part) : Nat := p.pick 17 13 9
/-- Usable channel processors (R1). -/
def Part.cpsUse (p : Part) : Nat := p.pick 16 12 8
/-- Channels (R1). -/
def Part.channels (p : Part) : Nat := p.pick 1024 768 512
/-- Device-table entries (R1). -/
def Part.devtab (p : Part) : Nat := p.pick 4096 3072 2048
/-- DEV_ID.PART (R432). -/
def Part.idWord (p : Part) : Nat := p.pick 0x9680 0x9664 0x9640

/-- Ticks of TCLK in a microsecond: 1.25 GHz (R12). -/
def usTicks (n : Nat) : Nat := 1250 * n
/-- Ticks of TCLK in a millisecond (R12). -/
def msTicks (n : Nat) : Nat := 1250000 * n
/-- Ticks of TCLK in a second (R12). -/
def secTicks (n : Nat) : Nat := 1250000000 * n
/-- Ticks of TCLK, rounded up, in `n` cycles of FCLK at 1.6 GHz (R12). -/
def fclkTicks (n : Nat) : Nat := (25 * n + 31) / 32
/-- Ticks of TCLK, rounded up, in `n` cycles of VCLK at 1.4 GHz (R12). -/
def vclkTicks (n : Nat) : Nat := (25 * n + 27) / 28
/-- Ticks of TCLK, rounded up, in `n` nanoseconds (R12). -/
def nsTicks (n : Nat) : Nat := (5 * n + 3) / 4

/-- The motion-compensated prediction of a 16×16 luma unit at a fraction of a sample (R168), from the 23×23 reference samples around it:
codec, fractions across and down. The codecs' interpolation filters are not in the spec (assumption 109). -/
opaque Config.mcLuma : Nat → Nat → Nat → List Nat → List Nat
/-- The same for an 8×8 chroma unit, from 15×15 samples. -/
opaque Config.mcChroma : Nat → Nat → Nat → List Nat → List Nat

/-- The entry of the packet index for a packet (R228): place in the lane, length, send time, retransmissions (assumption 115). -/
opaque Config.pktEntry : Nat → Nat → Option Nat → Nat → List (BitVec 8)

/-- The byte by which the MIPI I3C specification encodes a reset time in milliseconds for RSTACT 0x81 and 0x82 (R28);
the spec does not give the encoding (assumption 15). -/
opaque Config.mipiResetTime : Nat → BitVec 8

/-- A value that the spec leaves open, fresh for each number (assumption 8). -/
opaque Config.freeNat : Nat → Nat

/-- How far a colour conversion result lies from the exact one (R83, within 1): IN_FORMAT, the component, and the values that it is
made of (assumption 34). -/
opaque Config.roundSlack : Nat → Nat → Nat → Nat → Nat → Nat

/-- The part's own MAC address (R261), by its serial; the spec does not give it (assumption 31). -/
opaque Config.ownMac : BitVec 64 → List (BitVec 8)

/-- PG_CAP[21:16] of RUNNERS page 0: the table gives 64, which six bits do not hold (assumption 37). -/
opaque Config.dictCount : Nat

/-! The cryptographic standards that chapters 9, 10, 14 and 20 name (assumption 25). -/

/-- SHA-384 (FIPS 180-4). -/
opaque Config.sha384 : List Byte → List Byte
/-- ECDSA P-384 with SHA-384: public key, message, signature r then s (FIPS 186-5). -/
opaque Config.ecdsaVerify : List Byte → List Byte → List Byte → Bool
/-- ECDSA P-384 signature by a private key of a message (FIPS 186-5). -/
opaque Config.ecdsaSign : List Byte → List Byte → List Byte
/-- The public key of a private key: x, then y. -/
opaque Config.ecdsaPublic : List Byte → List Byte
/-- AES-256 of one block under a key (FIPS 197). -/
opaque Config.aes256 : List Byte → List Byte → List Byte
/-- RFC 3394 key unwrap under a key encryption key; none where the integrity check fails. -/
opaque Config.keyUnwrap : List Byte → List Byte → Option (List Byte)
/-- AES-256-GCM open: key, IV, additional data, ciphertext, tag. -/
opaque Config.gcmOpen : List Byte → List Byte → List Byte → List Byte → List Byte → Option (List Byte)
/-- AES-256-GCM seal: key, IV, additional data, plaintext; ciphertext, then tag. -/
opaque Config.gcmSeal : List Byte → List Byte → List Byte → List Byte → List Byte
/-- AES-256-CTR of data under a key from a counter block. -/
opaque Config.aesCtr : List Byte → List Byte → List Byte → List Byte
/-- AES-256-CBC decryption: key, IV, data. -/
opaque Config.aesCbc : List Byte → List Byte → List Byte → List Byte
/-- AES-CMAC under a key. -/
opaque Config.cmac : List Byte → List Byte → List Byte
/-- The RFC 3711 key derivation: master key, master salt, label, length. -/
opaque Config.srtpKdf : List Byte → List Byte → Nat → Nat → List Byte

end Sys2Proof
end

