-- ==== Sys2Proof/Machine/Tbl.lean ====
section
/-!
DEFINITION. Sparse tables: a list of keys with their entries, keys strictly rising. The model holds its instance arrays,
its registers and its memories in them; an entry that is not listed has the value the reader gives.
-/

namespace Sys2Proof.Machine

/-- A sparse table, keys strictly rising. -/
abbrev Tbl (α : Type) := List (Nat × α)

/-- The entry of a key, if one is listed. -/
def Tbl.get? {α : Type} : Tbl α → Nat → Option α
  | [], _ => none
  | (j, v) :: t, k => if j = k then some v else Tbl.get? t k

/-- The entry of a key, or what an unlisted key reads as. -/
def Tbl.getD {α : Type} (t : Tbl α) (k : Nat) (d : α) : α := (Tbl.get? t k).getD d

/-- Lists `v` under `k`, keeping the keys in order. -/
def Tbl.set {α : Type} : Tbl α → Nat → α → Tbl α
  | [], k, v => [(k, v)]
  | (j, w) :: t, k, v =>
    if k = j then (k, v) :: t else if k < j then (k, v) :: (j, w) :: t else (j, w) :: Tbl.set t k v

/-- Removes a key. -/
def Tbl.erase {α : Type} (t : Tbl α) (k : Nat) : Tbl α := List.filter (fun e => e.1 != k) t

/-- Lists `v` under `k` unless it is what an unlisted key reads as, so that equal tables are equal lists. -/
def Tbl.put {α : Type} [DecidableEq α] (t : Tbl α) (k : Nat) (v d : α) : Tbl α :=
  if v = d then Tbl.erase t k else Tbl.set t k v

/-- The keys rise strictly. -/
abbrev Tbl.Sorted {α : Type} (t : Tbl α) : Prop := List.Pairwise (fun a b => a.1 < b.1) t

/-- Sets several keys, in order. -/
def Tbl.setAll {α : Type} (t : Tbl α) (l : List (Nat × α)) : Tbl α :=
  l.foldl (fun t e => Tbl.set t e.1 e.2) t

end Sys2Proof.Machine
end

