-- ==== Sys2Proof/Machine/Bits.lean ====
section
/-!
DEFINITION. Bit fields, byte order and checksums: the arithmetic that register words, records and headers share.
-/

namespace Sys2Proof.Machine

/-- Bits [hi:lo] of a number (R8). -/
def bits (n hi lo : Nat) : Nat := n / 2 ^ lo % 2 ^ (hi + 1 - lo)

/-- Bit `k` of a number. -/
def bitOf (n k : Nat) : Bool := n / 2 ^ k % 2 == 1

/-- Bits [hi:lo] of a register word. -/
def fld (w : Word) (hi lo : Nat) : Nat := bits w.toNat hi lo

/-- Bit `k` of a register word. -/
def flag (w : Word) (k : Nat) : Bool := bitOf w.toNat k

/-- A flag as a number. -/
def b2n (b : Bool) : Nat := if b then 1 else 0

/-- A word from fields, each given with its lowest bit. -/
def pack (l : List (Nat × Nat)) : Word := BitVec.ofNat 32 (l.foldl (fun a e => a + e.2 * 2 ^ e.1) 0)

/-- A word from a number. -/
def word (n : Nat) : Word := BitVec.ofNat 32 n

/-- The low word of a 64-bit value. -/
def loWord (n : Nat) : Word := word n
/-- The high word of a 64-bit value. -/
def hiWord (n : Nat) : Word := word (n / 2 ^ 32)

/-- A 64-bit value from its words, the low word first (R38). -/
def pair64 (lo hi : Word) : Nat := lo.toNat + 2 ^ 32 * hi.toNat

/-- A number limited to a largest value: a saturating counter. -/
def sat (n most : Nat) : Nat := if n ≤ most then n else most

/-- A saturating 32-bit counter. -/
def sat32 (n : Nat) : Nat := sat n 0xFFFFFFFF

/-- A byte from a number. -/
def byte (n : Nat) : Byte := BitVec.ofNat 8 n

/-- `k` little-endian bytes of a number (R9). -/
def leBytes : Nat → Nat → List Byte
  | 0, _ => []
  | k + 1, n => byte n :: leBytes k (n / 256)

/-- The number that little-endian bytes spell (R9). -/
def leNat : List Byte → Nat
  | [] => 0
  | b :: t => b.toNat + 256 * leNat t

/-- `k` network-order bytes of a number. -/
def beBytes (k n : Nat) : List Byte := (leBytes k n).reverse

/-- The number that network-order bytes spell. -/
def beNat (l : List Byte) : Nat := l.foldl (fun a b => a * 256 + b.toNat) 0

/-- `n` bytes from offset `off` of a list. -/
def slice {α : Type} (l : List α) (off n : Nat) : List α := (l.drop off).take n

/-- The little-endian number in `n` bytes at an offset. -/
def leAt (l : List Byte) (off n : Nat) : Nat := leNat (slice l off n)

/-- The network-order number in `n` bytes at an offset. -/
def beAt (l : List Byte) (off n : Nat) : Nat := beNat (slice l off n)

/-- A list brought to length `n` with zero bytes, or cut to it. -/
def padTo (n : Nat) (l : List Byte) : List Byte := (l ++ List.replicate (n - l.length) 0).take n

/-- `n` bytes: those of a list, and zeros after its end. -/
def sized (n : Nat) (l : List Byte) : List Byte := (List.range n).map fun i => l.getD i 0

/-- What AES-256-GCM seals: the ciphertext, as long as the plaintext, and a 16-byte tag (R229). -/
def gcmSealed (key iv aad plain : List Byte) : List Byte := sized (plain.length + 16) (Config.gcmSeal key iv aad plain)

/-- What AES-256-GCM opens: as long as the ciphertext (R229, R333). -/
def gcmOpened (key iv aad cipher tag : List Byte) : Option (List Byte) :=
  (Config.gcmOpen key iv aad cipher tag).map (sized cipher.length)

/-- A signed reading of the low `w` bits of a number. -/
def signed (w n : Nat) : Int := if bitOf n (w - 1) then (n % 2 ^ w : Nat) - (2 ^ w : Nat) else (n % 2 ^ w : Nat)

/-- Division rounded up. -/
def ceilDiv (a b : Nat) : Nat := (a + b - 1) / b

/-- Rounds up to a multiple. -/
def roundUp (a m : Nat) : Nat := ceilDiv a m * m

/-- One bit step of a reflected CRC with the reflected polynomial `poly`. -/
def crcRefStep (poly c : Nat) : Nat := if c % 2 = 1 then (c / 2) ^^^ poly else c / 2

/-- One byte into a reflected CRC. -/
def crcRefByte (poly c : Nat) (b : Byte) : Nat :=
  (List.range 8).foldl (fun c _ => crcRefStep poly c) (c ^^^ b.toNat)

/-- A reflected 32-bit CRC with initial value and final XOR of all ones. -/
def crcRef (poly : Nat) (l : List Byte) : Nat := (l.foldl (crcRefByte poly) 0xFFFFFFFF) ^^^ 0xFFFFFFFF

/-- CRC-32C (R46). -/
def crc32c (l : List Byte) : Nat := crcRef 0x82F63B78 l

/-- The IEEE 802.3 CRC-32 (R428), which is also the Ethernet FCS. -/
def crc32 (l : List Byte) : Nat := crcRef 0xEDB88320 l

/-- One byte into a most-significant-bit-first 16-bit CRC. -/
def crcMsbByte (poly c : Nat) (b : Byte) : Nat :=
  (List.range 8).foldl (fun c _ => if bitOf c 15 then (2 * c % 65536) ^^^ poly else 2 * c % 65536) (c ^^^ (b.toNat * 256))

/-- A most-significant-bit-first 16-bit CRC from an initial value. -/
def crcMsb (poly init : Nat) (l : List Byte) : Nat := l.foldl (crcMsbByte poly) init

/-- The largest of a list of numbers, or 0. -/
def maxOf (l : List Nat) : Nat := l.foldl max 0

/-- The numbers below `n`, as a list. -/
def upTo (n : Nat) : List Nat := List.range n

/-- Applies a state change for each element, in order. -/
def forAll {α σ : Type} (l : List α) (f : α → σ → σ) (s : σ) : σ := l.foldl (fun s a => f a s) s

end Sys2Proof.Machine
end

