-- ==== Sys2Proof/Machine/Layout.lean ====
section
/-!
DEFINITION. The register map: the page families of R465 with their error sources, and the layout of every page's
block registers (R474), each word with its offset, its access masks, its reset value and whether R46 covers it.
The words, masks and resets are the rows of the register tables of the chapters that R465 names.
-/

namespace Sys2Proof.Machine

/-- The page families of R465. RUNNERS and LEAT pages differ in layout, so each of their pages is a family here. -/
inductive Fam where
  | dev | clkpwr | cfgchk | i3c | evq | ledger | timebase | ibreham
  | weir | stone | dec | runners0 | runners1 | runners2 | runners3 | bolter
  | governor | refpool | sessions | packetizer | leat0 | leat1 | quad | switch
  | fwd | mirror | sluice | pcie | millrace | cp | pawl | dma
  | hopper | memctl | memarb
  deriving DecidableEq, Repr

/-- One register word, or one array of words, of a page (R474): its offset, the stride and count of the array, the
masks of its RW, RC and WO fields, its reset value, and its C mark. Every other bit is read-only (R491). -/
structure RegDef where
  off    : Nat
  stride : Nat
  count  : Nat
  rw     : Nat
  rc     : Nat
  wo     : Nat
  reset  : Nat
  cfg    : Bool
  deriving DecidableEq, Repr

/-- The place of a family in R465: first ordinal, base address, TYPE, and the minimum class of each error source in bit
order (R435). -/
structure FamInfo where
  ordinal : Nat
  base    : Nat
  typ     : Nat
  classes : List Nat
  deriving DecidableEq, Repr

/-- R465 and the error-source tables of the chapters. -/
def Fam.info : Fam → FamInfo
  | .dev => ⟨0, 0x000000, 0x01, [0, 0]⟩
  | .clkpwr => ⟨1, 0x000400, 0x02, [3, 0, 0]⟩
  | .cfgchk => ⟨2, 0x000800, 0x03, [1]⟩
  | .i3c => ⟨3, 0x000C00, 0x04, [0, 0, 0, 0, 0]⟩
  | .evq => ⟨4, 0x001000, 0x05, [0, 0, 0]⟩
  | .ledger => ⟨5, 0x001400, 0x06, [0, 1, 0]⟩
  | .timebase => ⟨6, 0x001800, 0x07, [1, 0, 0]⟩
  | .ibreham => ⟨7, 0x001C00, 0x08, [0, 1, 3, 3, 0, 0]⟩
  | .weir => ⟨8, 0x002000, 0x09, [3]⟩
  | .stone => ⟨9, 0x010000, 0x10, [0, 1, 1, 2, 0, 1]⟩
  | .dec => ⟨43, 0x020000, 0x11, [0, 1, 3, 0, 0, 0, 0]⟩
  | .runners0 => ⟨51, 0x024000, 0x12, [0, 1, 2, 1, 1, 0, 0, 0]⟩
  | .runners1 => ⟨52, 0x024400, 0x12, []⟩
  | .runners2 => ⟨53, 0x024800, 0x12, []⟩
  | .runners3 => ⟨54, 0x024C00, 0x12, []⟩
  | .bolter => ⟨55, 0x030000, 0x13, [1, 0, 1]⟩
  | .governor => ⟨71, 0x038000, 0x14, [0, 1, 3, 0, 0]⟩
  | .refpool => ⟨72, 0x038400, 0x15, [0, 1, 3, 0, 0, 0, 1, 0]⟩
  | .sessions => ⟨73, 0x038800, 0x16, [0, 0, 0, 0]⟩
  | .packetizer => ⟨74, 0x040000, 0x20, [0, 1, 3, 0, 0, 0]⟩
  | .leat0 => ⟨75, 0x040400, 0x21, [0, 1, 0]⟩
  | .leat1 => ⟨76, 0x040800, 0x21, []⟩
  | .quad => ⟨77, 0x050000, 0x30, [0, 0, 0, 0, 0, 3]⟩
  | .switch => ⟨101, 0x058000, 0x31, [0, 1, 0, 0]⟩
  | .fwd => ⟨102, 0x058400, 0x32, [0, 1, 1]⟩
  | .mirror => ⟨103, 0x058800, 0x33, [0, 0]⟩
  | .sluice => ⟨104, 0x058C00, 0x34, [0, 1, 3, 0]⟩
  | .pcie => ⟨105, 0x060000, 0x38, [0, 0, 0, 0, 1, 1, 3]⟩
  | .millrace => ⟨125, 0x070000, 0x40, [0, 1, 1, 0, 0, 0, 0]⟩
  | .cp => ⟨126, 0x070400, 0x41, [0, 1, 2, 1, 0, 0, 0]⟩
  | .pawl => ⟨143, 0x078000, 0x42, [0, 1, 1, 3, 0]⟩
  | .dma => ⟨167, 0x080000, 0x48, [0, 0, 0, 1, 3]⟩
  | .hopper => ⟨199, 0x090000, 0x49, [0, 1, 1, 0, 0, 0]⟩
  | .memctl => ⟨200, 0x0A0000, 0x50, [0, 0, 1, 0, 0, 3]⟩
  | .memarb => ⟨212, 0x0A4000, 0x51, [0, 1, 0, 0]⟩

/-- How many instances of a family the part has (R2, R465). -/
def Fam.count (p : Part) : Fam → Nat
  | .dev => 1
  | .clkpwr => 1
  | .cfgchk => 1
  | .i3c => 1
  | .evq => 1
  | .ledger => 1
  | .timebase => 1
  | .ibreham => 1
  | .weir => (if p.hasWeir then 1 else 0)
  | .stone => p.stonesPhys
  | .dec => p.pipes
  | .runners0 => 1
  | .runners1 => 1
  | .runners2 => 1
  | .runners3 => 1
  | .bolter => 16
  | .governor => 1
  | .refpool => 1
  | .sessions => 1
  | .packetizer => 1
  | .leat0 => 1
  | .leat1 => 1
  | .quad => p.quads
  | .switch => 1
  | .fwd => 1
  | .mirror => 1
  | .sluice => 1
  | .pcie => p.pcieQuads
  | .millrace => 1
  | .cp => p.cpsPhys
  | .pawl => p.quads
  | .dma => 32
  | .hopper => 1
  | .memctl => p.sites
  | .memarb => 1

/-- Every family, in ascending base order. -/
def Fam.all : List Fam :=
  [.dev, .clkpwr, .cfgchk, .i3c, .evq, .ledger, .timebase, .ibreham,
   .weir, .stone, .dec, .runners0, .runners1, .runners2, .runners3, .bolter,
   .governor, .refpool, .sessions, .packetizer, .leat0, .leat1, .quad, .switch,
   .fwd, .mirror, .sluice, .pcie, .millrace, .cp, .pawl, .dma,
   .hopper, .memctl, .memarb]

/-- The block registers of a dev page (R474 and its chapter). -/
def layoutDev : List RegDef :=
  [⟨0x40, 4, 1, 0, 0, 0, 0x12, false⟩,
   ⟨0x44, 4, 1, 0x100, 0, 7, 0, false⟩,
   ⟨0x48, 4, 1, 0, 0, 0, 0, false⟩,
   ⟨0x4C, 4, 1, 0, 0, 0, 0, false⟩,
   ⟨0x50, 4, 1, 0, 0, 0, 0, false⟩,
   ⟨0x54, 4, 1, 0, 0, 0, 0xB00000, false⟩,
   ⟨0x58, 4, 1, 0, 0, 0, 0, false⟩,
   ⟨0x5C, 4, 1, 0, 0, 0, 0, false⟩,
   ⟨0x60, 4, 1, 0, 0, 0, 0, false⟩,
   ⟨0x64, 4, 1, 0, 0, 0, 0, false⟩,
   ⟨0x68, 4, 1, 0, 0, 0, 0x1020, false⟩,
   ⟨0x6C, 4, 5, 0, 0, 0, 0, false⟩,
   ⟨0x80, 4, 1, 0, 0x1F, 0, 0, false⟩,
   ⟨0x84, 4, 1, 0, 0, 0, 0, false⟩,
   ⟨0x88, 4, 1, 0, 0, 0, 0, false⟩,
   ⟨0x8C, 4, 16, 0, 0, 0, 0, false⟩,
   ⟨0xCC, 4, 1, 0, 0, 0, 0x8000, false⟩,
   ⟨0xD0, 4, 6, 0, 0, 0, 0, false⟩]

/-- The block registers of a clkpwr page (R474 and its chapter). -/
def layoutClkpwr : List RegDef :=
  [⟨0x40, 4, 1, 0, 0, 0, 7, false⟩,
   ⟨0x44, 4, 1, 0xFFFF, 0, 0, 0x64, true⟩,
   ⟨0x48, 4, 1, 0, 0, 0, 0x1000000, false⟩,
   ⟨0x4C, 4, 1, 0, 0, 0, 0, false⟩,
   ⟨0x50, 4, 1, 0xFFFFFFFF, 0, 0, 0, true⟩,
   ⟨0x54, 4, 1, 0xFFFF, 0, 0, 0, true⟩,
   ⟨0x58, 4, 1, 3, 0, 0, 2, true⟩,
   ⟨0x5C, 4, 1, 0xFFFF, 0, 0, 0x960, true⟩,
   ⟨0x60, 4, 1, 0, 0, 0, 0, false⟩]

/-- The block registers of a cfgchk page (R474 and its chapter). -/
def layoutCfgchk : List RegDef :=
  [⟨0x40, 4, 1, 3, 0, 0, 1, false⟩,
   ⟨0x44, 4, 1, 0, 0, 1, 0, false⟩,
   ⟨0x48, 4, 1, 0, 0, 0, 0, false⟩,
   ⟨0x4C, 4, 1, 0, 0, 0, 0, false⟩,
   ⟨0x50, 4, 1, 0, 0, 0, 0, false⟩,
   ⟨0x54, 4, 1, 0, 0, 0, 0, false⟩,
   ⟨0x58, 4, 1, 0, 0, 0, 0, false⟩,
   ⟨0x5C, 4, 1, 0xFF, 0, 0, 0, false⟩,
   ⟨0x60, 4, 1, 0, 0, 0, 0, false⟩,
   ⟨0x64, 4, 1, 0, 0, 0, 0, false⟩]

/-- The block registers of a i3c page (R474 and its chapter). -/
def layoutI3c : List RegDef :=
  [⟨0x40, 4, 1, 0, 0, 0, 0, false⟩,
   ⟨0x44, 4, 1, 0, 0, 0, 0x1000103, false⟩,
   ⟨0x48, 4, 1, 0, 0, 0, 1, false⟩,
   ⟨0x4C, 4, 1, 0, 0, 0, 0, false⟩,
   ⟨0x50, 4, 1, 0, 0, 0, 0, false⟩,
   ⟨0x54, 4, 1, 0, 0, 0, 0, false⟩,
   ⟨0x58, 4, 1, 0, 0, 0, 0, false⟩]

/-- The block registers of a evq page (R474 and its chapter). -/
def layoutEvq : List RegDef :=
  [⟨0x40, 4, 1, 0x3FFDF7, 0, 0, 0x10060, true⟩,
   ⟨0x44, 4, 1, 0xFFFFFFC0, 0, 0, 0, true⟩,
   ⟨0x48, 4, 1, 0xFFFFFFFF, 0, 0, 0, true⟩,
   ⟨0x4C, 4, 1, 0xFFFFFFFC, 0, 0, 0, true⟩,
   ⟨0x50, 4, 1, 0xFFFFFFFF, 0, 0, 0, true⟩,
   ⟨0x54, 4, 1, 0, 0, 0, 0, false⟩,
   ⟨0x58, 4, 1, 0x1FFFF, 0, 0, 0, false⟩,
   ⟨0x5C, 4, 1, 0xFFFFFFFF, 0, 0, 0x10000, true⟩,
   ⟨0x60, 4, 1, 0, 0, 0, 0, false⟩,
   ⟨0x64, 4, 5, 0, 0, 0, 0, false⟩,
   ⟨0x78, 4, 1, 0xFFFFFFFF, 0, 0, 0x2710, true⟩,
   ⟨0x7C, 4, 1, 0, 0, 0, 0, false⟩,
   ⟨0x80, 4, 16, 0, 0, 0, 0, false⟩]

/-- The block registers of a ledger page (R474 and its chapter). -/
def layoutLedger : List RegDef :=
  [⟨0x40, 4, 1, 0, 0, 0, 0, false⟩,
   ⟨0x44, 4, 1, 0, 0, 0, 0, false⟩,
   ⟨0x48, 4, 1, 0, 0, 0xF, 0, false⟩,
   ⟨0x4C, 4, 1, 0xFFFFFFC0, 0, 0, 0, false⟩,
   ⟨0x50, 4, 1, 0xFFFFFFFF, 0, 0, 0, false⟩,
   ⟨0x54, 4, 1, 0x1FFFFFF, 0, 0, 0, false⟩,
   ⟨0x58, 4, 1, 0xFFFF, 0, 0, 0x3C, true⟩,
   ⟨0x5C, 4, 1, 0, 0, 0, 0, false⟩,
   ⟨0x60, 4, 1, 0, 0, 0, 0, false⟩,
   ⟨0x64, 4, 1, 0, 0, 0, 0, false⟩]

/-- The block registers of a timebase page (R474 and its chapter). -/
def layoutTimebase : List RegDef :=
  [⟨0x40, 4, 1, 0, 0, 0, 0, false⟩,
   ⟨0x44, 4, 1, 0, 0, 0, 0, false⟩,
   ⟨0x48, 4, 1, 0, 0, 0, 0, false⟩,
   ⟨0x4C, 4, 1, 0, 0, 0, 0, false⟩,
   ⟨0x50, 4, 1, 0, 0, 0, 0, false⟩,
   ⟨0x54, 4, 1, 0, 0, 0, 0, false⟩,
   ⟨0x58, 4, 3, 0xFFFFFFFF, 0, 0, 0, false⟩,
   ⟨0x64, 4, 1, 0xFFFF, 0, 0, 0, false⟩,
   ⟨0x68, 4, 1, 0xFFFFFFFF, 0, 0, 0xCCCCCCCD, false⟩,
   ⟨0x6C, 4, 1, 0xFF, 0, 0, 0, false⟩,
   ⟨0x70, 4, 1, 0, 0, 0xFFFFFFFF, 0, false⟩,
   ⟨0x74, 4, 1, 0, 0, 0xFFFFFFFF, 0, false⟩,
   ⟨0x78, 4, 1, 1, 0, 0, 0, false⟩,
   ⟨0x7C, 4, 1, 0, 0, 0, 0, false⟩,
   ⟨0x80, 4, 1, 0, 0xFFFFFFFF, 0, 0, false⟩,
   ⟨0x84, 4, 1, 0, 0xFFFFFFFF, 0, 0, false⟩,
   ⟨0x88, 4, 1, 0xFFFF011F, 0, 0, 0x640000, true⟩,
   ⟨0x8C, 4, 1, 0, 0, 0, 0, false⟩,
   ⟨0x90, 4, 1, 0, 0, 0, 0, false⟩,
   ⟨0x94, 4, 1, 0, 0, 0, 0, false⟩,
   ⟨0x200, 16, 32, 0xFFFFFFFF, 0, 0, 0, true⟩,
   ⟨0x204, 16, 32, 0xFFFF, 0, 0, 0, true⟩,
   ⟨0x208, 16, 32, 0xFFFFFFFF, 0, 0, 0, true⟩,
   ⟨0x20C, 16, 32, 3, 0, 0, 0, true⟩]

/-- The block registers of a ibreham page (R474 and its chapter). -/
def layoutIbreham : List RegDef :=
  [⟨0x40, 4, 1, 0, 0, 0, 0, false⟩,
   ⟨0x44, 4, 1, 0, 0, 0xFFFFFFFF, 0, false⟩,
   ⟨0x48, 4, 1, 0xFFFFFFC0, 0, 0, 0, false⟩,
   ⟨0x4C, 4, 1, 0xFFFFFFFF, 0, 0, 0, false⟩,
   ⟨0x50, 4, 1, 0xFFF, 0, 0, 0, false⟩,
   ⟨0x54, 4, 1, 0, 0, 0, 0, false⟩,
   ⟨0x58, 4, 1, 0, 0, 0, 0, false⟩,
   ⟨0x5C, 4, 1, 0, 0, 0, 0, false⟩,
   ⟨0x60, 4, 1, 0, 0, 0, 0, false⟩,
   ⟨0x64, 4, 1, 0, 0, 0, 0, false⟩,
   ⟨0x68, 4, 1, 0, 0, 0, 0, false⟩,
   ⟨0x6C, 4, 1, 0, 0, 0, 0, false⟩,
   ⟨0x70, 4, 1, 0, 0, 0, 0, false⟩,
   ⟨0x74, 4, 1, 0, 0, 0, 0, false⟩]

/-- The block registers of a weir page (R474 and its chapter). -/
def layoutWeir : List RegDef :=
  [⟨0x40, 4, 1, 1, 0, 0, 0, true⟩,
   ⟨0x44, 4, 1, 0, 0, 0, 1, false⟩,
   ⟨0x48, 4, 1, 0, 0, 0, 0, false⟩]

/-- The block registers of a stone page (R474 and its chapter). -/
def layoutStone : List RegDef :=
  [⟨0x40, 4, 1, 0, 0, 0, 0, false⟩,
   ⟨0x44, 4, 1, 0, 0, 0, 0, false⟩,
   ⟨0x48, 4, 1, 3, 0, 0, 3, true⟩,
   ⟨0x4C, 4, 1, 0, 0, 0, 0, false⟩,
   ⟨0x50, 4, 1, 0, 0, 0, 0, false⟩,
   ⟨0x54, 4, 1, 0, 0, 0, 0, false⟩,
   ⟨0x58, 4, 1, 0, 0, 0, 0, false⟩,
   ⟨0x5C, 4, 1, 0, 0, 0, 0, false⟩]

/-- The block registers of a dec page (R474 and its chapter). -/
def layoutDec : List RegDef :=
  [⟨0x40, 4, 1, 0, 0, 0, 0x7F0000, false⟩,
   ⟨0x44, 4, 1, 0, 0, 0, 0, false⟩,
   ⟨0x48, 4, 1, 0, 0, 0, 0, false⟩,
   ⟨0x4C, 4, 1, 0x9F, 0, 0, 0, true⟩,
   ⟨0x50, 4, 1, 0x7F, 0, 0, 0, false⟩,
   ⟨0x54, 4, 1, 0xFFFFFFC0, 0, 0, 0, false⟩,
   ⟨0x58, 4, 1, 0xFFFFFFFF, 0, 0, 0, false⟩,
   ⟨0x5C, 4, 1, 0, 0, 0xF07F, 0, false⟩,
   ⟨0x60, 4, 1, 0, 0, 0, 0, false⟩,
   ⟨0x64, 4, 1, 0, 0, 0, 0, false⟩,
   ⟨0x68, 4, 1, 0, 0, 0, 0, false⟩,
   ⟨0x6C, 4, 1, 0, 0, 0, 0, false⟩,
   ⟨0x70, 4, 1, 0, 0, 0, 0, false⟩,
   ⟨0x74, 4, 1, 0, 0, 0, 0, false⟩,
   ⟨0x78, 4, 1, 0, 0, 0, 0, false⟩,
   ⟨0x7C, 4, 1, 0, 0, 0, 0, false⟩]

/-- The block registers of a runners0 page (R474 and its chapter). -/
def layoutRunners0 : List RegDef :=
  [⟨0x40, 4, 1, 0x3F, 0, 0, 0, true⟩,
   ⟨0x44, 4, 1, 0xF, 0, 0, 0, false⟩,
   ⟨0x48, 4, 1, 0xFFFFFFC0, 0, 0, 0, false⟩,
   ⟨0x4C, 4, 1, 0xFFFFFFFF, 0, 0, 0, false⟩,
   ⟨0x50, 4, 1, 0, 0, 0xFF, 0, false⟩,
   ⟨0x54, 4, 1, 0, 0, 0, 0, false⟩,
   ⟨0x58, 4, 1, 0, 0, 0, 0, false⟩,
   ⟨0x5C, 4, 1, 0xF, 0, 0, 0, true⟩,
   ⟨0x60, 4, 1, 0xFFFF0000, 0, 0, 0, true⟩,
   ⟨0x64, 4, 1, 0xFFFFFFFF, 0, 0, 0, true⟩,
   ⟨0x68, 4, 1, 0xFFFFFC00, 0, 0, 0, true⟩,
   ⟨0x6C, 4, 1, 0xFFFFFFFF, 0, 0, 0, true⟩,
   ⟨0x70, 4, 1, 0, 0, 0, 0, false⟩,
   ⟨0x74, 4, 1, 0, 0, 0, 0, false⟩]

/-- The block registers of a runners1 page (R474 and its chapter). -/
def layoutRunners1 : List RegDef :=
  [⟨0x40, 4, 64, 0xFFB, 0, 0, 0, true⟩,
   ⟨0x140, 4, 16, 0, 0, 0, 0, false⟩]

/-- The block registers of a runners2 page (R474 and its chapter). -/
def layoutRunners2 : List RegDef :=
  [⟨0x40, 4, 66, 0, 0, 0, 0, false⟩,
   ⟨0x200, 4, 1, 0x7F, 0, 0, 0, false⟩,
   ⟨0x204, 4, 1, 0, 0, 0, 0, false⟩,
   ⟨0x208, 4, 1, 0, 0, 0, 0, false⟩,
   ⟨0x20C, 4, 1, 0, 0, 0, 0, false⟩,
   ⟨0x210, 4, 1, 0, 0, 0, 0, false⟩,
   ⟨0x214, 4, 1, 0, 0, 0, 0, false⟩]

/-- The block registers of a runners3 page (R474 and its chapter). -/
def layoutRunners3 : List RegDef :=
  [⟨0x40, 12, 64, 0xFFFFFFFF, 0, 0, 0, true⟩,
   ⟨0x44, 12, 64, 0x3FFFFFFF, 0, 0, 0, true⟩,
   ⟨0x48, 12, 64, 0x801FFFFF, 0, 0, 0, true⟩]

/-- The block registers of a bolter page (R474 and its chapter). -/
def layoutBolter : List RegDef :=
  [⟨0x40, 4, 1, 0, 0, 0, 0, false⟩,
   ⟨0x44, 4, 1, 0, 0, 0, 0, false⟩,
   ⟨0x48, 4, 1, 0, 0, 0, 0, false⟩,
   ⟨0x4C, 4, 1, 0, 0, 0, 0, false⟩,
   ⟨0x50, 4, 1, 0, 0, 0, 0, false⟩,
   ⟨0x54, 4, 1, 0xFFFF, 0, 0, 0, false⟩,
   ⟨0x58, 4, 4, 0, 0, 0, 0, false⟩]

/-- The block registers of a governor page (R474 and its chapter). -/
def layoutGovernor : List RegDef :=
  [⟨0x40, 4, 1, 0x1FF, 0, 0, 0, false⟩,
   ⟨0x44, 4, 1, 0, 0, 0, 0, false⟩,
   ⟨0x48, 4, 1, 0, 0, 0, 0, false⟩,
   ⟨0x4C, 4, 1, 0, 0, 0, 0, false⟩,
   ⟨0x50, 4, 1, 0, 0, 0, 0, false⟩,
   ⟨0x54, 4, 1, 0, 0, 0, 0, false⟩,
   ⟨0x58, 4, 1, 0, 0, 0, 0, false⟩,
   ⟨0x5C, 4, 1, 0, 0, 0, 0, false⟩,
   ⟨0x60, 4, 1, 0, 0, 0, 0, false⟩,
   ⟨0x64, 4, 1, 0, 0, 0, 0, false⟩,
   ⟨0x68, 4, 1, 0, 0, 0, 0, false⟩,
   ⟨0x6C, 4, 1, 0, 0, 0, 0, false⟩,
   ⟨0x70, 4, 1, 0, 0, 0, 0, false⟩,
   ⟨0x74, 4, 1, 0, 0, 0, 0, false⟩,
   ⟨0x78, 4, 1, 0, 0, 0, 0, false⟩,
   ⟨0x7C, 4, 1, 0, 0, 0, 0, false⟩,
   ⟨0x80, 4, 1, 0x3FF, 0, 0, 0x352, true⟩,
   ⟨0x84, 4, 1, 0x3FF, 0, 0, 0x50, true⟩,
   ⟨0x88, 4, 1, 0xFFFFFFFF, 0, 0, 0x30D4, true⟩,
   ⟨0x8C, 4, 1, 0xFFFFFFFF, 0, 0, 0x9C40, true⟩,
   ⟨0x90, 4, 1, 0x3FF, 0, 0, 0x32, true⟩,
   ⟨0x94, 4, 1, 0xFFFF, 0, 0, 0xC8, true⟩,
   ⟨0x98, 4, 1, 0xFFFF, 0, 0, 0x1F4, true⟩,
   ⟨0x9C, 4, 1, 0xFF0F0F, 0, 0, 0xE00804, true⟩,
   ⟨0xA0, 4, 1, 0xFFFF, 0, 0, 0x800, true⟩,
   ⟨0xA4, 4, 1, 0, 0, 0, 0, false⟩]

/-- The block registers of a refpool page (R474 and its chapter). -/
def layoutRefpool : List RegDef :=
  [⟨0x40, 4, 1, 0xF, 0, 0, 0, false⟩,
   ⟨0x44, 4, 1, 0, 0, 0, 0, false⟩,
   ⟨0x48, 4, 1, 0, 0, 0, 0, false⟩,
   ⟨0x4C, 4, 1, 0, 0, 0, 0, false⟩,
   ⟨0x50, 4, 1, 0x1FFF, 0, 0, 0, false⟩,
   ⟨0x54, 4, 1, 0, 0, 0, 0x3FF00000, false⟩,
   ⟨0x58, 4, 1, 0, 0, 0, 0, false⟩,
   ⟨0x5C, 4, 1, 0, 0, 0, 0, false⟩,
   ⟨0x60, 4, 1, 0x3FF, 0, 0, 0, false⟩,
   ⟨0x64, 4, 1, 0, 0, 0, 0x1FFF, false⟩,
   ⟨0x68, 4, 1, 0, 0, 0, 0, false⟩,
   ⟨0x6C, 4, 1, 0, 0, 0, 0, false⟩,
   ⟨0x70, 4, 1, 0, 0, 0, 0, false⟩,
   ⟨0x74, 4, 1, 0, 0, 0, 0, false⟩,
   ⟨0x78, 4, 1, 0, 0, 0, 0, false⟩,
   ⟨0x7C, 4, 1, 0, 0, 0, 0, false⟩,
   ⟨0x100, 16, 16, 0x8001FFFF, 0, 0, 0, true⟩,
   ⟨0x104, 16, 16, 0xFFFFF000, 0, 0, 0, true⟩,
   ⟨0x108, 16, 16, 0xFFFFFFFF, 0, 0, 0, true⟩,
   ⟨0x10C, 16, 16, 0x3FF3FFF, 0, 0, 0, true⟩]

/-- The block registers of a sessions page (R474 and its chapter). -/
def layoutSessions : List RegDef :=
  [⟨0x40, 4, 1, 0x1FF, 0, 0, 0, false⟩,
   ⟨0x44, 4, 1, 0xFFFFFFC0, 0, 0, 0, false⟩,
   ⟨0x48, 4, 1, 0xFFFFFFFF, 0, 0, 0, false⟩,
   ⟨0x4C, 4, 1, 0, 0, 0xF1FF, 0, false⟩,
   ⟨0x50, 4, 1, 0, 0, 0, 0, false⟩,
   ⟨0x54, 4, 1, 0, 0, 0, 0, false⟩,
   ⟨0x58, 4, 1, 0, 0, 0, 0, false⟩,
   ⟨0x5C, 4, 1, 0, 0, 0, 0, false⟩,
   ⟨0x60, 4, 1, 0, 0, 0, 0, false⟩,
   ⟨0x64, 4, 1, 0, 0, 0, 0, false⟩,
   ⟨0x68, 4, 1, 0, 0, 0, 0, false⟩,
   ⟨0x6C, 4, 1, 0, 0, 0, 0, false⟩,
   ⟨0x70, 4, 1, 0, 0, 0, 0, false⟩,
   ⟨0x74, 4, 1, 0, 0, 0, 0, false⟩,
   ⟨0x80, 4, 16, 0, 0, 0, 0, false⟩,
   ⟨0xC0, 4, 8, 0, 0, 0, 0, false⟩]

/-- The block registers of a packetizer page (R474 and its chapter). -/
def layoutPacketizer : List RegDef :=
  [⟨0x40, 4, 1, 0x1FF, 0, 0, 0, false⟩,
   ⟨0x44, 4, 1, 0, 0, 0, 4, false⟩,
   ⟨0x48, 4, 1, 0, 0, 0, 0, false⟩,
   ⟨0x4C, 4, 1, 0, 0, 0, 0, false⟩,
   ⟨0x50, 4, 1, 0, 0, 0, 0, false⟩,
   ⟨0x54, 4, 1, 0, 0, 0, 0, false⟩,
   ⟨0x58, 4, 1, 0, 0, 0, 0, false⟩,
   ⟨0x5C, 4, 1, 0, 0, 0, 0, false⟩,
   ⟨0x60, 4, 1, 0, 0, 0, 0, false⟩,
   ⟨0x64, 4, 1, 0, 0, 0, 0, false⟩,
   ⟨0x68, 4, 1, 0, 0, 0, 0, false⟩,
   ⟨0x6C, 4, 1, 0, 0, 0, 0xFFFFFFFF, false⟩,
   ⟨0x70, 4, 1, 0, 0, 0, 0, false⟩,
   ⟨0x74, 4, 1, 0, 0, 0, 0, false⟩,
   ⟨0x78, 4, 1, 0xFFFFFFFF, 0, 0, 0, false⟩,
   ⟨0x7C, 4, 1, 0xFFFF, 0, 0, 0, false⟩,
   ⟨0x80, 4, 1, 0, 0, 0x8FFF0FFF, 0, false⟩,
   ⟨0x84, 4, 1, 0xFFFFFF80, 0, 0, 0, true⟩,
   ⟨0x88, 4, 1, 0xFFFFFFFF, 0, 0, 0, true⟩,
   ⟨0x8C, 4, 1, 0xFFFF0000, 0, 0, 0, true⟩,
   ⟨0x90, 4, 1, 0xFFFFFFFF, 0, 0, 0, true⟩,
   ⟨0x94, 4, 1, 0xFFFF, 0, 0, 0x25, true⟩,
   ⟨0x98, 4, 1, 0, 0, 0, 0, false⟩]

/-- The block registers of a leat0 page (R474 and its chapter). -/
def layoutLeat0 : List RegDef :=
  [⟨0x40, 4, 1, 0x1FF, 0, 0, 0, false⟩,
   ⟨0x44, 4, 1, 0, 0, 0, 0, false⟩,
   ⟨0x48, 4, 1, 0, 0, 0, 0, false⟩,
   ⟨0x4C, 4, 1, 0, 0, 0, 0, false⟩,
   ⟨0x50, 4, 1, 0, 0, 0, 0, false⟩,
   ⟨0x54, 4, 1, 0, 0, 0, 0, false⟩,
   ⟨0x58, 4, 1, 0, 0, 0, 0, false⟩,
   ⟨0x60, 4, 1, 0, 0, 0x1FF, 0, false⟩,
   ⟨0x64, 4, 1, 0x3F, 0, 0, 0, true⟩,
   ⟨0x68, 4, 1, 0xFFFFFF, 0, 0, 0x1388, true⟩,
   ⟨0x6C, 4, 1, 0, 0, 0, 0, false⟩,
   ⟨0x70, 4, 1, 0, 0, 0, 0, false⟩]

/-- The block registers of a leat1 page (R474 and its chapter). -/
def layoutLeat1 : List RegDef :=
  [⟨0x40, 4, 16, 0, 0, 0, 0, false⟩,
   ⟨0x80, 4, 16, 0, 0, 0, 0, false⟩]

/-- The block registers of a quad page (R474 and its chapter). -/
def layoutQuad : List RegDef :=
  [⟨0x40, 4, 1, 0x1FF, 0, 0, 0x40, true⟩,
   ⟨0x44, 4, 4, 0x10FFF, 0, 0, 1, true⟩,
   ⟨0x54, 4, 4, 0, 0, 0, 0, false⟩,
   ⟨0x64, 4, 1, 3, 0, 0, 0, false⟩,
   ⟨0x68, 4, 1, 0, 0, 0, 0, false⟩,
   ⟨0x6C, 4, 1, 0, 0, 0, 0, false⟩,
   ⟨0x70, 4, 1, 0, 0, 0, 0, false⟩,
   ⟨0x74, 4, 1, 0, 0, 0, 0, false⟩,
   ⟨0x78, 4, 1, 0, 0, 0, 0, false⟩,
   ⟨0x7C, 4, 1, 0, 0, 0, 0, false⟩,
   ⟨0x80, 4, 1, 0, 0, 0, 0, false⟩,
   ⟨0x84, 4, 1, 0, 0, 0, 0, false⟩,
   ⟨0x88, 4, 1, 0, 0, 0, 0, false⟩,
   ⟨0x8C, 4, 1, 0, 0, 0, 0, false⟩,
   ⟨0x90, 4, 1, 0, 0, 0, 0, false⟩,
   ⟨0x94, 4, 1, 0, 0, 0, 0, false⟩,
   ⟨0x98, 4, 1, 0, 0, 0, 0, false⟩]

/-- The block registers of a switch page (R474 and its chapter). -/
def layoutSwitch : List RegDef :=
  [⟨0x40, 4, 1, 0xFFFFFF, 0, 0, 0x7D0, true⟩,
   ⟨0x44, 4, 1, 0xFFFFFF, 0, 0, 0x2710, true⟩,
   ⟨0x48, 4, 1, 0xFF, 0, 0, 0x28, true⟩,
   ⟨0x4C, 4, 1, 0x1FFFF, 0, 0, 0x2000, true⟩,
   ⟨0x50, 4, 1, 0, 0, 0, 0x20000, false⟩,
   ⟨0x54, 4, 1, 0, 0, 0, 0x20000, false⟩,
   ⟨0x58, 4, 1, 0xF, 0, 0, 0, false⟩,
   ⟨0x5C, 4, 1, 0, 0, 0, 0, false⟩,
   ⟨0x60, 4, 1, 0xFFFF0001, 0, 0, 0x88B50000, true⟩,
   ⟨0x64, 4, 1, 0xFFFFFFFF, 0, 0, 0x525A03, true⟩,
   ⟨0x68, 4, 1, 0xFFFF, 0, 0, 0x100, true⟩,
   ⟨0x6C, 4, 1, 0x3FF03FF, 0, 0, 0, true⟩,
   ⟨0x70, 4, 1, 0, 0, 0, 0, false⟩,
   ⟨0x74, 4, 1, 0, 0, 0, 0, false⟩,
   ⟨0x78, 4, 1, 0, 0, 0, 0, false⟩,
   ⟨0x7C, 4, 1, 0, 0, 0, 0, false⟩,
   ⟨0x80, 4, 1, 0x7F7F, 0, 0, 0x5C58, true⟩,
   ⟨0x84, 4, 1, 0, 0, 0, 0, false⟩]

/-- The block registers of a fwd page (R474 and its chapter). -/
def layoutFwd : List RegDef :=
  [⟨0x40, 4, 10, 0xFFFFFFFF, 0, 0, 0, false⟩,
   ⟨0x68, 4, 4, 0xFFFFFFFF, 0, 0, 0, false⟩,
   ⟨0x78, 4, 1, 0, 0, 0xF, 0, false⟩,
   ⟨0x7C, 4, 1, 0, 0, 0, 0, false⟩,
   ⟨0x80, 4, 1, 0, 0, 0, 0, false⟩,
   ⟨0x84, 4, 1, 0, 0, 0, 0, false⟩,
   ⟨0x88, 4, 1, 0, 0, 0, 0, false⟩,
   ⟨0x8C, 4, 1, 0, 0, 0, 0, false⟩,
   ⟨0x90, 4, 1, 0x3FF0001, 0, 0, 0, true⟩]

/-- The block registers of a mirror page (R474 and its chapter). -/
def layoutMirror : List RegDef :=
  [⟨0x40, 4, 1, 0x1F1, 0, 0, 0x60, true⟩,
   ⟨0x44, 4, 1, 0xFFFFFFC0, 0, 0, 0, true⟩,
   ⟨0x48, 4, 1, 0xFFFFFFFF, 0, 0, 0, true⟩,
   ⟨0x4C, 4, 1, 0, 0, 0, 0, false⟩,
   ⟨0x50, 4, 3, 0xFFFFFFFF, 0, 0, 0, true⟩,
   ⟨0x5C, 4, 3, 0xFFFFFFFF, 0, 0, 0, true⟩,
   ⟨0x68, 4, 1, 0, 0, 0, 0, false⟩]

/-- The block registers of a sluice page (R474 and its chapter). -/
def layoutSluice : List RegDef :=
  [⟨0x40, 4, 1, 0xFFFFFFF0, 0, 0, 0, true⟩,
   ⟨0x44, 4, 1, 0xFFFFFFFF, 0, 0, 0, true⟩,
   ⟨0x48, 4, 1, 0x1FFFF, 0, 0, 0x1000, true⟩,
   ⟨0x4C, 4, 1, 0xFFF, 0, 0, 0, false⟩,
   ⟨0x50, 4, 1, 0, 0, 0, 0, false⟩,
   ⟨0x54, 4, 1, 0, 0, 0, 0, false⟩,
   ⟨0x58, 4, 1, 0, 0, 0, 0, false⟩,
   ⟨0x5C, 4, 1, 0, 0, 0, 0, false⟩,
   ⟨0x60, 4, 1, 0, 0, 0xFFFF, 0, false⟩,
   ⟨0x64, 4, 1, 0, 0, 0, 0, false⟩,
   ⟨0x68, 4, 1, 0x17F, 0, 0, 0, false⟩,
   ⟨0x6C, 4, 1, 0x8000007F, 0, 0, 1, false⟩,
   ⟨0x70, 4, 1, 0xFFFFFFFF, 0, 0, 0, false⟩,
   ⟨0x74, 4, 1, 0, 0, 0x7F, 0, false⟩,
   ⟨0x78, 4, 1, 0, 0, 0, 0, false⟩,
   ⟨0x7C, 4, 1, 0, 0, 0, 0, false⟩,
   ⟨0x80, 4, 1, 0, 0, 0, 0, false⟩,
   ⟨0x100, 4, 64, 0x7FFFF, 0, 0, 0, false⟩]

/-- The block registers of a pcie page (R474 and its chapter). -/
def layoutPcie : List RegDef :=
  [⟨0x40, 4, 1, 0x17733, 0, 0, 0x6000, true⟩,
   ⟨0x44, 4, 1, 0xFFFFFFFF, 0, 0, 0, true⟩,
   ⟨0x48, 4, 1, 0x3F, 0, 0, 0x14, true⟩,
   ⟨0x4C, 4, 1, 0xFFF00000, 0, 0, 0, true⟩,
   ⟨0x50, 4, 1, 0xFFFFFFFF, 0, 0, 0, true⟩,
   ⟨0x54, 4, 1, 0xFFFFF000, 0, 0, 0, true⟩,
   ⟨0x58, 4, 1, 0xFFFFFFFF, 0, 0, 0, true⟩,
   ⟨0x5C, 4, 1, 0xFFFFF000, 0, 0, 0, true⟩,
   ⟨0x60, 4, 1, 0xFFFFFFFF, 0, 0, 0, true⟩,
   ⟨0x64, 4, 1, 0, 0, 0, 0, false⟩,
   ⟨0x68, 4, 1, 0, 0, 0, 0, false⟩,
   ⟨0x6C, 4, 1, 0, 0, 0, 0, false⟩,
   ⟨0x70, 4, 1, 0, 0, 0, 0, false⟩,
   ⟨0x74, 4, 1, 0, 0, 0, 0, false⟩,
   ⟨0x78, 4, 1, 0, 0, 0, 0, false⟩,
   ⟨0x80, 4, 1, 0xFFFF0F1F, 0, 0, 0x7D00808, true⟩,
   ⟨0x84, 4, 1, 0xFFFFF000, 0, 0, 0, true⟩,
   ⟨0x88, 4, 1, 0xFFFFFFFF, 0, 0, 0, true⟩,
   ⟨0x8C, 4, 1, 0, 0, 0, 0, false⟩,
   ⟨0x90, 4, 1, 0, 0, 0, 0, false⟩,
   ⟨0x94, 4, 1, 0, 0, 0, 0, false⟩,
   ⟨0x98, 4, 1, 0, 0, 0, 0, false⟩,
   ⟨0x9C, 4, 1, 0, 0, 0, 0, false⟩,
   ⟨0xA0, 4, 1, 0, 0, 0, 0, false⟩,
   ⟨0xA4, 4, 1, 0xFFFF, 0, 0, 0, false⟩,
   ⟨0xA8, 4, 1, 0, 0, 0, 0, false⟩,
   ⟨0xAC, 4, 1, 0, 0, 0, 0, false⟩,
   ⟨0xB0, 4, 1, 0, 0, 0, 0, false⟩]

/-- The block registers of a millrace page (R474 and its chapter). -/
def layoutMillrace : List RegDef :=
  [⟨0x40, 4, 1, 0x3FF, 0, 0, 0, false⟩,
   ⟨0x44, 4, 1, 0x3FFFFF, 0, 0, 0x80000, false⟩,
   ⟨0x48, 4, 1, 1, 0, 0, 0, false⟩,
   ⟨0x4C, 4, 1, 0xFFFFFFE0, 0, 0, 0, false⟩,
   ⟨0x50, 4, 1, 0xFFFFFFFF, 0, 0, 0, false⟩,
   ⟨0x54, 4, 1, 0xFFFFFFF0, 0, 0, 0, false⟩,
   ⟨0x58, 4, 1, 0xFFFFFFFF, 0, 0, 0, false⟩,
   ⟨0x5C, 4, 1, 0, 0, 0, 0, false⟩,
   ⟨0x60, 4, 1, 0, 0, 0, 0, false⟩,
   ⟨0x64, 4, 1, 0, 0, 0, 0, false⟩,
   ⟨0x68, 4, 1, 0, 0, 0, 0, false⟩,
   ⟨0x6C, 4, 1, 0, 0, 0, 0, false⟩,
   ⟨0x70, 4, 1, 0, 0, 0xF3FF, 0, false⟩,
   ⟨0x74, 4, 1, 0xFFFFF000, 0, 0, 0, true⟩,
   ⟨0x78, 4, 1, 0xFFFFFFFF, 0, 0, 0, true⟩,
   ⟨0x7C, 4, 1, 0, 0, 0, 0, false⟩,
   ⟨0x80, 4, 32, 0, 0xFFFFFFFF, 0, 0, false⟩,
   ⟨0x100, 4, 1, 0, 0, 0, 0, false⟩,
   ⟨0x180, 4, 1, 0, 0, 0xFFF, 0, false⟩,
   ⟨0x184, 4, 1, 0x3FF, 0, 0, 0, false⟩,
   ⟨0x188, 4, 1, 0, 0, 0, 0, false⟩,
   ⟨0x18C, 4, 1, 0, 0, 0, 0, false⟩,
   ⟨0x200, 4, 32, 0xFFFFFFFF, 0, 0, 0, true⟩]

/-- The block registers of a cp page (R474 and its chapter). -/
def layoutCp : List RegDef :=
  [⟨0x40, 4, 1, 0, 0, 0, 0, false⟩,
   ⟨0x44, 4, 1, 0, 0, 0, 0, false⟩,
   ⟨0x48, 4, 1, 0, 0, 0, 0, false⟩,
   ⟨0x4C, 4, 1, 0, 0, 0, 0, false⟩,
   ⟨0x50, 4, 1, 0x7F, 0, 0, 0, false⟩,
   ⟨0x54, 4, 1, 0xFFFFFFFF, 0, 0, 0, false⟩,
   ⟨0x58, 4, 1, 0xFFFFFFFF, 0, 0, 0xFFFFFFFF, false⟩,
   ⟨0x5C, 4, 1, 0xFFFFFFFF, 0, 0, 0, false⟩,
   ⟨0x60, 4, 1, 0, 0, 0xFFFF, 0, false⟩,
   ⟨0x64, 4, 1, 0xFFFFFFFF, 0, 0, 0x10000, true⟩,
   ⟨0x68, 4, 1, 0xFF, 0, 0, 0x40, true⟩,
   ⟨0x6C, 4, 1, 0xFFFF, 0, 0, 0x14, true⟩,
   ⟨0x70, 4, 1, 0xFFFFFFC0, 0, 0, 0, false⟩,
   ⟨0x74, 4, 1, 0xFFFFFFFF, 0, 0, 0, false⟩,
   ⟨0x78, 4, 1, 0, 0, 0xF0F, 0, false⟩,
   ⟨0x7C, 4, 1, 0, 0, 0, 0, false⟩,
   ⟨0x80, 4, 1, 0, 0, 0, 0, false⟩,
   ⟨0x84, 4, 1, 0, 0, 0, 0, false⟩,
   ⟨0x88, 4, 4, 0, 0, 0, 0, false⟩]

/-- The block registers of a pawl page (R474 and its chapter). -/
def layoutPawl : List RegDef :=
  [⟨0x40, 4, 1, 0, 0, 0, 0, false⟩,
   ⟨0x44, 4, 1, 0, 0, 0, 0, false⟩,
   ⟨0x48, 4, 1, 0, 0, 0, 0, false⟩,
   ⟨0x4C, 4, 1, 0, 0, 0, 0, false⟩,
   ⟨0x50, 4, 1, 0xFFFFFFFF, 0, 0, 0, true⟩,
   ⟨0x54, 4, 1, 0, 0, 0, 0, false⟩,
   ⟨0x58, 4, 1, 0, 0, 0, 0, false⟩,
   ⟨0x5C, 4, 1, 0xFFFFFFC0, 0, 0, 0, false⟩,
   ⟨0x60, 4, 1, 0xFFFFFFFF, 0, 0, 0, false⟩,
   ⟨0x64, 4, 1, 0, 0, 0xF, 0, false⟩,
   ⟨0x68, 4, 1, 0, 0, 0, 0, false⟩]

/-- The block registers of a dma page (R474 and its chapter). -/
def layoutDma : List RegDef :=
  [⟨0x40, 4, 1, 0, 0, 0, 0, false⟩,
   ⟨0x44, 4, 1, 0, 0, 0, 0, false⟩,
   ⟨0x48, 4, 1, 0, 0, 0, 0, false⟩,
   ⟨0x4C, 4, 1, 0, 0, 0, 0, false⟩,
   ⟨0x50, 4, 1, 0, 0, 0, 0, false⟩,
   ⟨0x54, 4, 1, 0, 0, 0, 0, false⟩,
   ⟨0x58, 4, 1, 0, 0, 0, 0, false⟩,
   ⟨0x5C, 4, 7, 0, 0, 0, 0, false⟩,
   ⟨0x78, 4, 1, 0, 0, 0, 0, false⟩,
   ⟨0x7C, 4, 1, 0, 0, 0, 0, false⟩,
   ⟨0x80, 4, 1, 0, 0, 0, 0, false⟩,
   ⟨0x84, 4, 1, 0, 0, 0, 0, false⟩,
   ⟨0x88, 4, 1, 0, 0, 0, 0, false⟩,
   ⟨0x8C, 4, 1, 0, 0, 0, 0, false⟩]

/-- The block registers of a hopper page (R474 and its chapter). -/
def layoutHopper : List RegDef :=
  [⟨0x40, 4, 1, 0, 0, 0xF7, 0, false⟩,
   ⟨0x44, 4, 1, 0, 0, 0, 0, false⟩,
   ⟨0x48, 4, 1, 0x3FFFF, 0, 0, 0, true⟩,
   ⟨0x4C, 4, 1, 0xFFFFFF, 0, 0, 0x3E8, true⟩,
   ⟨0x50, 4, 1, 0x3F, 0, 0, 0, false⟩,
   ⟨0x54, 4, 6, 0, 0, 0, 0, false⟩,
   ⟨0x6C, 4, 1, 0, 0, 0, 0, false⟩,
   ⟨0x70, 4, 1, 0, 0, 0, 0, false⟩,
   ⟨0x74, 4, 1, 0, 0, 0, 0, false⟩,
   ⟨0x100, 32, 6, 0xFFFFF000, 0, 0, 0, true⟩,
   ⟨0x104, 32, 6, 0xFFFFFFFF, 0, 0, 0, true⟩,
   ⟨0x108, 32, 6, 0x1FFFFF, 0, 0, 0, true⟩,
   ⟨0x10C, 32, 6, 0xFFFFFFC0, 0, 0, 0, true⟩,
   ⟨0x110, 32, 6, 0xFFFFFFFF, 0, 0, 0, true⟩,
   ⟨0x114, 32, 6, 0, 0, 0, 0, false⟩,
   ⟨0x118, 32, 6, 0, 0, 0, 0, false⟩,
   ⟨0x11C, 32, 6, 0, 0, 0, 0, false⟩,
   ⟨0x200, 8, 64, 0xFFFFFFFF, 0, 0, 0, true⟩,
   ⟨0x204, 8, 64, 0xFFFF, 0, 0, 0, true⟩]

/-- The block registers of a memctl page (R474 and its chapter). -/
def layoutMemctl : List RegDef :=
  [⟨0x40, 4, 1, 0, 0, 0, 0, false⟩,
   ⟨0x44, 4, 1, 0xFFFFFFFF, 0, 0, 0x1180F3C, true⟩,
   ⟨0x48, 4, 1, 0xFFFF, 0, 0, 0x3E8, true⟩,
   ⟨0x4C, 4, 1, 0xFFFFF, 0, 0, 0x2000, true⟩,
   ⟨0x50, 4, 1, 0xFFFF00FF, 0, 0, 0x3E80040, true⟩,
   ⟨0x54, 4, 1, 0, 0, 0, 0xFFF, false⟩,
   ⟨0x58, 4, 1, 0x3FFFF, 0, 0, 0, false⟩,
   ⟨0x5C, 4, 1, 0xFFFFFFC0, 0, 0, 0, false⟩,
   ⟨0x60, 4, 1, 0xFFFFFFFF, 0, 0, 0, false⟩,
   ⟨0x64, 4, 1, 0, 0, 0, 0, false⟩,
   ⟨0x68, 4, 1, 0, 0, 0, 0, false⟩,
   ⟨0x6C, 4, 1, 0, 0, 0, 0, false⟩,
   ⟨0x70, 4, 1, 0, 0, 0, 0, false⟩,
   ⟨0x74, 4, 1, 0, 0, 0, 0, false⟩,
   ⟨0x78, 4, 1, 0, 0, 0, 0, false⟩,
   ⟨0x7C, 4, 1, 0, 0, 0, 0, false⟩,
   ⟨0x80, 4, 1, 0, 0, 0, 0, false⟩]

/-- The block registers of a memarb page (R474 and its chapter). -/
def layoutMemarb : List RegDef :=
  [⟨0x40, 4, 1, 1, 0, 0, 0, false⟩,
   ⟨0x44, 4, 1, 0xFFFF, 0, 0, 0x1008, true⟩,
   ⟨0x48, 4, 1, 0x3FF, 0, 0, 0x100, true⟩,
   ⟨0x4C, 4, 1, 0, 0, 0, 2, false⟩,
   ⟨0x50, 4, 1, 0, 0, 0, 0, false⟩,
   ⟨0x60, 4, 1, 0x7FFF, 0, 0, 0x1041, true⟩,
   ⟨0x64, 4, 1, 0x7FFF, 0, 0, 0x2082, true⟩,
   ⟨0x68, 4, 1, 0x7FFF, 0, 0, 0x4104, true⟩,
   ⟨0x6C, 4, 1, 0x7FFF, 0, 0, 0x208, true⟩,
   ⟨0x70, 4, 1, 0x7FFF, 0, 0, 0x410, true⟩,
   ⟨0x74, 4, 1, 0x7FFF, 0, 0, 0x820, true⟩,
   ⟨0x80, 4, 1, 0xFFFFFFFF, 0, 0, 0x3E80010, true⟩,
   ⟨0x90, 4, 1, 0xFFFFFFC0, 0, 0, 0, false⟩,
   ⟨0x94, 4, 1, 0xFFFFFFFF, 0, 0, 0, false⟩,
   ⟨0x98, 4, 1, 0xFFFFFFC0, 0, 0, 0, false⟩,
   ⟨0x9C, 4, 1, 0xFFFFFFFF, 0, 0, 0, false⟩,
   ⟨0xA0, 4, 1, 0, 0, 0xF, 0, false⟩,
   ⟨0xA4, 4, 1, 0, 0, 0, 0, false⟩,
   ⟨0xA8, 4, 1, 0, 0, 0, 0, false⟩,
   ⟨0xAC, 4, 1, 0, 0, 0, 0, false⟩,
   ⟨0xB0, 4, 1, 0, 0, 0, 0, false⟩,
   ⟨0xB4, 4, 1, 0, 0, 0, 0, false⟩,
   ⟨0xB8, 4, 1, 0xFF, 0, 0, 0xA, true⟩,
   ⟨0xC0, 8, 8, 0, 0, 0, 0, false⟩,
   ⟨0xC4, 8, 8, 0, 0, 0, 0, false⟩]

/-- The block registers of a family. -/
def Fam.layout : Fam → List RegDef
  | .dev => layoutDev
  | .clkpwr => layoutClkpwr
  | .cfgchk => layoutCfgchk
  | .i3c => layoutI3c
  | .evq => layoutEvq
  | .ledger => layoutLedger
  | .timebase => layoutTimebase
  | .ibreham => layoutIbreham
  | .weir => layoutWeir
  | .stone => layoutStone
  | .dec => layoutDec
  | .runners0 => layoutRunners0
  | .runners1 => layoutRunners1
  | .runners2 => layoutRunners2
  | .runners3 => layoutRunners3
  | .bolter => layoutBolter
  | .governor => layoutGovernor
  | .refpool => layoutRefpool
  | .sessions => layoutSessions
  | .packetizer => layoutPacketizer
  | .leat0 => layoutLeat0
  | .leat1 => layoutLeat1
  | .quad => layoutQuad
  | .switch => layoutSwitch
  | .fwd => layoutFwd
  | .mirror => layoutMirror
  | .sluice => layoutSluice
  | .pcie => layoutPcie
  | .millrace => layoutMillrace
  | .cp => layoutCp
  | .pawl => layoutPawl
  | .dma => layoutDma
  | .hopper => layoutHopper
  | .memctl => layoutMemctl
  | .memarb => layoutMemarb

/-- The registers below 0x40 that behave as plain registers (R38): ERR_MASK, ERR_CLASS, INT_MASK and INT_COAL. The
reset of ERR_CLASS is the minimum class of every source (R468). -/
def Fam.header (f : Fam) : List RegDef :=
  let n := f.info.classes.length
  if n = 0 then [] else
  [⟨0x14, 4, 1, 2 ^ n - 1, 0, 0, 0, true⟩,
   ⟨0x1C, 4, 1, 4 ^ n - 1, 0, 0, f.info.classes.foldr (fun c acc => c + 4 * acc) 0, true⟩,
   ⟨0x38, 4, 1, 0xFFFFFFFF, 0, 0, 0xFFFFFFFE, true⟩,
   ⟨0x3C, 4, 1, 0xFFFFFFFF, 0, 0, 0x10000, true⟩]

/-- The offsets whose registers I3C and REGLOAD each have of their own (R77, R146, R173, R188, R238, R239, R270, R296,
R346, R367, R369, R391, R457). -/
def Fam.perPath : Fam → List Nat
  | .dev => []
  | .clkpwr => []
  | .cfgchk => []
  | .i3c => []
  | .evq => []
  | .ledger => []
  | .timebase => []
  | .ibreham => [0x48, 0x4C, 0x50]
  | .weir => []
  | .stone => []
  | .dec => [0x50, 0x54, 0x58, 0x60]
  | .runners0 => []
  | .runners1 => []
  | .runners2 => []
  | .runners3 => []
  | .bolter => []
  | .governor => [0x40]
  | .refpool => [0x40, 0x50, 0x60]
  | .sessions => [0x40, 0x44, 0x48, 0x50]
  | .packetizer => [0x40, 0x78, 0x7C]
  | .leat0 => [0x40]
  | .leat1 => []
  | .quad => []
  | .switch => []
  | .fwd => [0x40, 0x44, 0x48, 0x4C, 0x50, 0x54, 0x58, 0x5C, 0x60, 0x64, 0x68, 0x6C, 0x70, 0x74]
  | .mirror => []
  | .sluice => [0x4C, 0x68]
  | .pcie => []
  | .millrace => [0x40, 0x184]
  | .cp => [0x50]
  | .pawl => []
  | .dma => []
  | .hopper => [0x50]
  | .memctl => []
  | .memarb => []

end Sys2Proof.Machine
end

