-- ==== Sys2Proof/Machine/PartsControl.lean ====
section
/-!
DEFINITION. State of the control plane: modes, page headers, the I3C target, the event router and queue, the
configuration CRC, the clock and power block and the Ledger (chapters 2, 15, 18 and 19 of the spec).
-/

namespace Sys2Proof.Machine

/-- DEV_MODE.MODE (R413). -/
inductive Mode where
  | off | bringup | standby | run | drain | slack | degraded | halt
  deriving DecidableEq, Repr

/-- The code of a mode (R413). -/
def Mode.code : Mode → Nat
  | .off => 0 | .bringup => 1 | .standby => 2 | .run => 3 | .drain => 4 | .slack => 5 | .degraded => 6 | .halt => 7

/-- An error that a page holds until its reset ends (R437). -/
structure HeldErr where
  src : Nat
  cap : Cap
  obj : Nat
  deriving DecidableEq, Repr

/-- A page marked for re-posting: the highest class among the messages that marked it, their number, and when the first of them
arrived (R50, R54). -/
structure Repost where
  cls   : Nat
  count : Nat
  time  : Nat
  deriving DecidableEq, Repr

/-- The common header of one page (R38), without the plain registers ERR_MASK, ERR_CLASS, INT_MASK and INT_COAL. -/
structure PageHdr where
  /-- PG_CTL.ENABLE. -/
  enable      : Bool
  /-- PG_CTL.FREEZE as it is in force, and the tick at which it came into force. -/
  freeze      : Bool
  frozenAt    : Nat
  /-- In DRAIN: the value FREEZE takes when the part leaves DRAIN (R45). -/
  drainFreeze : Option Bool
  /-- PG_STAT.RESETTING. -/
  resetting   : Bool
  /-- ERR_STAT.SRC. -/
  err         : BitVec 16
  /-- INT_STAT. -/
  int         : Word
  /-- The next error fills the capture (R40). -/
  armed       : Bool
  capAddr     : DWord
  capMaster   : BitVec 12
  capAcc      : BitVec 4
  /-- ERR_CAP_INFO.MERGED. -/
  merged      : Nat
  /-- ERR_CAP_TIME. -/
  capTime     : Nat
  /-- Unmasked causes gathered toward INT_COAL.COUNT, the tick of the first, and the highest class among them (R43). -/
  gathered    : Nat
  gatherAt    : Nat
  gatherClass : Nat
  /-- Marked for re-posting (R54). -/
  repost      : Option Repost
  /-- Errors detected while RESETTING (R437). -/
  held        : List HeldErr
  /-- The correctable-error bucket of R408. -/
  bucket      : Nat
  deriving DecidableEq, Repr

/-- A page header at its reset values (R38). -/
def PageHdr.reset : PageHdr :=
  { enable := false, freeze := false, frozenAt := 0, drainFreeze := none, resetting := false, err := 0, int := 0, armed := true,
    capAddr := 0, capMaster := 0, capAcc := 0, merged := 0, capTime := 0, gathered := 0, gatherAt := 0,
    gatherClass := 0, repost := none, held := [], bucket := 0 }

/-- FREEZE of a page takes a value at a tick. -/
def PageHdr.setFreeze (h : PageHdr) (on : Bool) (now : Nat) : PageHdr :=
  { h with freeze := on, frozenAt := if on && !h.freeze then now else h.frozenAt }

/-- The actions that RSTACT can arm (R28). -/
inductive RstAction where
  | none | target | whole
  deriving DecidableEq, Repr

/-- A pending in-band interrupt: mandatory data byte and payload (R37). -/
structure Ibi where
  code    : Nat
  payload : Nat
  deriving DecidableEq, Repr

/-- The I3C target (R24–R37). -/
structure I3c where
  da        : Option (BitVec 7)
  mwl       : Nat
  mrl       : Nat
  ibiEn     : Bool
  ibis      : List Ibi
  /-- GETSTATUS bit 5. -/
  proto     : Bool
  /-- The action the next target reset pattern takes; `none` is the default 0x01. -/
  armed     : Option RstAction
  /-- RSTACT 0x01 is in progress. -/
  resetting : Bool
  deriving DecidableEq, Repr

/-- The target at its reset values (R34, R37, R472). -/
def I3c.reset : I3c :=
  { da := none, mwl := 259, mrl := 256, ibiEn := true, ibis := [], proto := false, armed := none, resetting := false }

/-- A channel action (R48, R321). -/
inductive ChanAct where
  | start | resume | stop
  deriving DecidableEq, Repr

/-- What a source message carries (R363). -/
inductive MsgBody where
  | page (cls : Nat)
  | chanCmd (act : ChanAct) (by_ : ChanBy)
  | chanRec (typ cls : Nat) (payload : List Byte)
  | stripe (data : Word)
  | sesRec (typ cls : Nat) (payload : List Byte)
  | soft
  deriving DecidableEq, Repr

/-- A source message on a router input: its source number, what it carries, and when it arrived (R43, R50). -/
structure Msg where
  source : Nat
  body   : MsgBody
  time   : Nat
  deriving DecidableEq, Repr

/-- The host event queue (R49–R55). -/
structure Evq where
  prod         : Nat
  cons         : Nat
  suspended    : Bool
  /-- EVQ_LOST by KIND; a KIND's EVQ_SUM bit is 1 when its count is not 0. -/
  lost         : Tbl Nat
  /-- When the first message that EVQ_LOST counts arrived (R50). -/
  lostAt       : Nat
  /-- Records written since the last notification, and the tick of the first of them (R52). -/
  unnotified   : Nat
  unnotifiedAt : Nat
  /-- Since when the ring is full (R55, EVQ_LAG_LIMIT). -/
  fullAt       : Option Nat
  deriving DecidableEq, Repr

/-- The queue at POR (R55). -/
def Evq.reset : Evq :=
  { prod := 0, cons := 0, suspended := false, lost := [], lostAt := 0, unnotified := 0, unnotifiedAt := 0, fullAt := none }

/-- The configuration CRC (R46, R47): per-page CRCs by ordinal. -/
structure CfgChk where
  passBusy   : Bool
  commitBusy : Bool
  refValid   : Bool
  passes     : Nat
  refCrc     : Nat
  liveCrc    : Nat
  refs       : Tbl Nat
  live       : Tbl Nat
  mmFirst    : Nat
  mmCount    : Nat
  deriving DecidableEq, Repr

/-- Before any pass (R47). -/
def CfgChk.reset : CfgChk :=
  { passBusy := false, commitBusy := false, refValid := false, passes := 0, refCrc := 0, liveCrc := 0, refs := [],
    live := [], mmFirst := 0, mmCount := 0 }

/-- Why bring-up runs (R425, R432). -/
inductive ResetKind where
  | por | resetN | rstact2 | sreset | repeated
  deriving DecidableEq, Repr

/-- The DEV page and the bring-up sequencer (R413–R426, R432). -/
structure Dev where
  mode      : Mode
  prev      : Mode
  /-- A mode change in progress (DEV_STAT.BUSY). -/
  changing  : Option Mode
  /-- DEV_STAT.RESULT. -/
  result    : Nat
  buFail    : Nat
  buMs      : Nat
  /-- The first attempt failed and bring-up is repeated (R419). -/
  retried   : Bool
  /-- The second attempt failed: the part stays in BRINGUP (R419). -/
  stuck     : Bool
  /-- The reset that bring-up follows. -/
  cause     : ResetKind
  /-- The pins PWR_OK and RESET_N. -/
  pwrOk     : Bool
  resetN    : Bool
  /-- DEV_CTL.SRESET in progress. -/
  sreset    : Bool
  serial    : DWord
  deriving DecidableEq, Repr

/-- A domain that was asked to power down, and when (R424). -/
structure Drain where
  dom   : Domain
  since : Nat
  deriving DecidableEq, Repr

/-- The CLKPWR page (R424, R433, R444). -/
structure Clkpwr where
  fclk   : Bool
  vclk   : Bool
  mclk   : Bool
  /-- Since when a lost PLL is out of lock, by clock code. -/
  lostAt : Tbl Nat
  core   : Bool
  /-- Quads powered down. -/
  quadsOff : List Nat
  drains : List Drain
  deriving DecidableEq, Repr

/-- One fault entry of the Ledger (R429). -/
structure LdgFault where
  time   : Nat
  page   : Nat
  src    : Nat
  cls    : Nat
  mode   : Nat
  master : BitVec 12
  acc    : BitVec 4
  merged : Nat
  addr   : DWord
  por    : Nat
  buFail : Nat
  deriving DecidableEq, Repr

/-- The WEAR counts (R429). -/
structure Wear where
  por      : Nat
  writes   : Nat
  hoursLow : Nat
  hoursMid : Nat
  hoursTop : Nat
  deriving DecidableEq, Repr

/-- The RETIRE bitmaps as physical indexes (R429). -/
structure Retire where
  stones  : List Nat
  runners : List Nat
  cps     : List Nat
  deriving DecidableEq, Repr

/-- Nothing retired. -/
def Retire.none : Retire := { stones := [], runners := [], cps := [] }

/-- A valid record of a bank (R428, R429): SEQ, the part's own sections, and the others by TYPE as bytes; and the types of the
sections whose SCRC fails (R430). -/
structure LdgRecord where
  seq    : Nat
  wear   : Wear
  faults : List LdgFault
  retire : Retire
  secs   : Tbl (List Byte)
  bad    : List Nat
  deriving DecidableEq, Repr

/-- What a bank holds (R430). -/
inductive LdgBank where
  | blank | bad | valid (r : LdgRecord)
  deriving DecidableEq, Repr

/-- The Ledger commands (R434). -/
inductive LdgCmd where
  | sync | writeUser | readUser | writeRecord | clearRetire | readFaults
  deriving DecidableEq, Repr

/-- A record write in progress (R431): the bank, the record, the updates that it carries, the command it serves, whether it is
the retry, and when it began. -/
structure LdgWrite where
  bank  : Nat
  record : LdgRecord
  added : List LdgFault
  retireP : Bool
  wearP   : Bool
  cmd   : Option LdgCmd
  retry : Bool
  since : Nat
  deriving DecidableEq, Repr

/-- The Ledger controller (R427–R434). -/
structure Ledger where
  bank0   : LdgBank
  bank1   : LdgBank
  /-- LDG_SIZE_MIB. -/
  size    : Nat
  write   : Option LdgWrite
  /-- A READ_USER or READ_FAULTS in progress, with the LDG_ADDR that it was written with. -/
  read    : Option (LdgCmd × Nat)
  /-- LDG_STAT.RESULT. -/
  result  : Nat
  /-- Pending updates, held in the always-on domain: fault entries, and whether RETIRE or WEAR changed. -/
  faults  : List LdgFault
  retireP : Bool
  wearP   : Bool
  /-- The tick of the last write, none before the first. -/
  lastAt  : Option Nat
  /-- The counts and retirements that the next record carries. -/
  wear    : Wear
  retire  : Retire
  /-- Units retired when CLEAR_RETIRE was written, kept retired through warm resets (R434). -/
  heldRetire : Retire
  deriving DecidableEq, Repr

end Sys2Proof.Machine
end

