-- ==== Sys2Proof/Machine/PartsLoad.lean ====
section
/-!
DEFINITION. State of memory, time, storage and the load flow: GDDR7 sites, the arbiter and scrubber, the time base and
the Sluice, PCIe links and NVMe controllers, DMA engines, the Hopper, Ibreham, channels, channel processors and pawls
(chapters 12 to 17 and 20 of the spec).
-/

namespace Sys2Proof.Machine

/-- One tracked row of a bank (R398): the row, its count, and the tally of masters. -/
structure ActRow where
  row   : Nat
  count : Nat
  tally : List (Nat × Nat)
  deriving DecidableEq, Repr

/-- A throttle in force (R398): the master, its end, and the activations it took in the current microsecond. -/
structure Throttle where
  master : Nat
  until_ : Nat
  since  : Nat
  spent  : Nat
  deriving DecidableEq, Repr

/-- One GDDR7 site (R392–R398, R411). -/
structure Site where
  trained  : Bool
  rate     : Nat
  density  : Nat
  /-- Tracked rows by bank (channel, group and bank bits of R394). -/
  acts     : Tbl (List ActRow)
  /-- When the counting window of R398 began. -/
  actAt    : Nat
  throttle : Option Throttle
  /-- MC_REF.INTERVAL_NS in force since the last refresh, and when that refresh started (R397). -/
  interval : Nat
  refAt    : Nat
  deriving DecidableEq, Repr

/-- A scrub in progress (R409). -/
structure Scrub where
  base  : Nat
  len   : Nat
  rate  : Nat
  since : Nat
  deriving DecidableEq, Repr

/-- The arbiter and the contents of part DRAM. -/
structure Mem where
  /-- Bytes by part DRAM address; an unlisted byte reads as 0 in a line that has been written. -/
  cells  : List Host.Cell
  /-- The stored check of every line written since power came, by line number; a line without one is not good. -/
  checks : Tbl (BitVec 16)
  /-- MA_STAT.OPEN. -/
  isOpen : Bool
  /-- The last instant at which the buckets leaked (R408). -/
  leakAt : Nat
  /-- Masters that reached MA_WAIT_LIMIT, with the site, in order (R400). -/
  forced : List (Nat × Nat)
  scrub  : Option Scrub
  /-- MA_SCRUB_STAT.RESULT. -/
  scrubRes : Nat
  fails  : List Nat
  /-- What the last DRAM_LINE_READ delivered: the line, or nothing where it failed (R405). -/
  answer : Option (List Byte)
  deriving DecidableEq, Repr

/-- The time base (R273–R285). -/
structure TimeBase where
  offset   : Nat
  rate     : Nat
  heldOff  : Tbl Word
  refE     : Bool
  pllLock  : Bool
  /-- The next target of each enabled comparator, in units of 2^-32 ns (R282). -/
  next     : Tbl Nat
  hit      : Word
  skip     : Word
  ppsOut   : Bool
  /-- When PPS_OUT falls. -/
  ppsFall  : Nat
  ppsInAt  : Option Nat
  deriving DecidableEq, Repr

/-- A Sluice flow description (R286). -/
structure FlowDesc where
  rateKbps : Nat
  burst    : Nat
  overhead : Int
  follow   : Bool
  fmult    : Nat
  port     : Nat
  deriving DecidableEq, Repr

/-- Who owns a flow (R296). -/
inductive FlowOwner where
  | session (n : Nat)
  | device (d : Nat)
  deriving DecidableEq, Repr

/-- A packet held by a flow: its frame without FCS, and the RTP numbers that R228 records at its send. -/
structure FlowPkt where
  frame : List Byte
  rtx   : Bool
  seq   : Nat
  deriving DecidableEq, Repr

/-- A bound Sluice flow (R286–R292). Credit is in 2^-16 bytes, exact at the tick `kAt`. -/
structure Flow where
  desc    : FlowDesc
  owner   : FlowOwner
  k       : Int
  kAt     : Nat
  /-- The rate in bit/s (R287). -/
  r       : Nat
  pkts    : List FlowPkt
  /-- The eligible time and whether the flow stands on the coarse wheel (R289). -/
  wheel   : Option (Nat × Bool)
  blocked : Bool
  sent    : Nat
  deriving DecidableEq, Repr

/-- One copy of an egress slot table (R293). -/
structure GateCopy where
  en      : Bool
  count   : Nat
  phase   : Nat
  entries : Tbl Word
  deriving DecidableEq, Repr

/-- A slot table copy at reset (R296). -/
def GateCopy.reset : GateCopy := { en := false, count := 1, phase := 0, entries := [] }

/-- The slot table of one port (R293–R295). -/
structure Gate where
  copy0   : GateCopy
  copy1   : GateCopy
  active  : Bool
  pending : Bool
  swaps   : Nat
  /-- An uncorrectable table word opens every gate until the next swap (R296). -/
  openAll : Bool
  /-- The entry in force, and its count within the cycle. -/
  entry   : Nat
  deriving DecidableEq, Repr

/-- A port's gates at reset. -/
def Gate.reset : Gate :=
  { copy0 := GateCopy.reset, copy1 := GateCopy.reset, active := false, pending := false, swaps := 0, openAll := false,
    entry := 0 }

/-- One MSI-X vector of the host endpoint (R304, R306). -/
structure MsixVec where
  addr : Nat
  data : Nat
  mask : Bool
  pend : Bool
  deriving DecidableEq, Repr

/-- A vector at reset: masked, as the base specification gives. -/
def MsixVec.reset : MsixVec := { addr := 0, data := 0, mask := true, pend := false }

/-- A PCIe link, in the page of its first quad (R298–R308, R319). -/
structure Link where
  up      : Bool
  rate    : Nat
  width   : Nat
  flit    : Bool
  ltssm   : Nat
  /-- Function configuration space, by dword register number; unlisted reads as its reset value. -/
  cfg     : Tbl Word
  vecs    : Tbl MsixVec
  /-- The role is lost by a LOGIC error (R444). -/
  dead    : Bool
  deriving DecidableEq, Repr

/-- A link at reset: Detect.Quiet. -/
def Link.reset : Link :=
  { up := false, rate := 0, width := 0, flit := false, ltssm := 0, cfg := [], vecs := [], dead := false }

/-- A posted write that an endpoint's link brings: the link, the BAR, the offset, the bytes, the first DWORD's byte enables, and
poison. -/
structure Inbound where
  link   : Nat
  bar    : Option Nat
  off    : Nat
  bytes  : List Byte
  be     : BitVec 4
  poison : Bool
  deriving DecidableEq, Repr

/-- NVME_STAT.STATE (R319). -/
inductive NvmeSt where
  | down | init | ready | resetting | failed
  deriving DecidableEq, Repr

/-- The code of an NVMe state (R319). -/
def NvmeSt.code : NvmeSt → Nat
  | .down => 0 | .init => 1 | .ready => 2 | .resetting => 3 | .failed => 4

/-- An NVMe command in flight (R315–R317): its step's channel, what it does, where its data lies, and its history. -/
structure NvmeCmd where
  chan    : Nat
  admin   : Bool
  opcode  : Nat
  pairNo  : Nat
  nsid    : Nat
  lba     : Nat
  len     : Nat
  offset  : Nat
  /-- Where its data lies in part DRAM: address and length of each piece. -/
  pieces  : List (Nat × Nat)
  /-- It stands in its submission queue; until then it waits for room, or for READY (R315, R317). -/
  sent    : Bool
  issued  : Nat
  aborted : Bool
  deriving DecidableEq, Repr

/-- The NVMe controller of a root port (R312–R319). -/
structure Nvme where
  st      : NvmeSt
  pairs   : Nat
  nn      : Nat
  mdts    : Nat
  /-- Size in LBAs and log2 of the LBA size, by namespace. -/
  spaces  : Tbl (Nat × Nat)
  cmds    : Tbl NvmeCmd
  nextCid : Nat
  /-- Ticks of the controller resets of the last 60 s. -/
  resets  : List Nat
  deriving DecidableEq, Repr

/-- A controller before bring-up. -/
def Nvme.reset : Nvme :=
  { st := .down, pairs := 0, nn := 0, mdts := 0, spaces := [], cmds := [], nextCid := 0, resets := [] }

/-- Whom a DMA engine serves (R370, R184). -/
inductive DmaOwner where
  | channel (c : Nat)
  | pipe (n : Nat)
  deriving DecidableEq, Repr

/-- A DMA transfer (R371, R373). -/
structure DmaSet where
  src   : Nat
  dst   : Nat
  count : Nat
  ctl   : Nat
  tag   : Nat
  owner : DmaOwner
  deriving DecidableEq, Repr

/-- One DMA engine (R370–R381, R390). -/
structure Dma where
  cur     : Option DmaSet
  /-- Shadow words 0 to 6. -/
  sh      : Tbl Word
  armed   : Bool
  shOwner : DmaOwner
  /-- A STOP or a powered-down domain ends the current transfer: the end code to give. -/
  ending  : Option Nat
  lastCode : Nat
  lastTag  : Nat
  lastDone : Nat
  lastOwner : DmaOwner
  retired : Bool
  deriving DecidableEq, Repr

/-- An engine at reset. -/
def Dma.reset : Dma :=
  { cur := none, sh := [], armed := false, shOwner := .channel 0, ending := none, lastCode := 0, lastTag := 0,
    lastDone := 0, lastOwner := .channel 0, retired := false }

/-- Who waits for a Hopper buffer (R386). -/
inductive HopWho where
  | chan (c : Nat)
  | leat (q lane : Nat)
  | dec (session : Nat)
  deriving DecidableEq, Repr

/-- A waiting request (R386). -/
structure HopWait where
  who   : HopWho
  owner : Nat
  since : Nat
  long  : Bool
  deriving DecidableEq, Repr

/-- One Hopper pool (R382–R389). The free indexes stand in the on-chip cache and then in the free ring of part DRAM,
from slot `head`, `ringLen` of them. -/
structure Pool where
  en      : Bool
  count   : Nat
  cache   : List Nat
  head    : Nat
  ringLen : Nat
  /-- Held buffers by owner. -/
  held    : Tbl Nat
  waiters : List HopWait
  low     : Nat
  deriving DecidableEq, Repr

/-- A pool before INIT. -/
def Pool.reset : Pool :=
  { en := false, count := 0, cache := [], head := 0, ringLen := 0, held := [], waiters := [], low := 0 }

/-- A granted Hopper buffer: pool, index, owner, and the bytes it holds. -/
structure Buf where
  pool  : Nat
  index : Nat
  owner : Nat
  len   : Nat
  deriving DecidableEq, Repr

/-- The Hopper (R382–R391). -/
structure Hopper where
  pools   : Tbl Pool
  /-- The pool that HOP_CMD INIT is working on. -/
  busy    : Option Nat
  result  : Nat
  waits   : Tbl Nat
  deriving DecidableEq, Repr

/-- A key slot (R455, R456). -/
structure KeySlot where
  typ  : Nat
  tag  : Nat
  key  : List Byte
  salt : List Byte
  uses : Nat
  deriving DecidableEq, Repr

/-- An empty slot. -/
def KeySlot.empty : KeySlot := { typ := 0, tag := 0, key := [], salt := [], uses := 0 }

/-- A queued IBR_CMD (R457). -/
structure IbrCmd where
  path : Path
  cmd  : Nat
  slot : Nat
  kek  : Nat
  addr : Nat
  deriving DecidableEq, Repr

/-- Ibreham (R453–R464). -/
structure Ibreham where
  slots  : Tbl KeySlot
  queue  : List IbrCmd
  resI3c : Nat
  resReg : Nat
  locked : Bool
  /-- Device root secret, Zallar key and customer key. -/
  drs    : List Byte
  zpk    : List Byte
  cpk    : Option (List Byte)
  tamper : BitVec 4
  deriving DecidableEq, Repr

/-- Channel states (R320). -/
inductive ChanSt where
  | idle | active | waiting | held | faulted
  deriving DecidableEq, Repr

/-- The code of a channel state (R320). -/
def ChanSt.code : ChanSt → Nat
  | .idle => 0 | .active => 1 | .waiting => 2 | .held => 3 | .faulted => 4

/-- A step (R328). -/
structure Step where
  op      : Nat
  flags   : Nat
  dev     : Nat
  count   : Nat
  addr    : Nat
  p0      : Nat
  p1      : Nat
  key     : Nat
  timeout : Nat
  retry   : Nat
  /-- Bits that R328 gives as zero. -/
  rsvd    : Nat
  deriving DecidableEq, Repr

/-- How a step ended (R342). -/
structure StepEnd where
  result : Nat
  detail : Nat
  done   : Nat
  deriving DecidableEq, Repr

/-- What a dispatched step is doing. -/
inductive StepPhase where
  | start      -- dispatched; its own work has not begun
  | hopper     -- waits for a Hopper buffer
  | waiting    -- waits for a source message, a device or an XSLOT
  | dma        -- a transfer is armed or current
  | moved      -- its transfer has ended OK
  | nvme       -- NVMe commands are in flight
  | close      -- CLOSE waits for the lane
  | xform      -- a transform holds its XSLOT
  | poll       -- a REGLOAD POLL
  | ext        -- an extension call runs
  deriving DecidableEq, Repr

/-- A step in progress (R323). -/
structure StepRun where
  step   : Step
  /-- The device entry as read at dispatch: its eight words (R325, R326). -/
  entry  : List Nat
  /-- The entry of the device that MEMDEV names. -/
  memEntry : List Nat
  at_    : Nat
  phase  : StepPhase
  /-- The latched key of a KEYED step (R458). -/
  key    : List Byte
  out    : Option Buf
  /-- Where data that has passed a device stands on its way (a staged result). -/
  data   : List Byte
  /-- NVMe commands still to complete; bytes done so far. -/
  left   : Nat
  done   : Nat
  /-- REGLOAD: bytes of the image already applied; else how far the step is: 0 its input, 1 its output is ready, 2 the last
  transfer runs, 3 its transform runs. -/
  pos    : Nat
  /-- DONE, where it is not the bytes moved (R343). -/
  doneIs : Option Nat
  /-- The tick of the last read of a POLL (R339). -/
  mark   : Nat
  /-- NVMe reissues spent (R316). -/
  spent  : Nat
  /-- The effect has left the Millrace (R358). -/
  sent   : Bool
  /-- STOP, or the expiry of TIMEOUT, ends the step with this result. -/
  ending : Option Nat
  fin    : Option StepEnd
  deriving DecidableEq, Repr

/-- A frame in a channel's receive queue, with its timestamp record where R280 gives one. -/
structure RxFrame where
  stamp : List Byte
  bytes : List Byte
  deriving DecidableEq, Repr

/-- One channel (R320–R346). -/
structure Chan where
  cfg     : Word
  priv    : Bool
  prog    : Nat
  srBase  : Nat
  st      : ChanSt
  latch   : Bool
  hopWait : Bool
  result  : Nat
  pc      : Nat
  srProd  : Nat
  steps   : Nat
  run     : Option StepRun
  /-- OP and TAG of the last step dispatched, which a STOPPED record of a HELD channel names (R321, R343). -/
  lastOp  : Nat
  lastTag : Nat
  /-- The chained buffer that the next step takes, and the first step of its data chain (R332, R341). -/
  inBuf   : Option Buf
  chainPc : Nat
  retries : Nat
  /-- After HOLD: where the program goes on, none when it ends (R321). -/
  nextPc  : Option Nat
  rx      : List RxFrame
  deriving DecidableEq, Repr

/-- A channel at reset (R346). -/
def Chan.reset : Chan :=
  { cfg := 0x00080000#32, priv := false, prog := 0, srBase := 0, st := .idle, latch := false, hopWait := false,
    result := 0, pc := 0, srProd := 0, steps := 0, run := none, lastOp := 0, lastTag := 0, inBuf := none, chainPc := 0,
    retries := 0, nextPc := none, rx := [] }

/-- Roles of physical stones, runners and CPs (R119, R190, R367). -/
inductive Role where
  | spare | usable | retired
  deriving DecidableEq, Repr

/-- The code of a role (R367). -/
def Role.code : Role → Nat
  | .spare => 0 | .usable => 1 | .retired => 2

/-- The event controller of one CP (R364). -/
structure Eic where
  pend  : Tbl Word
  mask  : Tbl Word
  auto  : Tbl Word
  /-- Messages that set unmasked PEND bits since WFM was left, and the tick of the first. -/
  count : Nat
  since : Nat
  /-- A hold in force since this tick, with its queue (R364). -/
  hold  : Option Nat
  queue : List Nat
  /-- The group that port EIC_SEL selects (R354). -/
  sel   : Nat
  deriving DecidableEq, Repr

/-- A controller at reset (R367). -/
def Eic.reset : Eic :=
  { pend := [], mask := [], auto := [], count := 0, since := 0, hold := none, queue := [], sel := 0 }

/-- An extension call in progress (R355, R356). -/
structure ExtCall where
  chan  : Nat
  since : Nat
  deriving DecidableEq, Repr

/-- One physical channel processor (R347–R359, R364). -/
structure Cp where
  role    : Role
  logical : Nat
  w       : Tbl Word
  p       : Tbl Word
  rc      : BitVec 16
  fl      : BitVec 8
  pc      : Nat
  stack   : List (Nat × Bool)
  /-- Immediate prefixes taken, a REP taken, and the address of the first prefix (R351, R352). -/
  imms    : List Nat
  rep     : Bool
  /-- The iteration latch of a repeated instruction that waits on a busy port (R348, R352). -/
  latch   : Option Nat
  first   : Option Nat
  tpc     : Nat
  tnext   : Nat
  tfl     : BitVec 8
  tcause  : Nat
  trep    : Nat
  prog    : Tbl (BitVec 14)
  data    : Tbl Byte
  running : Bool
  sleep   : Bool
  ext     : Bool
  version : Nat
  /-- DIGEST fields of the images held, for MEASURE (R462). -/
  baseDig : List Byte
  extDig  : List Byte
  eic     : Eic
  timeHi  : Word
  dmaIdx  : Nat
  call    : Option ExtCall
  /-- The image's word 12,417 runs once before the next call (R356). -/
  extInit : Bool
  /-- An image command in progress: its code and, for MOVE, the logical CP. -/
  img     : Option (Nat × Nat)
  imgRes  : Nat
  /-- The logical CP whose takeover this CP owes (R358). -/
  failed  : Bool
  deriving DecidableEq, Repr

/-- One pawl (R360–R362, R368). -/
structure Pawl where
  v       : Tbl (BitVec 16)
  t       : Nat
  e       : BitVec 16
  ep      : BitVec 16
  z       : Bool
  c       : Bool
  pc      : Nat
  stack   : List Nat
  imms    : List Nat
  first   : Option Nat
  trap    : Bool
  tpc     : Nat
  tnext   : Nat
  tz      : Bool
  tc      : Bool
  tcause  : Nat
  prog    : Tbl (BitVec 12)
  running : Bool
  sleep   : Bool
  twait   : Bool
  version : Nat
  dig     : List Byte
  rqAddr  : Tbl (BitVec 16)
  rqData  : Tbl (BitVec 16)
  /-- RQ_CMD issued and not ended: 1 write, 2 read. -/
  rq      : Option Nat
  rqErr   : Bool
  msi     : List Nat
  work    : List Nat
  memAddr : Tbl (BitVec 16)
  line    : Tbl (BitVec 16)
  /-- MEM_CMD in progress: 1 read, 2 write. -/
  memCmd  : Option Nat
  timeLat : Nat
  loading : Bool
  imgRes  : Nat
  /-- The root port is lost by a LOGIC error (R444). -/
  dead    : Bool
  deriving DecidableEq, Repr

/-- A pawl with no image; its registers hold 0 (DESIGN CHOICE, assumption 133). -/
def Pawl.reset : Pawl :=
  { v := [], t := 0, e := 0, ep := 0, z := false, c := false, pc := 0, stack := [], imms := [], first := none,
    trap := false, tpc := 0, tnext := 0, tz := false, tc := false, tcause := 0, prog := [], running := false,
    sleep := false, twait := false, version := 0, dig := [], rqAddr := [], rqData := [], rq := none, rqErr := false,
    msi := [], work := [], memAddr := [], line := [], memCmd := none, timeLat := 0, loading := false, imgRes := 0,
    dead := false }

end Sys2Proof.Machine
end

