-- ==== Sys2Proof/Machine/PartsPicture.lean ====
section
/-!
DEFINITION. What the part signals about a picture in the bitstream: the syntax values that R84, R104 to R108, R112, R118, R125, R129,
R158 and R162 state for access unit delimiters, parameter sets, recovery points, sequence, frame and slice headers, and the
checkpoints of R119. The values are state; how the codec standards write them as bits is open (assumption 28).
-/

namespace Sys2Proof.Machine

/-- Picture classes of the Governor (R128). -/
inductive PicCls where
  | key | p | b
  deriving DecidableEq, Repr

/-- nal_hrd_parameters with one CPB (R125). -/
structure Hrd where
  rateScale : Nat
  rateValue : Nat
  cpbScale  : Nat
  cpbValue  : Nat
  cbr       : Bool
  lowDelay  : Bool
  deriving DecidableEq, Repr

/-- Colour signalling (R84): the VUI of AVC and HEVC, and the AV1 colour configuration. -/
structure ColourSig where
  primaries : Nat
  transfer  : Nat
  matrix    : Nat
  fullRange : Bool
  /-- Chroma sample location type, or AV1 chroma_sample_position. -/
  location  : Nat
  deriving DecidableEq, Repr

/-- An AVC sequence parameter set (R104, R105, R125, R158). -/
structure AvcSps where
  profile      : Nat
  level        : Nat
  widthMbs     : Nat
  heightMbs    : Nat
  /-- Frame cropping at the right and the bottom, in luma samples. -/
  cropRight    : Nat
  cropBottom   : Nat
  maxRefFrames : Nat
  frameMbsOnly : Bool
  gapsAllowed  : Bool
  colour       : ColourSig
  hrd          : Hrd
  deriving DecidableEq, Repr

/-- An AVC picture parameter set (R105). -/
structure AvcPps where
  cabac            : Bool
  transform8x8     : Bool
  weighted         : Bool
  constrainedIntra : Bool
  redundant        : Bool
  sliceGroups      : Nat
  flatScaling      : Bool
  deriving DecidableEq, Repr

/-- An HEVC video parameter set (R104). -/
structure HevcVps where
  profile : Nat
  level   : Nat
  layers  : Nat
  deriving DecidableEq, Repr

/-- An HEVC sequence parameter set (R104, R106, R125). -/
structure HevcSps where
  profile      : Nat
  highTier     : Bool
  level        : Nat
  /-- pic_width and pic_height, and the conformance window at the right and the bottom, in luma samples. -/
  picWidth     : Nat
  picHeight    : Nat
  confRight    : Nat
  confBottom   : Nat
  depth        : Nat
  ctb          : Nat
  minCb        : Nat
  minTb        : Nat
  maxTb        : Nat
  amp          : Bool
  sao          : Bool
  pcm          : Bool
  scalingLists : Bool
  strongIntra  : Bool
  temporalMvp  : Bool
  longTerm     : Bool
  /-- Short-term reference picture sets in the SPS. -/
  shortSets    : Nat
  colour       : ColourSig
  hrd          : Hrd
  deriving DecidableEq, Repr

/-- An HEVC picture parameter set (R62, R106, R110, R111). -/
structure HevcPps where
  cuQpDelta         : Bool
  diffCuQpDelta     : Nat
  cbQpOffset        : Nat
  crQpOffset        : Nat
  signHiding        : Bool
  transformSkip     : Bool
  transquantBypass  : Bool
  weighted          : Bool
  constrainedIntra  : Bool
  dependentSegments : Bool
  entropySync       : Bool
  /-- Column widths and row heights in CTBs where tiles are in use. -/
  tileCols          : List Nat
  tileRows          : List Nat
  filterAcrossTiles : Bool
  filterAcrossSlices : Bool
  deriving DecidableEq, Repr

/-- An AV1 sequence header (R84, R104, R107, R125). -/
structure Av1Seq where
  profile           : Nat
  tier              : Nat
  level             : Nat
  reducedStill      : Bool
  superblock128     : Bool
  frameIdNumbers    : Bool
  orderHint         : Bool
  filterIntra       : Bool
  intraEdgeFilter   : Bool
  interintra        : Bool
  maskedCompound    : Bool
  warpedMotion      : Bool
  dualFilter        : Bool
  jntComp           : Bool
  superres          : Bool
  cdef              : Bool
  restoration       : Bool
  filmGrain         : Bool
  width             : Nat
  height            : Nat
  depth             : Nat
  colour            : ColourSig
  equalInterval     : Bool
  decoderDelay      : Nat
  encoderDelay      : Nat
  lowDelayMode      : Bool
  deriving DecidableEq, Repr

/-- An AV1 frame header (R62, R107, R110, R118, R158, R162). -/
structure Av1Frame where
  isKey          : Bool
  shown          : Bool
  errorResilient : Bool
  primaryNone    : Bool
  orderHint      : Nat
  /-- The slot that the committed picture overwrites, as a bit mask. -/
  refresh        : Nat
  /-- Slots of LAST, LAST2, LAST3, GOLDEN, BWDREF, ALTREF2 and ALTREF. -/
  refIdx         : List Nat
  width          : Nat
  height         : Nat
  highPrecision  : Bool
  /-- The interpolation filter is switchable; else REGULAR. -/
  switchable     : Bool
  uniformTiles   : Bool
  /-- Tile widths and heights in superblocks. -/
  tileCols       : List Nat
  tileRows       : List Nat
  contextTile    : Nat
  deltaQ         : Bool
  deltaQRes      : Nat
  deltaLf        : Bool
  quantMatrix    : Bool
  segmentation   : Bool
  cdefBits       : Nat
  /-- Wiener restoration units in luma samples. -/
  wienerUnit     : Nat
  selfGuided     : Bool
  globalMotion   : Bool
  deriving DecidableEq, Repr

/-- A recovery point SEI (R118). -/
structure RecoverySei where
  count      : Nat
  exactMatch : Bool
  brokenLink : Bool
  deriving DecidableEq, Repr

/-- What stands before the first row unit of a picture (R112, R224). -/
inductive HeadUnit where
  | temporalDelimiter
  | avcAud (cls : PicCls)
  | hevcAud (cls : PicCls)
  | avcSps (x : AvcSps)
  | avcPps (x : AvcPps)
  | hevcVps (x : HevcVps)
  | hevcSps (x : HevcSps)
  | hevcPps (x : HevcPps)
  | av1Seq (x : Av1Seq)
  | av1Frame (x : Av1Frame)
  | recovery (hevc : Bool) (x : RecoverySei)
  deriving DecidableEq, Repr

/-- A memory management operation of AVC (R158): MMCO 4, 1, 2 and 6; pictures are named by their number in the pool. -/
inductive Mmco where
  | maxLong (n : Nat)
  | unmarkShort (pic : Nat)
  | unmarkLong (slot : Nat)
  | becomeLong (slot : Nat)
  deriving DecidableEq, Repr

/-- An entry of an HEVC reference picture set: a POC and used_by_curr_pic; a long-term one with delta_poc_msb_present_flag. -/
structure RpsEntry where
  poc     : Nat
  used    : Bool
  msbSent : Bool
  deriving DecidableEq, Repr

/-- What the slice headers of a picture carry (R105, R106, R108, R158, R162). -/
structure SliceHead where
  /-- nal_unit_type of AVC or HEVC, and nal_ref_idc of AVC. -/
  nalType     : Nat
  refIdc      : Nat
  cls         : PicCls
  poc         : Nat
  frameNum    : Nat
  /-- The references in the order of list 0, by their number in the pool; num_ref_idx_l0_active_minus1 is one less than their count. -/
  list0       : List Nat
  spatialDirect : Bool
  mmco        : List Mmco
  shortSet    : List RpsEntry
  longSet     : List RpsEntry
  temporalMvp : Bool
  /-- The collocated picture, where temporal motion vector prediction is on and the spec names it (R162). -/
  collocated  : Option Nat
  sao         : Bool
  /-- Deblocking is on, with offsets 0 (R105, R106). -/
  deblocking  : Bool
  deriving DecidableEq, Repr

/-- No header yet. -/
def SliceHead.empty : SliceHead :=
  { nalType := 0, refIdc := 0, cls := .key, poc := 0, frameNum := 0, list0 := [], spatialDirect := true, mmco := [], shortSet := [],
    longSet := [], temporalMvp := false, collocated := none, sao := false, deblocking := true }

/-- A checkpoint area of a tile column (R119): what its header names, the samples and the modes along the segment's bottom edge, and
whether its header has been written. -/
structure Ckpt where
  seq      : Nat
  frame    : Nat
  row      : Nat
  q        : Nat
  preset   : Nat
  /-- The clean region in 64-sample columns, and the refresh cycle's advance and stalls (R116). -/
  clean    : Nat
  cycle    : Option (Nat × Nat)
  /-- The seam bands to the left and the right have been exchanged. -/
  seam     : Bool × Bool
  samples  : List Nat
  modes    : List Byte
  complete : Bool
  deriving DecidableEq, Repr

end Sys2Proof.Machine

namespace Sys2Proof

/-- The bytes by which a codec standard writes a unit before a picture, start code and OBU framing aside (assumption 28). -/
opaque Config.unitBytes : Machine.HeadUnit → List Byte

/-- The coding elements of the header of a slice or slice segment: what it carries, whether it is independent, the raster number of its
first block, and its QP (assumption 28). -/
opaque Config.sliceElems : Machine.SliceHead → Bool → Nat → Nat → List (BitVec 64)

/-- The 1,024 bytes of a checkpoint's header (R119): what it holds is stated, its layout is not (assumption 24). -/
opaque Config.ckptHead : Machine.Ckpt → List Byte

/-- The base_q_idx of R135 for a quantiser scale and a bit depth: the AV1 tables are not in the spec (assumption 28). -/
opaque Config.av1QIdx : Nat → Nat → Nat

end Sys2Proof
end

