-- ==== Sys2Proof/Machine/PartsStream.lean ====
section
/-!
DEFINITION. State of the encode side: sessions and their frames, Bolters, stones, the Governor, the reference pool, the
packetizer and the leat queues (chapters 3 to 7 and 10 of the spec).
-/

namespace Sys2Proof.Machine

/-- SES_STATE.STATE (R56). -/
inductive SesSt where
  | free | ready | running | stopping | held
  deriving DecidableEq, Repr

/-- The code of a session state (R56). -/
def SesSt.code : SesSt → Nat
  | .free => 0 | .ready => 1 | .running => 2 | .stopping => 3 | .held => 4

/-- Where a released row segment stands on its way (R92, R95, R113). -/
inductive SegSt where
  | atBolter | queued | coding | coded | committed
  deriving DecidableEq, Repr

/-- A released row segment: its row and tile column, target, ceiling and q (R132). -/
structure Seg where
  row     : Nat
  col     : Nat
  t       : Int
  c       : Nat
  q       : Nat
  /-- Floor mode from its release; coded so under R72 or R58, which never sets floor_sticky (R134). -/
  floor   : Bool
  short   : Bool
  st      : SegSt
  /-- The physical stone that codes it, and the preset it runs at (R102). -/
  phys    : Nat
  preset  : Nat
  /-- Its blocks as analysis has decided them; none yet where empty. They stay for a stone that codes it again (R96, R134). -/
  blocks  : List Block
  /-- Blocks passed to the runner, and the coding elements of them that it has not popped (R134, R198). -/
  passed  : Nat
  queue   : List DWord
  /-- The exact bits of its blocks that the runner has reported (R199). -/
  reports : List Nat
  /-- When its last block was reconstructed (R97). -/
  reconAt : Option Nat
  /-- The first block in floor mode, where there is one (R134). -/
  floorAt : Option Nat
  /-- The bytes of its runner's unit, from DONE until they are linked, and how many it wrote in all (R113, R200, R218). -/
  out     : Option (List Byte)
  wrote   : Nat
  /-- A flush or reset has dropped its open fragment (R221, R223). -/
  cut     : Bool
  /-- Committed bits and measured complexity. -/
  bits    : Nat
  cplx    : Nat
  deriving DecidableEq, Repr

/-- A refresh cycle (R115 to R117, R164): advancing pictures done, stalls, its wave width, whether it is forced, the
picture it started at, and the buffers of its pictures. -/
structure Cycle where
  i      : Nat
  stalls : Nat
  width  : Nat
  forced : Bool
  start  : Nat
  /-- Its committed pictures, by number in the pool, each with the 64-sample columns of its clean region (R116). -/
  pics   : Tbl Nat
  deriving DecidableEq, Repr

/-- The samples of a coding row in the stones' input buffers, line by line at the padded size (R82, R92). -/
structure RowPix where
  y  : List Nat
  cb : List Nat
  cr : List Nat
  deriving DecidableEq, Repr

/-- The frame in progress, or the last one (R71 to R74, R128, R132). -/
structure Frame where
  k        : Nat
  /-- T_k in network time, and TB_COUNT at it. -/
  tk       : Nat
  tkTick   : Nat
  /-- E_k, as TB_COUNT (R71). -/
  ek       : Nat
  /-- The shortening S asked of it, in units of 2^-32 ns, and its preset. -/
  short    : Nat
  preset   : Nat
  cls      : PicCls
  isRef    : Bool
  recovery : Bool
  /-- The wave's 64-sample columns: first and one past the last; none without a wave (R115). -/
  wave     : Option (Nat × Nat)
  /-- The 64-sample columns of its clean region while it is coded (R116). -/
  clean    : Nat
  /-- Blocks that R166 intra-codes, by raster index. -/
  recode   : List Nat
  /-- It carries parameter sets (R112); its prefix; what its slice headers carry. -/
  params   : Bool
  units    : List HeadUnit
  slice    : SliceHead
  buf      : Nat
  refs     : List Nat
  target   : Int
  cap      : Nat
  head     : Nat
  usedHard : Int
  usedSoft : Int
  sticky   : Bool
  /-- CEIL_MULT, DQ_ROW and GOV_ROW_MIN_BITS as they stood at its start (R146). -/
  ceilMult : Nat
  dqRow    : Nat
  rowMin   : Nat
  firstFloor : Option Nat
  /-- Tile columns in floor mode for the rest of the picture (R121). -/
  floorCols : List Nat
  /-- The next row that the Bolter starts; rows still short of lines code in floor mode (R72). -/
  nextRow  : Nat
  timedOut : Bool
  /-- The Bolter has read its last line (R69). -/
  readDone : Bool
  segs     : List Seg
  /-- Rows that the Bolter has delivered and whose segments the stones have not all taken. -/
  input    : Tbl RowPix
  /-- Filler bits appended (R129). -/
  filler   : Nat
  /-- The last row has committed; the frame has completed. -/
  coded    : Bool
  done     : Bool
  dur      : Nat
  /-- Its bytes were discarded by a queue reset (R221). -/
  dropped  : Bool
  deriving DecidableEq, Repr

/-- One packet result of an RFC 8888 report (R140): the RTP sequence number, whether it arrived, its ECN mark, and the
arrival time offset in units of 1/1024 s. -/
structure FbPkt where
  seq  : Nat
  got  : Bool
  ce   : Bool
  ato  : Nat
  deriving DecidableEq, Repr

/-- An accepted RFC 8888 report: its timestamp, its packets, and when it was accepted. -/
structure FbReport where
  rts  : Nat
  pkts : List FbPkt
  time : Nat
  deriving DecidableEq, Repr

/-- The Governor's state of one session (R123 to R146). -/
structure Gov where
  /-- F_k in 1/65,536 bit. -/
  full     : Nat
  /-- C as computed, and C in force (R143). -/
  cNow     : Nat
  cForce   : Nat
  hold     : Nat
  reports  : List FbReport
  thetaP   : Nat
  thetaI   : Nat
  /-- θ_P and θ_I have been measured (R137). -/
  setP     : Bool
  setI     : Bool
  /-- Measured complexity by row of the last picture of each class; the classes met. -/
  xpKey    : Tbl Nat
  xpP      : Tbl Nat
  xpB      : Tbl Nat
  seen     : List PicCls
  /-- Complexities and twice the weights of the last pictures, newest first. -/
  hist     : List Nat
  weights  : List Nat
  /-- G, the G before it, Q and L (R140); mean delays with their report times over the last 10 s. -/
  grad     : Int
  gradOld  : Int
  qdelay   : Nat
  loss     : Nat
  last     : Option (Int × Int)
  means    : List (Nat × Int)
  /-- The last report, and the last report or timeout; when a C that is not in force yet was set. -/
  lastAt   : Nat
  toAt     : Nat
  pendAt   : Option Nat
  lastQ    : Nat
  lastRow  : Nat
  anyRow   : Bool
  floorPics : Nat
  decs     : Nat
  count    : Nat
  deriving DecidableEq, Repr

/-- A session's Governor state before START. -/
def Gov.reset : Gov :=
  { full := 0, cNow := 0, cForce := 0, hold := 0, reports := [], thetaP := 0, thetaI := 0, setP := false, setI := false, xpKey := [], xpP := [],
    xpB := [], seen := [], hist := [], weights := [], grad := 0, gradOld := 0, qdelay := 0, loss := 0, last := none,
    means := [], lastAt := 0, toAt := 0, pendAt := none, lastQ := 0, lastRow := 0,
    anyRow := false, floorPics := 0, decs := 0, count := 0 }

/-- Latched SRTP key material (R229). -/
structure SrtpKey where
  slot : Nat
  key  : List Byte
  salt : List Byte
  deriving DecidableEq, Repr

/-- No key. -/
def SrtpKey.none : SrtpKey := { slot := 0, key := [], salt := [] }

/-- One entry of the packet index (R228): the packet index, its picture, its sealed SRTP packet, its send time, and its
retransmissions. -/
structure PktIdx where
  frame  : Nat
  /-- Where its bytes begin in the lane. -/
  place  : Nat
  srtp   : List Byte
  sent   : Option Nat
  rtx    : Nat
  rtxAt  : Nat
  /-- Its bytes are still in history (R220). -/
  held   : Bool
  /-- RTP payload octets; the index of its picture's first packet; it is its picture's last packet. -/
  octets : Nat
  first  : Nat
  last   : Bool
  deriving DecidableEq, Repr

/-- The packetizer's state of one session (R215 to R238). -/
structure Pkt where
  tmpl    : List Byte
  /-- The 48-bit index of the next packet. -/
  next    : Nat
  ipId    : Nat
  packets : Nat
  octets  : Nat
  srtcp   : Nat
  rtx     : Nat
  miss    : Nat
  fbDrop  : Nat
  fbSkip  : Nat
  rtt     : Nat
  rr      : Nat
  jitter  : Nat
  tx      : SrtpKey
  rx      : SrtpKey
  /-- An armed key change: switch index, TX and RX keys, and whether each has switched. -/
  armed   : Option (Nat × SrtpKey × SrtpKey)
  txDone  : Bool
  rxDone  : Bool
  oldFree : Bool
  /-- Slots that were current when the change was armed, until OLD_FREE. -/
  old     : List Nat
  index   : Tbl PktIdx
  /-- SRTCP indexes accepted, newest first. -/
  seen    : List Nat
  /-- Feedback packets that the switch has steered here and the intake has not taken: UDP payload and arrival. -/
  fb      : List (List Byte × Nat)
  authBad : Nat
  exhausted : Bool
  /-- The next sender report (R233). -/
  srAt    : Nat
  /-- Retransmissions that wait for room in the flow (R292). -/
  rtxWait : List Nat
  /-- First packet of the picture being packetized, and its frame (R159). -/
  picFirst : Option (Nat × Nat)
  deriving DecidableEq, Repr

/-- A session's packetizer state before SETUP (R238). -/
def Pkt.reset : Pkt :=
  { tmpl := [], next := 0, ipId := 0, packets := 0, octets := 0, srtcp := 0, rtx := 0, miss := 0, fbDrop := 0,
    fbSkip := 0, rtt := 0xFFFFFFFF, rr := 0, jitter := 0, tx := SrtpKey.none, rx := SrtpKey.none, armed := none,
    txDone := false, rxDone := false, oldFree := true, old := [], index := [], seen := [], fb := [], authBad := 0,
    exhausted := false, srAt := 0, rtxWait := [], picFirst := none }

/-- A triggered frame that has not started: its number, T_k in network time, and its class in order of display (R70, R108). -/
structure Due where
  k   : Nat
  tk  : Nat
  cls : PicCls
  deriving DecidableEq, Repr

/-- One encode session (R56 to R77). -/
structure Ses where
  st      : SesSt
  /-- The descriptor's 256 bytes (R60). -/
  desc    : List Byte
  /-- SES_FRAME: the frame in progress or last completed; the number of the next frame. -/
  next    : Nat
  frame   : Option Frame
  /-- k_rd, and the frames past it that have been read (R69). -/
  kRd     : Nat
  readOn  : List Nat
  /-- The last anchor that started before B pictures that go before it in order of display, and whether it is a key picture (R108). -/
  ahead   : Option (Nat × Bool)
  /-- Lines held, by frame number (R67). -/
  lines   : Tbl Nat
  /-- M_0 has passed; counted matches after it (R70). -/
  begun   : Bool
  count   : Nat
  /-- Triggered frames not yet started, and those of them that R72 no longer waits for. -/
  due     : List Due
  lateDue : List Nat
  /-- T_0 in network time, for R227. -/
  t0      : Nat
  /-- D in units of 2^-32 ns. -/
  debt    : Nat
  lastDur : Nat
  late    : Nat
  dbDrop  : Nat
  preset  : Nat
  gov     : Gov
  pkt     : Pkt
  /-- Triggered pictures since the last key picture, it included (R108). -/
  sinceKey : Nat
  deriving DecidableEq, Repr

/-- A FREE session. -/
def Ses.reset : Ses :=
  { st := .free, desc := [], next := 0, frame := none, kRd := 0, readOn := [], ahead := none, lines := [], begun := false, count := 0, due := [],
    lateDue := [], t0 := 0, debt := 0, lastDur := 0, late := 0, dbDrop := 0, preset := 0, gov := Gov.reset, pkt := Pkt.reset,
    sinceKey := 0 }

/-- One Bolter: the session and row in progress or last done (R94). -/
structure Bolter where
  busy : Bool
  ses  : Nat
  row  : Nat
  /-- Its output will be discarded (R92). -/
  drop : Bool
  deriving DecidableEq, Repr

/-- A Bolter at reset. -/
def Bolter.reset : Bolter := { busy := false, ses := 0, row := 0, drop := false }

/-- One physical stone (R119 to R122). -/
structure Stone where
  role   : Role
  lstone : Nat
  busy   : Bool
  ses    : Nat
  row    : Nat
  col    : Nat
  /-- When the segment in progress began. -/
  since  : Nat
  /-- Segments that wait for their runner's unit, in the order in which it takes them: session, row and tile column. -/
  units  : List (Nat × Nat × Nat)
  /-- Reference buffers whose windows the cache holds (R98). -/
  cache  : List Nat
  deriving DecidableEq, Repr

/-- A frame buffer's descriptor (R153, R173). -/
structure RefBuf where
  /-- 0–511 encode session, 512–639 decode session, 0x3FF unbound. -/
  owner  : Nat
  temp   : Bool
  short  : Bool
  long   : Bool
  ack    : Bool
  lost   : Bool
  concealed : Bool
  held   : Nat
  frame  : Nat
  rtpFirst : Nat
  rtpCount : Nat
  /-- Set bits of the LOST map (R165). -/
  map    : List Nat
  /-- The picture held, by its number in `RefSes.pics`; its long slot, or its AV1 slot (R158). -/
  order  : Nat
  slot   : Nat
  deriving DecidableEq, Repr

/-- An unbound buffer. -/
def RefBuf.reset : RefBuf :=
  { owner := 0x3FF, temp := false, short := false, long := false, ack := false, lost := false, concealed := false,
    held := 0, frame := 0, rtpFirst := 0, rtpCount := 0, map := [], order := 0, slot := 0 }

/-- A picture of a session as the pool follows it (R159 to R161): the pictures it predicted from, by number, whether it needs
no ACK of them (R160), its packets, and its standing; a LOST one in progress is marked at its commit. -/
structure RefPic where
  num   : Nat
  frame : Nat
  buf   : Nat
  isRef : Bool
  refs  : List Nat
  alone : Bool
  recov : Bool
  /-- It becomes LONG at its commit, and its slot (R153, R158). -/
  long  : Bool
  slot  : Nat
  first : Nat
  count : Nat
  ack   : Bool
  lost  : Bool
  deriving DecidableEq, Repr

/-- The pool's state of one owner: an encode session 0–511, or a decode session 512–639 (R151 to R164). -/
structure RefSes where
  cls     : Nat
  bufs    : List Nat
  sblk    : Option Nat
  recover : Bool
  cycle   : Option Cycle
  /-- The frame from which the next cycle starts. -/
  nextCyc : Nat
  /-- A cycle is forced at the next picture (R164). -/
  force   : Bool
  /-- The received bit of sent packet indexes (R159). -/
  got     : List Nat
  /-- Losses that wait for LOSS_WAIT_MS: packet index and due tick (R161). -/
  waits   : List (Nat × Nat)
  acks    : Nat
  losses  : Nat
  recovs  : Nat
  /-- Pictures started, newest first. -/
  pics    : List RefPic
  /-- Packet indexes that counted as lost once. -/
  gone    : List Nat
  /-- Blocks that await R166, in raster order. -/
  pend    : List Nat
  /-- What the bitstream has told a decoder (R158): SHORT pictures, and LONG ones with their slots; the AV1 slot of the last SHORT. -/
  tellShort : List Nat
  tellLong  : Tbl Nat
  rot     : Nat
  deriving DecidableEq, Repr

/-- An owner with nothing bound. -/
def RefSes.reset : RefSes :=
  { cls := 0, bufs := [], sblk := none, recover := false, cycle := none, nextCyc := 0, force := false, got := [],
    waits := [], acks := 0, losses := 0, recovs := 0, pics := [], gone := [], pend := [], tellShort := [], tellLong := [], rot := 0 }

/-- The reference pool (R147 to R173): buffers by 8,192 × class + place. -/
structure RefPool where
  bufs  : Tbl RefBuf
  owners : Tbl RefSes
  deriving DecidableEq, Repr

/-- A row unit in an encode lane (R111, R218, R224): its linked bytes, whether it is complete, and whether it ends its
picture or begins one with parameter sets. -/
structure RowUnit where
  frame  : Nat
  /-- T_k of its frame. -/
  tk     : Nat
  row    : Nat
  bytes  : List Byte
  /-- Bytes of each of its tiles so far (R224). -/
  tiles  : List Nat
  full   : Bool
  last   : Bool
  params : Bool
  since  : Nat
  deriving DecidableEq, Repr

/-- A packet in history: its index, the bytes of the lane's stream that it holds, and when it was built (R220). -/
structure HistPkt where
  idx : Nat
  lo  : Nat
  hi  : Nat
  at_ : Nat
  deriving DecidableEq, Repr

/-- One lane of a leat queue (R217 to R223). -/
structure Lane where
  isOpen   : Bool
  device   : Bool
  owner    : Nat
  maxSegs  : Nat
  units    : List RowUnit
  /-- Bytes of the head unit's first NAL unit or OBU, its header aside, that fragments have taken; and how many stored bytes of the
  head unit that is. -/
  pos      : Nat
  taken    : Nat
  /-- Bytes of the lane's stream consumed since OPEN, and where its history starts (R220). -/
  read     : Nat
  base     : Nat
  hist     : List HistPkt
  stale    : Bool
  pkts     : Nat
  /-- EGRESS_FLOW: frames in the lane with the tick at which each was written. -/
  frames   : List (List Byte × Nat)
  /-- Spill segments held of the Hopper's 16 KiB pool (R219). -/
  segs     : List Buf
  /-- CLOSE waits until the lane holds no linked bytes (R331). -/
  closing  : Bool
  /-- EGRESS_FLOW: the device entry as OPEN read it (R325). -/
  entry    : List Nat
  deriving DecidableEq, Repr

/-- A closed lane. -/
def Lane.reset : Lane :=
  { isOpen := false, device := false, owner := 0, maxSegs := 0, units := [], pos := 0, taken := 0, read := 0, base := 0,
    hist := [], stale := false, pkts := 0, frames := [], segs := [], closing := false, entry := [] }

/-- The leat queues: lanes by 2 × queue + lane, and resets by queue (R239). -/
structure Leat where
  lanes  : Tbl Lane
  resets : Tbl Nat
  deriving DecidableEq, Repr

end Sys2Proof.Machine
end

