-- ==== Sys2Proof/Machine/PartsPort.lean ====
section
/-!
DEFINITION. State of ports, switch, forwarding, mirror, ring and weir (chapter 11), of decode sessions and pipelines
(chapter 8), and of the runners (chapter 9).
-/

namespace Sys2Proof.Machine

/-- A frame in the shared packet memory (R253, R254): DA up to the FCS, its source (a port, 96 the Sluice, 97 the ring
agent), its cells, when it was stored whole, the copies still queued, and the session packet it carries. -/
structure SwFrame where
  bytes : List Byte
  src   : Nat
  cells : Nat
  at_   : Nat
  refs  : Nat
  tag   : Option (Nat × Nat)
  /-- An uncorrectable cell ends it with an inverted FCS (R254). -/
  bad   : Bool
  deriving DecidableEq, Repr

/-- Where a frame goes (R246, R247). -/
inductive FwdDest where
  | ports (mask : List Nat) (chan : Option Nat)
  | chan (c : Nat)
  | feedback (ses : Nat)
  | decode (ses : Nat)
  | agent
  | drop (reason : Nat)
  deriving DecidableEq, Repr

/-- A frame being received: its bytes, its arrival, its destination, whether it is mirrored. -/
structure RxPend where
  bytes  : List Byte
  at_    : Nat
  dest   : FwdDest
  mirror : Bool
  deriving DecidableEq, Repr

/-- One Ethernet port (R240 to R257, R268). -/
structure Port where
  up      : Bool
  anDone  : Bool
  ltDone  : Bool
  fecLock : Bool
  held    : Bool
  dead    : Bool
  downs   : Nat
  heldAt  : Nat
  q0      : List Nat
  q1      : List Nat
  q2      : List Nat
  q3      : List Nat
  tx      : Option Nat
  rx      : Option RxPend
  /-- Counters of the window from 0x68, by register offset. -/
  cnt     : Tbl Nat
  deriving DecidableEq, Repr

/-- A port that is down. -/
def Port.reset : Port :=
  { up := false, anDone := false, ltDone := false, fecLock := false, held := false, dead := false, downs := 0,
    heldAt := 0, q0 := [], q1 := [], q2 := [], q3 := [], tx := none, rx := none, cnt := [] }

/-- An entry of the forwarding tables (R249): table, way, key words and data words. -/
structure FwdEntry where
  flow   : Bool
  bucket : Nat
  way    : Nat
  key    : List Word
  data   : List Word
  deriving DecidableEq, Repr

/-- A staged change (R250). -/
structure FwdChange where
  flow   : Bool
  key    : List Word
  data   : Option (List Word)
  deriving DecidableEq, Repr

/-- The forwarding tables (R249 to R252, R270): results and indexes by path (0 I3C, 1 REGLOAD). -/
structure Fwd where
  entries : List FwdEntry
  staged  : List FwdChange
  gen     : Nat
  busy    : Bool
  /-- COMMITs that wait behind the one in progress. -/
  waiting : Nat
  result  : Tbl Nat
  index   : Tbl Nat
  deriving DecidableEq, Repr

/-- SW_RING_STAT.STATE (R269). -/
inductive RingSt where
  | off | linking | elect | readyRing | readyLine
  deriving DecidableEq, Repr

/-- The code of a ring state. -/
def RingSt.code : RingSt → Nat
  | .off => 0 | .linking => 1 | .elect => 2 | .readyRing => 3 | .readyLine => 4

/-- The ring agent (R260 to R264). -/
structure Ring where
  st     : RingSt
  min    : Nat
  minAt  : Nat
  /-- The master's TOPO under way: 0 none, 1 east, 2 west; when it was sent; the lists that have come back. -/
  topo   : Nat
  topoAt : Nat
  east   : List Nat
  west   : List Nat
  eastLine : Bool
  pos    : Nat
  count  : Nat
  master : Nat
  isMaster : Bool
  /-- Frames sent by TYPE (R261, SEQ). -/
  seq    : Tbl Nat
  deriving DecidableEq, Repr

/-- The weir (R265, R266): its state, and a change in progress with its target and start. -/
structure Weir where
  closed : Bool
  change : Option (Bool × Nat)
  stuck  : Bool
  deriving DecidableEq, Repr

/-- The switch, the forwarding tables, the mirror, the ring agent and the weir. -/
structure Net where
  frames  : Tbl SwFrame
  nextId  : Nat
  ports   : Tbl Port
  low     : Nat
  drops   : Tbl Nat
  fwd     : Fwd
  /-- Capture records not yet written, and MIR_PROD. -/
  mirror  : List (List Byte)
  mirProd : Nat
  ring    : Ring
  weir    : Weir
  /-- Quads lost by a LOGIC error (R444). -/
  quadsLost : List Nat
  deriving DecidableEq, Repr

/-- A complete access unit (R179, R180): what is kept of it, when it was complete, its whole size, and the Hopper buffers that go with
it. -/
structure DecAu where
  bytes : List Byte
  time  : Nat
  size  : Nat
  bufs  : List Buf
  deriving DecidableEq, Repr

/-- An RTP packet that waits for order (R180): extended sequence number, timestamp, marker, payload, arrival. -/
structure DecRtp where
  seq    : Nat
  ts     : Nat
  marker : Bool
  bytes  : List Byte
  time   : Nat
  buf    : Option Buf
  deriving DecidableEq, Repr

/-- A decoded picture (R167, R184, R186): its number, buffer, status, output window and depth, record flags, and whether it has been
output. -/
structure DecPic where
  num    : Nat
  buf    : Nat
  status : Nat
  cropX  : Nat
  cropY  : Nat
  width  : Nat
  height : Nat
  depth  : Nat
  flags  : Nat
  auTime : Nat
  order  : Word
  shown  : Bool
  deriving DecidableEq, Repr

/-- One decode session (R174 to R188). -/
structure DecSes where
  st      : SesSt
  desc    : List Byte
  key     : SrtpKey
  /-- Input of the access unit that is not yet complete; the Hopper buffers that hold it, the first perhaps from its middle; and whether
  INPUT_LOST has been raised for it. -/
  input   : List Byte
  inBufs  : List Buf
  inLost  : Bool
  aus     : List DecAu
  rtp     : List DecRtp
  /-- The extended sequence number after the last closed packet. -/
  rtpNext : Option Nat
  /-- RTP packets that the switch has steered here: UDP payload and arrival. -/
  net     : List (List Byte × Nat)
  num     : Nat
  out     : Nat
  /-- Decoded pictures that are kept, in decode order; the numbers of those that await output; and output ones not yet delivered. -/
  dpb     : List DecPic
  waits   : List Nat
  ready   : List DecPic
  /-- The last decoded picture's buffer and whether it was CONCEALED (R167, R171). -/
  lastBuf : Option Nat
  conc    : Bool
  /-- The next read of CONS_ADDR, and the count it brought (R185). -/
  polled  : Option Nat
  pollAt  : Nat
  pics    : Nat
  concealed : Nat
  drops   : Nat
  waited  : Nat
  auBytes : Nat
  deriving DecidableEq, Repr

/-- A FREE decode session. -/
def DecSes.reset : DecSes :=
  { st := .free, desc := [], key := SrtpKey.none, input := [], inBufs := [], inLost := false, aus := [], rtp := [],
    rtpNext := none, net := [], num := 0, out := 0, dpb := [], waits := [], ready := [], lastBuf := none, conc := false,
    polled := none, pollAt := 0, pics := 0, concealed := 0, drops := 0, waited := 0, auBytes := 0 }

/-- One decode pipeline (R182, R188): the picture in decode, with its session, buffer, access unit and headers. -/
structure Pipe where
  busy  : Bool
  ses   : Nat
  buf   : Nat
  au    : Option DecAu
  head  : Option DecHead
  /-- The buffers of its references, ref0 first; what R167 supplied among them; and the mid-grey buffer, if it had to make one. -/
  refs  : List Nat
  subst : Bool
  grey  : Option Nat
  since : Nat
  /-- Lines of its bitstream that failed their check after refetch (R168). -/
  bad   : List Nat
  /-- Values that its runner has answered to its requests (R198). -/
  answers : List Word
  lost  : Bool
  deriving DecidableEq, Repr

/-- An idle pipeline. -/
def Pipe.reset : Pipe :=
  { busy := false, ses := 0, buf := 0, au := none, head := none, refs := [], subst := false, grey := none, since := 0, bad := [],
    answers := [], lost := false }

/-- A library slot (R203, R204). -/
structure LibSlot where
  valid  : Bool
  ledger : Bool
  /-- The image: 256-byte header, then its words. -/
  image  : List Byte
  addr   : Nat
  deriving DecidableEq, Repr

/-- An empty slot. -/
def LibSlot.empty : LibSlot := { valid := false, ledger := false, image := [], addr := 0 }

/-- The microcoded state of a runner (R195, R196). -/
structure Micro where
  g     : Tbl Word
  lc    : Nat
  z     : Bool
  n     : Bool
  c     : Bool
  v     : Bool
  bz    : Bool
  acBit : Bool
  errf  : Bool
  mar   : Nat
  line  : Tbl Word
  ctx   : Tbl (List Byte)
  tab   : Tbl Word
  win   : List Byte
  stack : List Nat
  pc    : Nat
  /-- A WAIT word has run its operations once. -/
  waited : Bool
  /-- Latched results: BIN window, AC result, TBL, CTX and MEM data, and the SYM element. -/
  bin   : Word
  acr   : Word
  tblD  : Word
  ctxD  : Word
  memD  : Word
  elem  : Option DWord
  /-- Input bits left, in stream order, and whether the input has ended; output bits of the byte under way. -/
  input : List Byte
  inPos : Nat
  rev   : Option (Nat × Nat)
  outB  : List Byte
  outBits : Nat
  /-- Bytes of this unit's output that a flush or reset of the lane has discarded (R221, R223). -/
  outBase : Nat
  /-- A MEM operation in progress: 2 read, 3 write, and its address; a CPY operation in progress: its code and operands. -/
  mem   : Option (Nat × Nat)
  cpy   : Option (Nat × Nat × Nat)
  /-- Outstanding bits of the arithmetic coder (R199, R200); the position of the last report; CKPT seen in this unit. -/
  left  : Nat
  marks : Nat
  ckpt  : Bool
  deriving DecidableEq, Repr

/-- The microcoded state before a unit: every register holds 0 (DESIGN CHOICE, assumption 133). -/
def Micro.reset : Micro :=
  { g := [], lc := 0, z := false, n := false, c := false, v := false, bz := false, acBit := false, errf := false,
    mar := 0, line := [], ctx := [], tab := [], win := [], stack := [], pc := 0, waited := false, bin := 0, acr := 0,
    tblD := 0, ctxD := 0, memD := 0, elem := none, input := [], inPos := 0, rev := none, outB := [], outBits := 0,
    outBase := 0, mem := none, cpy := none, left := 0, marks := 0, ckpt := false }

/-- A physical runner (R189 to R214). -/
structure Runner where
  role    : Role
  logical : Nat
  /-- The slot loaded, none where it holds no image; a load in progress. -/
  lib     : Option Nat
  loading : Option Nat
  /-- ENTRY[0] has run since the load. -/
  inited  : Bool
  /-- A unit in work; for a stone the session, row and tile column of its segment (R190). -/
  busy    : Bool
  unit    : Option (Nat × Nat × Nat)
  since   : Nat
  /-- The code of the last FAIL (R194). -/
  failed  : Nat
  /-- The next unit resumes from a checkpoint at ENTRY[2] (R201, R213). -/
  resume  : Bool
  m       : Micro
  /-- RUN_UNITS, RUN_OUT, RUN_STALL and RUN_XCYC (R214). -/
  units   : Nat
  outNum  : Nat
  stall   : Nat
  xcyc    : Nat
  deriving DecidableEq, Repr

/-- The frame that a transform is in (R209, R210): its output so far, the content size it states, its block size limit, whether its
blocks are independent, which checksums it carries, its dictionary, and the Huffman and FSE tables and repeat offsets that its blocks
have left, in the decoder's own form. -/
structure XFrame where
  outAt    : Nat
  size     : Option Nat
  most     : Nat
  alone    : Bool
  sumEach  : Bool
  sumAll   : Bool
  dict     : List Byte
  tables   : List Byte
  deriving DecidableEq, Repr

/-- A transform on the asset pool (R193, R209 to R212): its channel, its IMAGE_ID, its slot of the transform states, its default
dictionary ID, its input and how much of it is used, the dictionaries as they stood when it started, by ID, and its frame. -/
structure XForm where
  chan  : Nat
  id    : Nat
  slot  : Nat
  dict  : Nat
  input : List Byte
  pos   : Nat
  dicts : List (Nat × Nat × Nat)
  frame : Option XFrame
  deriving DecidableEq, Repr

/-- An assignment in force (R190). -/
structure Assign where
  side   : Nat
  target : Nat
  lib    : Nat
  deriving DecidableEq, Repr

/-- The runners (R189 to R214). -/
structure Runners where
  slots  : Tbl LibSlot
  phys   : Tbl Runner
  /-- Assignments in force by logical runner, and the physical runner of each; unmapped ones. -/
  force  : Tbl Assign
  map    : Tbl Nat
  unmapped : List Nat
  /-- An INSERT in progress: its slot and the address that it was written with (R204); the last command's result. -/
  cmd    : Option (Nat × Nat)
  result : Nat
  queue  : List XForm
  /-- The alternate of the newest complete runner checkpoint, by 8 × session + tile column (R200, R201). -/
  ckpts  : Tbl Nat
  /-- Sessions and tile columns whose next unit resumes from its checkpoint on the runner of another stone (R442). -/
  again  : List (Nat × Nat)
  deriving DecidableEq, Repr

end Sys2Proof.Machine
end

