-- ==== Sys2Proof/Machine/State.lean ====
section
/-!
DEFINITION. The state of the part: everything the spec gives it, as plain data, with the queue of waiting commands, the
reasons a command can stop, and the machine right after reset.
-/

namespace Sys2Proof.Machine

/-- What has left the part at its boundary, newest first in `State.out` (the model's own record of its outputs). -/
inductive Out where
  | ibi (code payload : Nat)
  | i3cAck
  | i3cNack
  | i3cData (bytes : List Byte)
  /-- A posted write into an outside memory: 0 host, 1 to 8 renderer endpoint 0 to 7. -/
  | write (space addr : Nat) (bytes : List Byte)
  | read (space addr len : Nat)
  /-- An answer to an inbound request of link `n`: 0 success, 1 Unsupported Request, 2 Completer Abort, 3 CRS. -/
  | answer (n status : Nat) (bytes : List Byte)
  | rootWrite (q addr : Nat) (data : Word)
  | rootRead (q addr : Nat)
  /-- The pawl configures the device behind root port `q`: its BAR0, and the address of every MSI-X vector (R309). -/
  | rootSetup (q bar0 msix : Nat)
  | frame (port : Nat) (bytes : List Byte)
  | frameCut (port : Nat) (bytes : List Byte)
  | pps (high : Bool)
  deriving DecidableEq, Repr

/-- The state of the part. -/
structure State where
  part    : Part
  /-- Commands that wait, first in, first out. -/
  pending : List Instr
  /-- The number of the next free value (the model's own). -/
  free    : Nat
  /-- TB_COUNT (R273). -/
  tick    : Nat
  dev     : Dev
  clk     : Clkpwr
  ldg     : Ledger
  /-- Register words that software writes, and counters, by byte address; REGLOAD's own registers 2^24 above. -/
  regs    : Tbl Word
  /-- Shadows of HI words (R38) and of the words R276 latches, and held LO writes; REGLOAD's 2^24 above. -/
  shadows : Tbl Word
  heldLo  : Tbl Word
  /-- Page headers by ordinal. -/
  pages   : Tbl PageHdr
  i3c     : I3c
  evq     : Evq
  /-- The eight router inputs of R363, by their place in its order. -/
  inputs  : Tbl (List Msg)
  /-- WAIT counts by source (R335), and the channels that wait, oldest first. -/
  wcnt    : Tbl Nat
  waits   : List (Nat × Nat)
  cfg     : CfgChk
  mem     : Mem
  sites   : Tbl Site
  tb      : TimeBase
  flows   : Tbl Flow
  gates   : Tbl Gate
  links   : Tbl Link
  /-- Doorbell and BAR writes that stall while the mode is BRINGUP, oldest first (R303, R420). -/
  stalled : List Inbound
  nvmes   : Tbl Nvme
  /-- Bytes of outside memory that completions have brought, by space × 2^64 + address; none where errored. -/
  ext     : Tbl (Option Byte)
  dmas    : Tbl Dma
  hop     : Hopper
  ibr     : Ibreham
  chans   : Tbl Chan
  /-- The channel whose REGLOAD step holds the REGLOAD path (R338), and those that wait for it. -/
  regload : List Nat
  cps     : Tbl Cp
  pawls   : Tbl Pawl
  sessions : Tbl Ses
  /-- Physical stone of each logical stone; those left unmapped (R63, R121). -/
  lmap    : Tbl Nat
  noStone : List Nat
  stones  : Tbl Stone
  bolters : Tbl Bolter
  /-- Checkpoint areas, by 16 × session + 2 × tile column + area (R119). -/
  ckpts : Tbl Ckpt
  refs    : RefPool
  leat    : Leat
  net     : Net
  decs    : Tbl DecSes
  pipes   : Tbl Pipe
  runners : Runners
  out     : List Out
  deriving DecidableEq, Repr

/-- The reasons a command can stop with a fault: none. Every access the spec rules out has an effect the spec gives
(R36, R404, R493). -/
inductive Fault where
  deriving DecidableEq, Repr

/-- The reasons a command can be refused. -/
inductive Refusal where
  /-- The command has no meaning in this model yet; raised by its arm in Dispatch.lean. Safe: nothing is claimed of it. -/
  | notModelled (mnemonic : String)
  deriving DecidableEq, Repr

/-- What a command answers. -/
abbrev Result : Type := Host.Outcome State Fault Refusal

/-! ## The machine right after reset (assumption 3) -/

/-- DEV after POR and bring-up: STANDBY, reached from BRINGUP (R418, R432). -/
def Dev.reset : Dev :=
  { mode := .standby, prev := .bringup, changing := none, result := 0, buFail := 0, buMs := 0, retried := false,
    stuck := false, cause := .por, pwrOk := true, resetN := true, sreset := false, serial := 0 }

/-- Every PLL in lock and every domain powered (R433). -/
def Clkpwr.reset : Clkpwr :=
  { fclk := true, vclk := true, mclk := true, lostAt := [], core := true, quadsOff := [], drains := [] }

/-- The Ledger that bring-up found: bank 0 holds the first record, with the mandatory sections empty, and bank 1 is blank;
one POR is counted for the next record (R427 to R431; assumption 3). -/
def Ledger.reset : Ledger :=
  { bank0 := .valid { seq := 1, wear := ⟨0, 1, 0, 0, 0⟩, faults := [], retire := Retire.none,
                      secs := [(1, []), (2, []), (3, []), (4, [])], bad := [] }
    bank1 := .blank, size := 32, write := none, read := none, result := 0, faults := [], retireP := false, wearP := false,
    lastAt := none, wear := ⟨1, 1, 0, 0, 0⟩, retire := Retire.none, heldRetire := Retire.none }

/-- Part DRAM after bring-up: no line has been written, and no request has been granted (R395, R410). -/
def Mem.reset : Mem :=
  { cells := [], checks := [], isOpen := false, leakAt := 0, forced := [], scrub := none, scrubRes := 0, fails := [],
    answer := none }

/-- The time base after POR: TB_OFFSET 0 and TB_RATE 0.8 ns, the PLL in lock to SDREF_W (R273 to R285). -/
def TimeBase.reset : TimeBase :=
  { offset := 0, rate := 0xCCCCCCCD, heldOff := [], refE := false, pllLock := true, next := [], hit := 0, skip := 0,
    ppsOut := false, ppsFall := 0, ppsInAt := none }

/-- Every pool disabled (R391). -/
def Hopper.reset : Hopper := { pools := [], busy := none, result := 0, waits := [] }

/-- No key held, no customer key fused (R455, R457); the fused keys are not given (assumption 3). -/
def Ibreham.reset : Ibreham :=
  { slots := [], queue := [], resI3c := 0, resReg := 0, locked := false, drs := [], zpk := [], cpk := none, tamper := 0 }

/-- Nothing staged, generation 0 (R270). -/
def Fwd.reset : Fwd :=
  { entries := [], staged := [], gen := 0, busy := false, waiting := 0, result := [], index := [] }

/-- The ring agent off (R269). -/
def Ring.reset : Ring :=
  { st := .off, min := 0, minAt := 0, topo := 0, topoAt := 0, east := [], west := [], eastLine := false, pos := 0,
    count := 0, master := 0, isMaster := false, seq := [] }

/-- The switch empty, every port down, the weir closed and asked to open (R265, R418). -/
def Net.reset : Net :=
  { frames := [], nextId := 0, ports := [], low := 131072, drops := [], fwd := Fwd.reset, mirror := [], mirProd := 0,
    ring := Ring.reset, weir := { closed := true, change := some (false, 0), stuck := false },
    quadsLost := [] }

/-- No runner holds an image (assumption 3). -/
def Runners.reset : Runners :=
  { slots := [], phys := [], force := [], map := [], unmapped := [], cmd := none, result := 0, queue := [], ckpts := [],
    again := [] }

/-- The machine right after reset: a NRT9680 that has come through POR and bring-up to STANDBY (assumptions 2 and 3). -/
def State.reset : State :=
  { part := .nrt9680, pending := [], free := 0, tick := 0, dev := Dev.reset, clk := Clkpwr.reset, ldg := Ledger.reset,
    regs := [(0x80, 1)], shadows := [], heldLo := [], pages := [], i3c := I3c.reset, evq := Evq.reset, inputs := [],
    wcnt := [], waits := [], cfg := CfgChk.reset, mem := Mem.reset, sites := [], tb := TimeBase.reset, flows := [],
    gates := [], links := [], stalled := [], nvmes := [], ext := [], dmas := [], hop := Hopper.reset, ibr := Ibreham.reset, chans := [],
    regload := [], cps := [], pawls := [], sessions := [], lmap := [], noStone := [], stones := [], bolters := [], ckpts := [],
    refs := { bufs := [], owners := [] }, leat := { lanes := [], resets := [] }, net := Net.reset, decs := [], pipes := [],
    runners := Runners.reset, out := [] }

end Sys2Proof.Machine
end

