-- ==== Sys2Proof/Machine/Ops.lean ====
section
/-!
DEFINITION. The operations that commands share: pages and registers, error reporting, in-band interrupts, source
messages and the Ledger's pending entries.
-/

namespace Sys2Proof.Machine

/-! ## Pages and addresses (R465 to R471) -/

/-- The page at a byte address on this part: its family and instance (R465, R467). -/
def pageOf (p : Part) (a : Nat) : Option (Fam × Nat) :=
  Fam.all.findSome? fun f =>
    if f.info.base ≤ a ∧ a < f.info.base + 0x400 * f.count p then some (f, (a - f.info.base) / 0x400) else none

/-- The page of an ordinal on this part (R466). -/
def pageAt (p : Part) (o : Nat) : Option (Fam × Nat) :=
  Fam.all.findSome? fun f =>
    if f.info.ordinal ≤ o ∧ o < f.info.ordinal + f.count p then some (f, o - f.info.ordinal) else none

/-- The ordinal of a page (R465). -/
def ordOf (f : Fam) (n : Nat) : Nat := f.info.ordinal + n

/-- The base address of a page (R465). -/
def baseOf (f : Fam) (n : Nat) : Nat := f.info.base + 0x400 * n

/-- The layout entry that covers an offset. -/
def findDef (l : List RegDef) (off : Nat) : Option RegDef :=
  l.find? fun d => d.off ≤ off && off < d.off + d.stride * d.count && (off - d.off) % d.stride == 0

/-- The layout entry of a block or plain header register of a family. -/
def regDef (f : Fam) (off : Nat) : Option RegDef := if off < 0x40 then findDef f.header off else findDef f.layout off

/-- A location is implemented: a header word of R38, or a word of the page's layout (R465, R474). -/
def implemented (p : Part) (a : Nat) : Bool :=
  match pageOf p a with
  | none => false
  | some (f, _) => a % 0x400 < 0x40 || (regDef f (a % 0x400)).isSome

/-- The ring ports at reset (R260): 88 and 92, and on the NRT9664 ports 56 and 60. -/
def ringPortsOf (p : Part) : Word := p.pick 0x5C58#32 0x3C38#32 0x5C58#32

/-- The reset value of a register word on a part. -/
def resetWord (p : Part) (a : Nat) : Word :=
  if a % 2 ^ 24 = Reg.swRingPorts then ringPortsOf p
  else
    match pageOf .nrt9680 (a % 2 ^ 24) with
    | none => 0
    | some (f, _) =>
      match regDef f (a % 0x400) with
      | none => 0
      | some d => word d.reset

/-- Where a path finds a register: REGLOAD has its own copy of the per-path ones. -/
def bank (p : Path) (a : Nat) : Nat :=
  match p with
  | .i3c => a
  | .regload =>
    match pageOf .nrt9680 a with
    | none => a
    | some (f, _) => if f.perPath.contains (a % 0x400) then 2 ^ 24 + a else a

/-- The REGLOAD copy of a key that each path has of its own. -/
def pathKey (p : Path) (a : Nat) : Nat :=
  match p with
  | .i3c => a
  | .regload => 2 ^ 24 + a

/-! ## Register words -/

/-- A register word that software writes, or a counter. -/
def State.reg (s : State) (a : Nat) : Word := Tbl.getD s.regs a (resetWord s.part a)

/-- Stores a register word. -/
def State.setReg (a : Nat) (w : Word) (s : State) : State := { s with regs := Tbl.set s.regs a w }

/-- The register word that a path sees. -/
def State.preg (s : State) (p : Path) (a : Nat) : Word := s.reg (bank p a)

/-- A 64-bit register pair. -/
def State.reg64 (s : State) (lo : Nat) : Nat := pair64 (s.reg lo) (s.reg (lo + 4))

/-- A 64-bit register pair that a path sees. -/
def State.preg64 (s : State) (p : Path) (lo : Nat) : Nat := pair64 (s.preg p lo) (s.preg p (lo + 4))

/-- Adds to a saturating counter of `w` bits. -/
def State.addSat (a w n : Nat) (s : State) : State :=
  s.setReg a (word (sat ((s.reg a).toNat + n) (2 ^ w - 1))) 

/-- Counts one on a saturating 32-bit counter. -/
def State.bump (a : Nat) (s : State) : State := s.addSat a 32 1

/-- Counts on a wrapping 32-bit counter. -/
def State.wrap (a n : Nat) (s : State) : State := s.setReg a (word ((s.reg a).toNat + n))

/-- Counts on a 64-bit counter. -/
def State.add64 (lo n : Nat) (s : State) : State :=
  let v := s.reg64 lo + n
  (s.setReg lo (loWord v)).setReg (lo + 4) (hiWord v)

/-- Stores a 64-bit value in a register pair. -/
def State.setReg64 (lo v : Nat) (s : State) : State := (s.setReg lo (loWord v)).setReg (lo + 4) (hiWord v)

/-! ## Instances -/

/-- A page header. -/
def State.pg (s : State) (o : Nat) : PageHdr := Tbl.getD s.pages o PageHdr.reset
/-- Stores a page header. -/
def State.setPg (o : Nat) (h : PageHdr) (s : State) : State := { s with pages := Tbl.set s.pages o h }
/-- A site at its reset values: trained, at 20 Gbit/s, 24 Gbit devices (assumption 12). -/
def Site.reset : Site := { trained := true, rate := 0, density := 24, acts := [], actAt := 0, throttle := none, interval := 3900, refAt := 0 }
/-- A GDDR7 site. -/
def State.site (s : State) (n : Nat) : Site := Tbl.getD s.sites n Site.reset
/-- Stores a site. -/
def State.setSite (n : Nat) (x : Site) (s : State) : State := { s with sites := Tbl.set s.sites n x }
/-- A PCIe link, by its first quad. -/
def State.link (s : State) (n : Nat) : Link := Tbl.getD s.links n Link.reset
/-- Stores a link. -/
def State.setLink (n : Nat) (x : Link) (s : State) : State := { s with links := Tbl.set s.links n x }
/-- The NVMe controller of a root port. -/
def State.nvme (s : State) (n : Nat) : Nvme := Tbl.getD s.nvmes n Nvme.reset
/-- Stores an NVMe controller. -/
def State.setNvme (n : Nat) (x : Nvme) (s : State) : State := { s with nvmes := Tbl.set s.nvmes n x }
/-- A DMA engine. -/
def State.dma (s : State) (n : Nat) : Dma := Tbl.getD s.dmas n Dma.reset
/-- Stores a DMA engine. -/
def State.setDma (n : Nat) (x : Dma) (s : State) : State := { s with dmas := Tbl.set s.dmas n x }
/-- A Hopper pool. -/
def State.pool (s : State) (p : Nat) : Pool := Tbl.getD s.hop.pools p Pool.reset
/-- Stores a Hopper pool. -/
def State.setPool (p : Nat) (x : Pool) (s : State) : State := { s with hop := { s.hop with pools := Tbl.set s.hop.pools p x } }
/-- A key slot. -/
def State.slot (s : State) (n : Nat) : KeySlot := Tbl.getD s.ibr.slots n KeySlot.empty
/-- Stores a key slot. -/
def State.setSlot (n : Nat) (x : KeySlot) (s : State) : State := { s with ibr := { s.ibr with slots := Tbl.set s.ibr.slots n x } }
/-- Counts a dispatch or binding that latches the keys of some slots (R464). -/
def State.slotUse (l : List Nat) (s : State) : State :=
  l.dedup.foldl (fun s n => s.setSlot n { s.slot n with uses := sat32 ((s.slot n).uses + 1) }) s
/-- The key material of a slot. -/
def State.srtpKey (s : State) (n : Nat) : SrtpKey := ⟨n, (s.slot n).key, (s.slot n).salt⟩
/-- A channel. -/
def State.chan (s : State) (c : Nat) : Chan := Tbl.getD s.chans c Chan.reset
/-- Stores a channel. -/
def State.setChan (c : Nat) (x : Chan) (s : State) : State := { s with chans := Tbl.set s.chans c x }
/-- A physical CP at reset: the usable ones carry the logical CP of their number, the last is spare (assumption 13);
registers and flags hold 0 (DESIGN CHOICE, assumption 133). -/
def Cp.reset (p : Part) (n : Nat) : Cp :=
  { role := if n < p.cpsUse then .usable else .spare, logical := if n < p.cpsUse then n else 0, w := [], p := [],
    rc := 0, fl := 0, pc := 0, stack := [], imms := [], rep := false, latch := none, first := none, tpc := 0, tnext := 0, tfl := 0,
    tcause := 0, trep := 0, prog := [], data := [], running := false, sleep := false, ext := false, version := 0,
    baseDig := [], extDig := [], eic := Eic.reset, timeHi := 0, dmaIdx := 0, call := none, extInit := false,
    img := none, imgRes := 0, failed := false }
/-- A physical CP. -/
def State.cp (s : State) (n : Nat) : Cp := Tbl.getD s.cps n (Cp.reset s.part n)
/-- Stores a CP. -/
def State.setCp (n : Nat) (x : Cp) (s : State) : State := { s with cps := Tbl.set s.cps n x }
/-- A pawl. -/
def State.pawl (s : State) (n : Nat) : Pawl := Tbl.getD s.pawls n Pawl.reset
/-- Stores a pawl. -/
def State.setPawl (n : Nat) (x : Pawl) (s : State) : State := { s with pawls := Tbl.set s.pawls n x }
/-- A Sluice flow, if bound. -/
def State.flow? (s : State) (f : Nat) : Option Flow := Tbl.get? s.flows f
/-- Stores a flow. -/
def State.setFlow (f : Nat) (x : Flow) (s : State) : State := { s with flows := Tbl.set s.flows f x }
/-- The gates of a port. -/
def State.gate (s : State) (p : Nat) : Gate := Tbl.getD s.gates p Gate.reset
/-- Stores a port's gates. -/
def State.setGate (p : Nat) (x : Gate) (s : State) : State := { s with gates := Tbl.set s.gates p x }

/-! ## Modes and pages that take work -/

/-- The part answers accesses and runs its blocks: neither off, nor in BRINGUP, nor held in reset (R413, R425). -/
def State.up (s : State) : Bool := !(s.dev.mode == .off || s.dev.mode == .bringup) && s.dev.resetN

/-- The mode in which software's writes take effect and engines run: not HALT (R417). -/
def State.live (s : State) : Bool := s.up && !(s.dev.mode == .halt)

/-- The CORE domain is powered: live and not in SLACK (R422, R424). -/
def State.coreUp (s : State) : Bool := s.live && s.clk.core

/-- RUN or DEGRADED, which accept the same work (R416). -/
def State.running (s : State) : Bool := s.dev.mode == .run || s.dev.mode == .degraded

/-- The PLL of a family's clock is in lock (R11, R12, R444); the always-on pages and the time base have clocks of their own. -/
def State.clocked (s : State) (f : Fam) : Bool :=
  match f with
  | .stone | .dec | .runners0 | .runners1 | .runners2 | .runners3 | .bolter | .governor | .refpool | .sessions => s.clk.vclk
  | .memctl | .memarb => s.clk.mclk
  | .dev | .clkpwr | .cfgchk | .i3c | .timebase | .weir => true
  | _ => s.clk.fclk

/-- A page takes new work: ENABLE is 1, FREEZE is not in force, and no reset is in progress (R38, R45). -/
def State.accepts (s : State) (f : Fam) (n : Nat) : Bool :=
  let h := s.pg (ordOf f n)
  s.coreUp && s.clocked f && h.enable && !h.freeze && !h.resetting

/-- The families whose row of R495 ends counters and error state only: their work runs on. -/
def Fam.countersOnly : Fam → Bool
  | .dev | .clkpwr | .cfgchk | .i3c | .ledger | .timebase | .weir | .memctl | .memarb | .hopper => true
  | _ => false

/-- A block goes on with the work it has: its clock runs, and no reset of its page that ends work is in progress (R12, R45, R444,
R495). -/
def State.works (s : State) (f : Fam) (n : Nat) : Bool :=
  s.coreUp && s.clocked f && (f.countersOnly || !(s.pg (ordOf f n)).resetting)

/-- A block works on what has been under way since a tick: enabled, and not frozen before it, so that FREEZE stops only work that
begins after it (R38, R45). -/
def State.serves (s : State) (f : Fam) (n since : Nat) : Bool :=
  let h := s.pg (ordOf f n)
  s.works f n && h.enable && (!h.freeze || decide (since ≤ h.frozenAt))

/-! ## The register paths (R15, R26, R338) -/

/-- The I3C target answers the bus: not in OFF or BRINGUP (R27), and its logic is not in reset (R28). -/
def State.i3cUp (s : State) : Bool := s.up && !s.i3c.resetting

/-- The I3C target answers its dynamic address (R26). -/
def State.i3cAddressed (s : State) : Bool := s.i3cUp && s.i3c.da.isSome

/-- A path carries register accesses now: I3C once the part has an address, and REGLOAD while a step of a channel whose
CHAN_PRIV is set holds that path (R15, R26, R338; DEDUCED, assumption 89). -/
def State.via (s : State) (p : Path) : Bool :=
  match p with
  | .i3c => s.i3cAddressed
  | .regload => (s.regload.head?.map fun c => (s.chan c).priv).getD false

/-- A write over a path takes effect: the path carries it, and the part is not in HALT (R417). -/
def State.takes (s : State) (p : Path) : Bool := s.live && s.via p

/-- A write over a path to a page of the CORE domain takes effect (R424). -/
def State.coreTakes (s : State) (p : Path) : Bool := s.coreUp && s.via p

/-- Adds an output. -/
def State.emit (o : Out) (s : State) : State := { s with out := o :: s.out }

/-- The event that a timer brings has come: time stands at `t` or later (assumption 4). -/
def State.reach (t : Nat) (s : State) : State := { s with tick := max s.tick t }

/-- Takes a free value below `m` (assumption 8). -/
def State.freeBelow (s : State) (m : Nat) : Nat := Config.freeNat s.free % m

/-- Moves to the next free value. -/
def State.spend (s : State) : State := { s with free := s.free + 1 }

/-! ## In-band interrupts (R37) -/

/-- A cause becomes pending, merged into one of the same byte and payload. -/
def State.raiseIbi (code payload : Nat) (s : State) : State :=
  let b : Ibi := ⟨code, payload % 2 ^ 24⟩
  if s.i3c.ibis.contains b then s else { s with i3c := { s.i3c with ibis := s.i3c.ibis ++ [b] } }

/-! ## Source messages (R43, R363) -/

/-- The places of the router inputs in the order of R363. -/
inductive Inp where
  | page | chan | stripe | session | srcDb | signal | cpSend | inject
  deriving DecidableEq, Repr

/-- The number of an input. -/
def Inp.idx : Inp → Nat
  | .page => 0 | .chan => 1 | .stripe => 2 | .session => 3 | .srcDb => 4 | .signal => 5 | .cpSend => 6 | .inject => 7

/-- A router input holds 64 messages, and what would send another waits (R363): a SIGNAL step or a CP. Other senders have no state of their
own in which they wait, and their messages stand in the list beyond the 64 (assumption 61). -/
def State.inputFull (s : State) (i : Inp) : Bool := decide (64 ≤ (Tbl.getD s.inputs i.idx []).length)

/-- A source message enters its router input. -/
def State.send (i : Inp) (source : Nat) (body : MsgBody) (s : State) : State :=
  { s with inputs := Tbl.set s.inputs i.idx (Tbl.getD s.inputs i.idx [] ++ [⟨source, body, s.tick⟩]) }

/-! ## Error classes and interrupts of a page (R38 to R43) -/

/-- The class in force of a source (R42, R436). -/
def State.classOf (s : State) (f : Fam) (n src : Nat) : Nat :=
  let b := baseOf f n
  max (fld (s.reg (b + 0x1C)) (2 * src + 1) (2 * src)) (f.info.classes.getD src 0)

/-- INT_COAL.COUNT, where 0 acts as 1 (R38). -/
def State.coalCount (s : State) (f : Fam) (n : Nat) : Nat := max 1 (fld (s.reg (baseOf f n + 0x3C)) 31 16)

/-- The page sends its source message and starts to gather afresh (R43). -/
def State.sendPage (f : Fam) (n cls : Nat) (s : State) : State :=
  let o := ordOf f n
  (s.setPg o { s.pg o with gathered := 0, gatherAt := 0, gatherClass := 0 }).send .page (2048 + o) (.page cls)

/-- An INT_STAT cause of a page is set and, unless masked, gathered toward its source message; a class of SPARE or
higher sends at once (R43). -/
def State.raiseInt (f : Fam) (n cause cls : Nat) (s : State) : State :=
  let o := ordOf f n
  let h := s.pg o
  let s := s.setPg o { h with int := h.int ||| word (2 ^ cause) }
  if flag (s.reg (baseOf f n + 0x38)) cause then s
  else
    let g := h.gathered + 1
    let c := max h.gatherClass cls
    if cls ≥ 2 ∨ g ≥ s.coalCount f n then s.sendPage f n c
    else s.setPg o { s.pg o with gathered := g, gatherAt := if h.gathered = 0 then s.tick else h.gatherAt, gatherClass := c }

/-! ## Ledger fault entries (R429, R431, R449) -/

/-- A fault entry waits for the next record, merged into a pending one of the same page and source (R449). -/
def State.ledgerFault (page src cls : Nat) (cap : Cap) (s : State) : State :=
  let l := s.ldg
  if l.faults.any (fun e => e.page == page && e.src == src) then
    { s with ldg := { l with faults := l.faults.map fun e =>
        if e.page = page ∧ e.src = src then { e with merged := sat (e.merged + 1) 0xFFFF } else e } }
  else
    { s with ldg := { l with faults := l.faults ++
        [{ time := s.tick, page := page, src := src, cls := cls, mode := s.dev.mode.code, master := cap.master,
           acc := cap.acc, merged := 0, addr := cap.addr, por := l.wear.por, buFail := 0 }] } }

/-! ## Recording an error (R40, R417, R435, R437) -/

/-- No access: the capture of an error that R492 gives none. -/
def Cap.none : Cap := ⟨0, 0xFFF, 0xF⟩

/-- The capture of a memory access (R492). -/
def Cap.mem (addr : Nat) (master acc : Nat) : Cap :=
  ⟨BitVec.ofNat 64 addr, BitVec.ofNat 12 master, BitVec.ofNat 4 acc⟩

/-- The capture of an object with no access (R492). -/
def Cap.obj (i : Nat) : Cap := ⟨BitVec.ofNat 64 (i % 65536), 0xFFF, 0xF⟩

/-- The capture of a write to a register (R492). -/
def Cap.reg (p : Path) (addr : Nat) : Cap :=
  match p with
  | .i3c => Cap.mem addr 0x200 0x9
  | .regload => Cap.mem addr 0x201 0xA

/-- The header after an error of source `src`: the bit is set, and the first error since the capture was armed fills it,
a later one counting in MERGED (R40). -/
def PageHdr.record (h : PageHdr) (src : Nat) (cap : Cap) (now : Nat) : PageHdr :=
  let h := { h with err := h.err ||| BitVec.ofNat 16 (2 ^ src) }
  if h.armed then
    { h with armed := false, capAddr := cap.addr, capMaster := cap.master, capAcc := cap.acc, merged := 0, capTime := now }
  else { h with merged := sat (h.merged + 1) 0xFFFF }

/-- Reports an error of a class beyond ERR_STAT: the interrupt cause, and from SPARE up IBI 0x03 and the Ledger entry
(R435). -/
def State.report (f : Fam) (n src cls : Nat) (cap : Cap) (s : State) : State :=
  let s := if flag (s.reg (baseOf f n + 0x14)) src then s else s.raiseInt f n 0 cls
  if cls ≥ 2 then (s.raiseIbi 0x03 (baseOf f n)).ledgerFault (ordOf f n) src cls cap else s

/-- A page records an error of a class: held back while its reset is in progress, recorded only in HALT, and otherwise
recorded and reported (R40, R417, R435, R437). -/
def State.raiseErrAs (f : Fam) (n src cls : Nat) (cap : Cap) (s : State) : State :=
  let o := ordOf f n
  let h := s.pg o
  if s.dev.mode = .off then s
  else if h.resetting then s.setPg o { h with held := h.held ++ [⟨src, cap, 0⟩] }
  else
    let s := s.setPg o (h.record src cap s.tick)
    if s.dev.mode = .halt then s else s.report f n src cls cap

/-- A page records an error of a source at the class in force. -/
def State.raiseErr (f : Fam) (n src : Nat) (cap : Cap) (s : State) : State :=
  s.raiseErrAs f n src (s.classOf f n src) cap

/-- MA_CE_BUCKET.SIZE, where 0 acts as 1 (R412). -/
def State.bucketSize (s : State) : Nat := max 1 (fld (s.reg Reg.maCeBucket) 15 0)

/-- A correctable error of a page enters its bucket; one that would take the bucket above its size sets the source and
empties the bucket (R408). -/
def State.correctable (f : Fam) (n src : Nat) (cap : Cap) (s : State) : State :=
  let o := ordOf f n
  let h := s.pg o
  if h.bucket + 1 > s.bucketSize then (s.setPg o { h with bucket := 0 }).raiseErr f n src cap
  else s.setPg o { h with bucket := h.bucket + 1 }

/-- ALERT_N is driven low: HALT, bring-up failed twice, or an unread ERR_STAT bit of class SPARE or higher (R37, R417,
R419). -/
def State.alert (s : State) : Bool :=
  s.dev.mode == .halt || s.dev.stuck ||
  s.pages.any fun e =>
    match pageAt s.part e.1 with
    | none => false
    | some (f, n) => (List.range 16).any fun k => e.2.err.getLsbD k && decide (2 ≤ s.classOf f n k)

end Sys2Proof.Machine
end

