-- ==== Sys2Proof/Machine/MemOps.lean ====
section
/-!
DEFINITION. Part DRAM: the address map of R394, line checks (R403 to R406), activation tracking (R398), and the line
and byte accesses that every block makes.
-/

namespace Sys2Proof.Machine

/-- U, the usable capacity in bytes: S sites of density D, 31/32 of each (R393). -/
def State.dramSize (s : State) : Nat := s.part.sites * (2 ^ 27 * (s.site 0).density) * 31 / 32

/-- Where a line lies (R394): site, line within the site, bank (channel, bank group and bank bits), row, and place in
the row. -/
structure Place where
  site : Nat
  l    : Nat
  bank : Nat
  row  : Nat
  c    : Nat
  deriving DecidableEq, Repr

/-- The parity of a number below 2^15. -/
def parity15 (n : Nat) : Nat := (List.range 15).foldl (fun a k => a + n / 2 ^ k) 0 % 2

/-- The address map of R394. -/
def State.place (s : State) (a : Nat) : Place :=
  let g := a / 256
  let n := s.part.sites
  let l := 4 * (g / n) + a / 64 % 4
  let u := l / 31
  let b := fun k => (u / 2 ^ k + parity15 ((bits u 20 6) &&& (s.reg (Reg.maBankHash k)).toNat)) % 2
  { site := g % n, l := l, bank := (List.range 6).foldl (fun x k => x + b k * 2 ^ k) 0, row := u / 64, c := l % 31 }

/-- Maps back: the byte address of a line of a site (R394). -/
def State.addrOf (s : State) (site l : Nat) : Nat := ((l / 4) * s.part.sites + site) * 256 + l % 4 * 64

/-- The check of a line (R403). -/
def lineCheck (bytes : List Byte) (l : Nat) : BitVec 16 :=
  BitVec.ofNat 16 (crcMsb 0x8BB7 0 (bytes ++ leBytes 4 l) ^^^ 0xFFFF)

/-- One byte of part DRAM; an unlisted byte reads as 0. -/
def Mem.byteAt (m : Mem) (a : Nat) : Byte := Tbl.getD m.cells a 0

/-- `n` bytes of part DRAM. -/
def Mem.bytesAt (m : Mem) (a n : Nat) : List Byte := (List.range n).map fun i => m.byteAt (a + i)

/-- Stores bytes in part DRAM, keeping the canonical form. -/
def Mem.store (m : Mem) (a : Nat) (l : List Byte) : Mem :=
  { m with cells := (l.zipIdx).foldl (fun c e => Tbl.put c (a + e.2) e.1 (0 : Byte)) m.cells }

/-- The canonical form of part DRAM: addresses rise strictly, and no listed byte is what an unlisted one reads as. -/
abbrev Mem.wf (m : Mem) : Prop := Tbl.Sorted m.cells ∧ ∀ c ∈ m.cells, c.2 ≠ (0 : Byte)

/-- A line is good: it has been written, its site serves it, and its data and check agree (R403, R410, R444). -/
def State.lineGood (s : State) (a : Nat) : Bool :=
  let p := s.place a
  (s.site p.site).trained && Tbl.get? s.mem.checks (a / 64) == some (lineCheck (s.mem.bytesAt a 64) p.l)

/-- One more activation in a tally of at most `n`: a new one replaces the lowest, lower index first, and takes its count
plus 1 (R398). -/
def tallyAdd (n who : Nat) (t : List (Nat × Nat)) : List (Nat × Nat) :=
  if t.any (fun e => e.1 == who) then t.map fun e => if e.1 = who then (e.1, e.2 + 1) else e
  else if t.length < n then t ++ [(who, 1)]
  else
    match t.map (·.2) |>.min? with
    | none => [(who, 1)]
    | some m => t.set (t.findIdx fun e => e.2 == m) (who, m + 1)

/-- One more activation of a row among the eight tracked of a bank (R398). -/
def rowAdd (row master : Nat) (t : List ActRow) : List ActRow :=
  if t.any (fun e => e.row == row) then
    t.map fun e => if e.row = row then { e with count := e.count + 1, tally := tallyAdd 4 master e.tally } else e
  else if t.length < 8 then t ++ [⟨row, 1, [(master, 1)]⟩]
  else
    match t.map (·.count) |>.min? with
    | none => [⟨row, 1, [(master, 1)]⟩]
    | some m => t.set (t.findIdx fun e => e.count == m) ⟨row, m + 1, [(master, 1)]⟩

/-- The master with the highest tally, lower ID on ties (R398). -/
def tallyTop (t : List (Nat × Nat)) : Nat :=
  (t.foldl (fun (b : Nat × Nat) e => if e.2 > b.2 ∨ (e.2 = b.2 ∧ e.1 < b.1) then e else b) (0xFFF, 0)).1

/-- An access activates its row; a row over MC_ACT_LIMIT throttles the master with the highest tally (R396, R398). -/
def State.activate (master a : Nat) (s : State) : State :=
  let p := s.place a
  let x := s.site p.site
  let rows := rowAdd p.row master (Tbl.getD x.acts p.bank [])
  let x := { x with acts := Tbl.set x.acts p.bank rows }
  let x := match x.throttle with
    | some t => if t.master = master then
        { x with throttle := some (if s.tick ≥ t.since + usTicks 1 then { t with since := s.tick, spent := 1 }
                                   else { t with spent := t.spent + 1 }) } else x
    | none => x
  let s := s.setSite p.site x
  match rows.find? (fun e => e.row == p.row) with
  | none => s
  | some e =>
    let who := tallyTop e.tally
    let already := match x.throttle with
      | some t => t.master == who
      | none => false
    if e.count ≤ fld (s.reg (Reg.mcActLimit p.site)) 19 0 || already then s
    else
      let t := usTicks (fld (s.reg (Reg.mcThrottle p.site)) 31 16)
      let s := s.setSite p.site { x with throttle := some ⟨who, s.tick + t, s.tick, 0⟩ }
      (s.bump (Reg.mcThrottles p.site)).raiseErr .memctl p.site 3
        (Cap.mem (s.addrOf p.site ((p.l / 31) * 31)) who 0xF)

/-- A request is refused at MEMARB: not on a line boundary, or at or beyond U (R404). -/
def State.refusesLine (s : State) (a : Nat) : Bool := a % 64 != 0 || decide (s.dramSize ≤ a)

/-- A refused request sets MEMARB ERR_STAT.ACCESS (R404). -/
def State.accessErr (master acc a : Nat) (s : State) : State := s.raiseErr .memarb 0 1 (Cap.mem a master acc)

/-- A read of one line by a master, `bad` fetches of it failing in transit: the line or nothing, and the counters and
errors of R405. -/
def State.readLineB (master acc a bad : Nat) (s : State) : Option (List Byte) × State :=
  if s.refusesLine a then (none, s.accessErr master acc a)
  else
    let n := (s.place a).site
    let s := ({ s with mem := { s.mem with isOpen := true } }.add64 (Reg.mcReadsLo n) 1).activate master a
    if s.lineGood a ∧ bad = 0 then (some (s.mem.bytesAt a 64), s)
    else if s.lineGood a ∧ bad ≤ 2 then
      (some (s.mem.bytesAt a 64), (s.bump (Reg.mcRefetchOk n)).correctable .memctl n 1 (Cap.mem a master acc))
    else (none, (s.bump (Reg.mcLineUe n)).raiseErr .memctl n 2 (Cap.mem a master acc))

/-- A read of one line with no fetch failing in transit. -/
def State.readLine (master acc a : Nat) (s : State) : Option (List Byte) × State := s.readLineB master acc a 0

/-- The check flip that MC_CHK_FLIP asks for on a write of a line (R406). -/
def State.flipFor (s : State) (n a : Nat) : BitVec 16 :=
  let f := s.reg (Reg.mcChkFlip n)
  if flag f 16 ∧ (flag f 17 = false ∨ s.reg64 (Reg.mcFlipAddrLo n) = a) then BitVec.ofNat 16 (fld f 15 0) else 0

/-- ARM clears once it has been used (R406). -/
def State.disarmFlip (n a : Nat) (s : State) : State :=
  let f := s.reg (Reg.mcChkFlip n)
  if flag f 16 ∧ (flag f 17 = false ∨ s.reg64 (Reg.mcFlipAddrLo n) = a) then
    s.setReg (Reg.mcChkFlip n) (f &&& 0xFFFEFFFF#32) else s

/-- A write of one whole line by a master (R396, R403, R406). -/
def State.writeLine (master acc a : Nat) (bytes : List Byte) (s : State) : State :=
  if s.refusesLine a ∨ bytes.length ≠ 64 then s.accessErr master acc a
  else
    let p := s.place a
    let chk := lineCheck bytes p.l ^^^ s.flipFor p.site a
    let s := s.disarmFlip p.site a
    let m := s.mem.store a bytes
    let s := { s with mem := { m with checks := Tbl.set m.checks (a / 64) chk, isOpen := true } }
    (s.add64 (Reg.mcWritesLo p.site) 1).activate master a

/-- Reads `n` lines from a line address, in order, up to the first that fails: the bytes read, and whether all were. -/
def State.readLines (master acc a : Nat) : Nat → State → List Byte × Bool × State
  | 0, s => ([], true, s)
  | n + 1, s =>
    match s.readLine master acc a with
    | (none, s) => ([], false, s)
    | (some l, s) =>
      let (t, ok, s) := s.readLines master acc (a + 64) n
      (l ++ t, ok, s)

/-- Writes whole lines from a line address; a last part of a line is filled with zeros. -/
def State.writeLines (master acc a : Nat) (bytes : List Byte) (s : State) : State :=
  (List.range (ceilDiv bytes.length 64)).foldl
    (fun s i => s.writeLine master acc (a + 64 * i) (padTo 64 (slice bytes (64 * i) 64))) s

/-- Reads `n` bytes from any address through the lines that hold them. -/
def State.readBytes (master acc a n : Nat) (s : State) : Option (List Byte) × State :=
  let a0 := a / 64 * 64
  let (l, ok, s) := s.readLines master acc a0 (ceilDiv (a + n - a0) 64) 
  (if ok then some (slice l (a - a0) n) else none, s)

/-- Writes bytes at any address inside one or more lines, merged into what the lines hold. -/
def State.writeBytes (master acc a : Nat) (bytes : List Byte) (s : State) : State :=
  let a0 := a / 64 * 64
  let n := ceilDiv (a + bytes.length - a0) 64
  let old := s.mem.bytesAt a0 (64 * n)
  s.writeLines master acc a0 (old.take (a - a0) ++ bytes ++ old.drop (a - a0 + bytes.length))

/-- MEMARB grants requests: MA_CTL.FREEZE is 0 and the part is up, not in SLACK (R402, R422). -/
def State.memServes (s : State) : Bool := s.live && !(s.dev.mode == .slack) && s.clk.mclk && !flag (s.reg Reg.maCtl) 0

/-- A master's request is granted at a site now: no other master's wait limit comes first (R400), and a throttled
master has rate left (R398). -/
def State.granted (s : State) (master site : Nat) : Bool :=
  (match s.mem.forced.find? (fun e => e.2 == site) with
   | some e => e.1 == master
   | none => true) &&
  (match (s.site site).throttle with
   | some t => t.master != master || decide (t.spent < max 1 (fld (s.reg (Reg.mcThrottle site)) 7 0)) ||
       decide (s.tick ≥ t.since + usTicks 1)
   | none => true)

/-- A win clears the master's wait counter (R400). -/
def State.won (master site : Nat) (s : State) : State :=
  { s with mem := { s.mem with forced := s.mem.forced.filter fun e => !(e.1 == master && e.2 == site) } }

/-! ## Outside memory -/

/-- The key of a byte of outside memory. -/
def extKey (space a : Nat) : Nat := 2 ^ 64 * space + a % 2 ^ 64

/-- What completions have brought of a range: `some none` where a byte came with an error; else none while any byte is
missing; else the bytes. -/
def State.extBytes (s : State) (space a n : Nat) : Option (Option (List Byte)) :=
  let l := (List.range n).map fun i => Tbl.get? s.ext (extKey space (a + i))
  if l.any (· == some none) then some none
  else if l.any (·.isNone) then none
  else some (some (l.filterMap fun b => b.bind id))

/-- A consumed range is forgotten: a later read of it needs its own completion. -/
def State.extDrop (space a n : Nat) (s : State) : State :=
  { s with ext := s.ext.filter fun e => !(decide (extKey space a ≤ e.1) && decide (e.1 < extKey space a + n)) }

end Sys2Proof.Machine
end

