-- ==== Sys2Proof/Machine/Levels.lean ====
section
/-!
DEFINITION. The level limits that R61, R104, R109, R110, R126 and R152 take from ITU-T H.264 Table A-1, ITU-T H.265 Annex A
and AV1 Annex A. PRESUMED: the spec cites these tables and does not print them (assumption 27).
-/

namespace Sys2Proof.Machine

/-- The limits of one level: picture size (macroblocks for AVC, luma samples otherwise), largest width and height in luma
samples, bit rate and buffer in units of 1,000 bits before the profile's factor, decoded picture buffer in macroblocks (AVC),
tile columns, and tile rows (HEVC) or tiles (AV1). -/
structure Level where
  code : Nat
  size : Nat
  wide : Nat
  high : Nat
  rate : Nat
  cpb  : Nat
  dpb  : Nat
  cols : Nat
  rows : Nat
  deriving DecidableEq, Repr

/-- An AVC row: the largest side is the integer part of sqrt(8 × MaxFS), in macroblocks. -/
def avcLevel (code fs dpb rate cpb side : Nat) : Level := ⟨code, fs, 16 * side, 16 * side, rate, cpb, dpb, 1, 1⟩

/-- ITU-T H.264 Table A-1. -/
def avcLevels : List Level :=
  [avcLevel 10 99 396 64 175 28, avcLevel 11 396 900 192 500 56, avcLevel 12 396 2376 384 1000 56,
   avcLevel 13 396 2376 768 2000 56, avcLevel 20 396 2376 2000 2000 56, avcLevel 21 792 4752 4000 4000 79,
   avcLevel 22 1620 8100 4000 4000 113, avcLevel 30 1620 8100 10000 10000 113, avcLevel 31 3600 18000 14000 14000 169,
   avcLevel 32 5120 20480 20000 20000 202, avcLevel 40 8192 32768 20000 25000 256,
   avcLevel 41 8192 32768 50000 62500 256, avcLevel 42 8704 34816 50000 62500 263,
   avcLevel 50 22080 110400 135000 135000 420, avcLevel 51 36864 184320 240000 240000 543,
   avcLevel 52 36864 184320 240000 240000 543]

/-- ITU-T H.265 Tables A.8 and A.9, Main tier; the largest side is the integer part of sqrt(8 × MaxLumaPs). -/
def hevcLevels : List Level :=
  [⟨10, 36864, 543, 543, 128, 350, 0, 1, 1⟩, ⟨20, 122880, 991, 991, 1500, 1500, 0, 1, 1⟩,
   ⟨21, 245760, 1402, 1402, 3000, 3000, 0, 1, 1⟩, ⟨30, 552960, 2103, 2103, 6000, 6000, 0, 2, 2⟩,
   ⟨31, 983040, 2804, 2804, 10000, 10000, 0, 3, 3⟩, ⟨40, 2228224, 4222, 4222, 12000, 12000, 0, 5, 5⟩,
   ⟨41, 2228224, 4222, 4222, 20000, 20000, 0, 5, 5⟩, ⟨50, 8912896, 8444, 8444, 25000, 25000, 0, 10, 11⟩,
   ⟨51, 8912896, 8444, 8444, 40000, 40000, 0, 10, 11⟩, ⟨52, 8912896, 8444, 8444, 60000, 60000, 0, 10, 11⟩,
   ⟨60, 35651584, 16888, 16888, 60000, 60000, 0, 20, 22⟩, ⟨61, 35651584, 16888, 16888, 120000, 120000, 0, 20, 22⟩]

/-- AV1 Annex A, tier 0; the buffer holds one second at the level's rate. -/
def av1Levels : List Level :=
  [⟨20, 147456, 2048, 1152, 1500, 1500, 0, 4, 8⟩, ⟨21, 278784, 2816, 1584, 3000, 3000, 0, 4, 8⟩,
   ⟨30, 665856, 4352, 2448, 6000, 6000, 0, 6, 16⟩, ⟨31, 1065024, 5504, 3096, 10000, 10000, 0, 6, 16⟩,
   ⟨40, 2359296, 6144, 3456, 12000, 12000, 0, 8, 32⟩, ⟨41, 2359296, 6144, 3456, 20000, 20000, 0, 8, 32⟩,
   ⟨50, 8912896, 8192, 4352, 30000, 30000, 0, 8, 64⟩, ⟨51, 8912896, 8192, 4352, 40000, 40000, 0, 8, 64⟩,
   ⟨52, 8912896, 8192, 4352, 60000, 60000, 0, 8, 64⟩, ⟨53, 8912896, 8192, 4352, 60000, 60000, 0, 8, 64⟩,
   ⟨60, 35651584, 16384, 8704, 60000, 60000, 0, 16, 128⟩, ⟨61, 35651584, 16384, 8704, 100000, 100000, 0, 16, 128⟩]

/-- The level of a codec (1 AVC, 2 HEVC, 3 AV1) with a LEVEL code (R104). -/
def levelOf (codec code : Nat) : Option Level :=
  (if codec = 1 then avcLevels else if codec = 2 then hevcLevels else if codec = 3 then av1Levels else []).find?
    fun l => l.code == code

/-- The factor in bits of a level's rate and buffer with the NAL factor of the profile (R126). -/
def nalFactor (codec profile : Nat) : Nat :=
  if codec = 1 then (if profile = 2 then 1200 else 1500) else if codec = 2 then 1100 else 1000

/-- The codec, profile and depth form a supported pair (R104): AVC 0 to 2 at 8 bits, HEVC Main at 8, Main 10 and AV1 Main
at 8 or 10. -/
def profileOk (codec profile depth : Nat) : Bool :=
  (codec == 1 && decide (profile ≤ 2) && depth == 8) ||
  (codec == 2 && ((profile == 0 && depth == 8) || (profile == 1 && (depth == 8 || depth == 10)))) ||
  (codec == 3 && profile == 0 && (depth == 8 || depth == 10))

/-- A coded size within a level (R61, R104). -/
def Level.fits (l : Level) (codec w h : Nat) : Bool :=
  if codec = 1 then
    decide (ceilDiv w 16 * ceilDiv h 16 ≤ l.size) && decide (roundUp w 16 ≤ l.wide) && decide (roundUp h 16 ≤ l.high)
  else if codec = 2 then
    decide (roundUp w 8 * roundUp h 8 ≤ l.size) && decide (roundUp w 8 ≤ l.wide) && decide (roundUp h 8 ≤ l.high)
  else decide (w * h ≤ l.size) && decide (w ≤ l.wide) && decide (h ≤ l.high)

/-- The level's largest decoded picture buffer at a size, in pictures (R152). -/
def Level.dpbMax (l : Level) (codec w h : Nat) : Nat :=
  if codec = 1 then min 16 (l.dpb / max 1 (ceilDiv w 16 * ceilDiv h 16))
  else
    let p := roundUp w 8 * roundUp h 8
    if 4 * p ≤ l.size then 16 else if 2 * p ≤ l.size then 12 else if 4 * p ≤ 3 * l.size then 8 else 6

end Sys2Proof.Machine
end

