-- ==== Sys2Proof/Machine/Descriptor.lean ====
section
/-!
DEFINITION. The encode session descriptor: its fields (R60, R109, R123, R151, R215), the geometry of its pictures (R62,
R101, R110).
-/

namespace Sys2Proof.Machine

/-- Bits [hi:lo] of the descriptor word at an offset. -/
def df (d : List Byte) (off hi lo : Nat) : Nat := bits (leAt d off 4) hi lo
/-- A 64-bit address in the descriptor. -/
def da (d : List Byte) (off : Nat) : Nat := leAt d off 8

/-- CODEC. -/
def dCodec (d : List Byte) : Nat := df d 0x00 3 0
/-- DEPTH. -/
def dDepth (d : List Byte) : Nat := df d 0x00 19 16
/-- TILE_COLS. -/
def dCols (d : List Byte) : Nat := df d 0x00 23 20
/-- WIDTH. -/
def dWidth (d : List Byte) : Nat := df d 0x04 15 0
/-- HEIGHT. -/
def dHeight (d : List Byte) : Nat := df d 0x04 31 16
/-- IN_WIDTH. -/
def dInW (d : List Byte) : Nat := df d 0x08 15 0
/-- IN_HEIGHT. -/
def dInH (d : List Byte) : Nat := df d 0x08 31 16
/-- LAYOUT (R78). -/
def dLayout (d : List Byte) : Nat := df d 0x0C 3 0
/-- BOLTER. -/
def dBolter (d : List Byte) : Nat := df d 0x0C 11 8
/-- RENDERER. -/
def dRenderer (d : List Byte) : Nat := df d 0x0C 14 12
/-- ROTATE. -/
def dRotate (d : List Byte) : Nat := df d 0x0C 17 16
/-- SLOTS. -/
def dSlots (d : List Byte) : Nat := df d 0x0C 22 20
/-- INGEST_BASE. -/
def dIngest (d : List Byte) : Nat := da d 0x10 / 64 * 64
/-- IN_PITCH. -/
def dPitch (d : List Byte) : Nat := df d 0x18 31 0
/-- SLOT_STRIDE. -/
def dStride (d : List Byte) : Nat := df d 0x1C 31 0
/-- TRIG. -/
def dTrig (d : List Byte) : Nat := df d 0x20 4 0
/-- DIVIDER. -/
def dDivider (d : List Byte) : Nat := df d 0x20 10 8
/-- PHASE_NS in units of 2^-32 ns. -/
def dPhase (d : List Byte) : Nat := 2 ^ 32 * df d 0x24 31 0
/-- A number of µs in units of 2^-32 ns. -/
def usNet (n : Nat) : Nat := 2 ^ 32 * (1000 * n)
/-- DEADLINE_US. -/
def dDeadline (d : List Byte) : Nat := df d 0x28 23 0
/-- SHORTEN_MAX_US. -/
def dShorten (d : List Byte) : Nat := df d 0x2C 23 0
/-- DEBT_MAX_US. -/
def dDebtMax (d : List Byte) : Nat := df d 0x30 23 0
/-- INGEST_TIMEOUT_US. -/
def dIngestTo (d : List Byte) : Nat := df d 0x34 23 0
/-- PRESET. -/
def dPreset (d : List Byte) : Nat := df d 0x38 1 0
/-- PRESET_MIN. -/
def dPresetMin (d : List Byte) : Nat := df d 0x38 5 4
/-- ENTROPY. -/
def dEntropy (d : List Byte) : Nat := df d 0x38 8 8
/-- BFRAMES. -/
def dBframes (d : List Byte) : Nat := df d 0x38 10 9
/-- REFRESH_WIDTH. -/
def dRefW (d : List Byte) : Nat := df d 0x38 15 12
/-- REFRESH_PERIOD. -/
def dRefPer (d : List Byte) : Nat := df d 0x38 23 16
/-- REFRESH_SLACK. -/
def dRefSlack (d : List Byte) : Nat := df d 0x38 26 24
/-- EVENT_EN. -/
def dEventEn (d : List Byte) : Nat := df d 0x3C 15 0
/-- KEY_INTERVAL. -/
def dKeyInt (d : List Byte) : Nat := df d 0x3C 31 16
/-- LSTONE of a tile column. -/
def dStone (d : List Byte) (c : Nat) : Nat := leAt d (0x40 + c) 1
/-- The logical stones in use. -/
def dStones (d : List Byte) : List Nat := (List.range (dCols d)).map (dStone d)
/-- RD_MIRROR. -/
def dRdMirror (d : List Byte) : Nat := da d 0x48 / 4 * 4
/-- RMODE: 0 CBR, 1 capped VBR, 2 LOWDELAY. -/
def dRmode (d : List Byte) : Nat := df d 0x60 1 0
/-- CONG_EN. -/
def dCongEn (d : List Byte) : Bool := df d 0x60 2 2 == 1
/-- QP_MIN. -/
def dQpMin (d : List Byte) : Nat := df d 0x60 13 8
/-- QP_MAX. -/
def dQpMax (d : List Byte) : Nat := df d 0x60 21 16
/-- GEV_EN. -/
def dGevEn (d : List Byte) : Nat := df d 0x60 27 24
/-- RATE_BPS. -/
def dRate (d : List Byte) : Nat := df d 0x64 31 0
/-- BUF_BITS. -/
def dBuf (d : List Byte) : Nat := df d 0x68 31 0
/-- INIT_DELAY_US. -/
def dDelay (d : List Byte) : Nat := df d 0x6C 23 0
/-- AVG_BPS, where 0 means RATE_BPS. -/
def dAvg (d : List Byte) : Nat := if df d 0x70 31 0 = 0 then dRate d else df d 0x70 31 0
/-- MIN_BPS. -/
def dMinBps (d : List Byte) : Nat := df d 0x74 31 0
/-- START_BPS, where 0 means AVG_BPS. -/
def dStartBps (d : List Byte) : Nat := if df d 0x78 31 0 = 0 then dAvg d else df d 0x78 31 0
/-- QP_INIT. -/
def dQpInit (d : List Byte) : Nat := df d 0x7C 5 0
/-- LEAT_Q × 2 + LANE: the lane. -/
def dLane (d : List Byte) : Nat := 2 * df d 0xA0 7 0 + df d 0xA0 8 8
/-- FLOW. -/
def dFlow (d : List Byte) : Nat := df d 0xA0 27 16
/-- TMPL. -/
def dTmpl (d : List Byte) : Nat := df d 0xA4 9 0
/-- PT. -/
def dPt (d : List Byte) : Nat := df d 0xA4 22 16
/-- RTX_MAX. -/
def dRtxMax (d : List Byte) : Nat := df d 0xA4 26 25
/-- SSRC. -/
def dSsrc (d : List Byte) : Nat := df d 0xA8 31 0
/-- SEQ0. -/
def dSeq0 (d : List Byte) : Nat := df d 0xAC 15 0
/-- TS0. -/
def dTs0 (d : List Byte) : Nat := df d 0xB0 31 0
/-- TX_KEY. -/
def dTxKey (d : List Byte) : Nat := df d 0xB4 11 0
/-- RX_KEY. -/
def dRxKey (d : List Byte) : Nat := df d 0xB4 27 16
/-- MTU. -/
def dMtu (d : List Byte) : Nat := df d 0xB8 13 0
/-- SR_INTERVAL_MS. -/
def dSrMs (d : List Byte) : Nat := df d 0xB8 31 16
/-- MAX_SEGS. -/
def dMaxSegs (d : List Byte) : Nat := df d 0xBC 15 0
/-- RTX_HOLD_MS. -/
def dRtxHold (d : List Byte) : Nat := df d 0xBC 31 16
/-- HIST_MS. -/
def dHist (d : List Byte) : Nat := df d 0xC0 15 0
/-- TEV_EN. -/
def dTevEn (d : List Byte) : Nat := df d 0xC0 23 16
/-- GCLASS. -/
def dGclass (d : List Byte) : Nat := df d 0xE0 3 0
/-- NREF. -/
def dNref (d : List Byte) : Nat := df d 0xE0 6 4
/-- NSHORT. -/
def dNshort (d : List Byte) : Nat := df d 0xE0 10 8
/-- NLONG. -/
def dNlong (d : List Byte) : Nat := df d 0xE0 14 12
/-- LT_INTERVAL. -/
def dLtInt (d : List Byte) : Nat := df d 0xE0 23 16
/-- REV_EN. -/
def dRevEn (d : List Byte) : Nat := df d 0xE0 27 24
/-- LOSS_WAIT_MS. -/
def dLossWait (d : List Byte) : Nat := df d 0xE4 15 0
/-- LOWDELAY. -/
def dLow (d : List Byte) : Bool := dRmode d == 2

/-! ## Geometry -/

/-- The side of a coding block (R104). -/
def dBlk (d : List Byte) : Nat := if dCodec d = 1 then 16 else 64
/-- N: coding blocks across. -/
def dNx (d : List Byte) : Nat := ceilDiv (dWidth d) (dBlk d)
/-- Coding rows. -/
def dNy (d : List Byte) : Nat := ceilDiv (dHeight d) (dBlk d)
/-- The first block of tile column `c` (R62). -/
def dColAt (d : List Byte) (c : Nat) : Nat := c * dNx d / max 1 (dCols d)
/-- The blocks across tile column `c` (R62). -/
def dColW (d : List Byte) (c : Nat) : Nat := dColAt d (c + 1) - dColAt d c
/-- The blocks across the widest tile column. -/
def dWidest (d : List Byte) : Nat := maxOf ((List.range (dCols d)).map (dColW d))
/-- N_64 (R115). -/
def dN64 (d : List Byte) : Nat := ceilDiv (dWidth d) 64
/-- The lines that analysis examines in a coding row (R101). -/
def dLines (d : List Byte) (row : Nat) : Nat :=
  let h8 := roundUp (dHeight d) 8
  let l := min (dBlk d) (h8 - dBlk d * row)
  if dCodec d = 1 then l else max 16 l
/-- H of R64: the analysis lines of every coding row. -/
def dHa (d : List Byte) : Nat := ((List.range (dNy d)).map (dLines d)).sum
/-- The oriented input size (R85). -/
def dOrient (d : List Byte) : Nat × Nat :=
  if dRotate d % 2 = 1 then (dInH d, dInW d) else (dInW d, dInH d)
/-- R, the tile rows (R110); 0 where the codec has none. -/
def dTileRows (d : List Byte) (l : Level) : Nat :=
  if dCodec d = 2 ∧ 1 < dCols d then min (dNy d) (min 16 l.rows)
  else if dCodec d = 3 then min (dNy d) (min 64 (l.rows / max 1 (dCols d)))
  else 0
/-- The row unit that holds a coding row, as the pair of its first row and one past its last (R110, R111). -/
def dUnit (d : List Byte) (row : Nat) : Nat × Nat :=
  match levelOf (dCodec d) (df d 0x00 15 8) with
  | none => (row, row + 1)
  | some l =>
    let r := dTileRows d l
    if r = 0 then (row, row + 1)
    else
      let at_ := fun j => j * dNy d / r
      match (List.range r).find? fun j => decide (at_ j ≤ row) && decide (row < at_ (j + 1)) with
      | some j => (at_ j, at_ (j + 1))
      | none => (row, row + 1)
/-- The rates of the presets in units of 0.05 Gpixel/s (R64). -/
def rate20 (p : Nat) : Nat := if p = 0 then 32 else if p = 1 then 20 else if p = 2 then 14 else 9
/-- W: the pixels of the widest tile column (R74). -/
def dW (d : List Byte) : Nat := dWidest d * dBlk d * dHa d

end Sys2Proof.Machine
end

