-- ==== Sys2Proof/Machine/Pictures.lean ====
section
/-!
DEFINITION. The parameter sets and headers of a session's pictures, computed from its descriptor (R84, R104 to R107, R110, R112, R118,
R125), their bytes in stored form (R224), and the reference windows and search of the presets (R98, R99, R101).
-/

namespace Sys2Proof.Machine

/-! ## Parameter sets (R84, R104 to R107, R125) -/

/-- PROFILE. -/
def dProfile (d : List Byte) : Nat := df d 0x00 7 4
/-- LEVEL. -/
def dLevel (d : List Byte) : Nat := df d 0x00 15 8
/-- RECOVERY_SEI. -/
def dRecoverySei (d : List Byte) : Bool := df d 0x38 27 27 == 1

/-- nal_hrd_parameters (R125): R is a multiple of 64 and B of 16, so that scale 0 represents each exactly. -/
def hrdOf (d : List Byte) : Hrd :=
  { rateScale := 0, rateValue := dRate d / 64 - 1, cpbScale := 0, cpbValue := dBuf d / 16 - 1, cbr := dRmode d == 0, lowDelay := dLow d }

/-- Colour signalling (R84). -/
def colourSig (d : List Byte) : ColourSig :=
  let wide := df d 0x0C 4 4 == 1
  { primaries := if wide then 9 else 1, transfer := if wide then 14 else 1, matrix := if wide then 9 else 1
    fullRange := df d 0x0C 6 6 == 1, location := if dCodec d = 3 then 1 else 0 }

/-- The AVC sequence parameter set: cropping from the macroblock multiple (R104), the tools of R105, the limits of R158. -/
def avcSpsOf (d : List Byte) : AvcSps :=
  { profile := dProfile d, level := dLevel d, widthMbs := dNx d, heightMbs := dNy d, cropRight := 16 * dNx d - dWidth d
    cropBottom := 16 * dNy d - dHeight d, maxRefFrames := dNshort d + dNlong d, frameMbsOnly := true, gapsAllowed := false
    colour := colourSig d, hrd := hrdOf d }

/-- The AVC picture parameter set (R105); PROFILE 2, Main, has no 8×8 transform. -/
def avcPpsOf (d : List Byte) : AvcPps :=
  { cabac := dEntropy d == 1, transform8x8 := dProfile d != 2, weighted := false, constrainedIntra := false, redundant := false
    sliceGroups := 1, flatScaling := true }

/-- The HEVC video parameter set. -/
def hevcVpsOf (d : List Byte) : HevcVps := { profile := dProfile d, level := dLevel d, layers := 1 }

/-- The HEVC sequence parameter set (R104, R106). -/
def hevcSpsOf (d : List Byte) : HevcSps :=
  let w := roundUp (dWidth d) 8
  let h := roundUp (dHeight d) 8
  { profile := dProfile d, highTier := false, level := dLevel d, picWidth := w, picHeight := h, confRight := w - dWidth d
    confBottom := h - dHeight d, depth := dDepth d, ctb := 64, minCb := 8, minTb := 4, maxTb := 32, amp := true, sao := true, pcm := false
    scalingLists := false, strongIntra := true, temporalMvp := !dLow d, longTerm := true, shortSets := 0, colour := colourSig d
    hrd := hrdOf d }

/-- The widths of the tile columns in coding blocks (R62). -/
def tileWidths (d : List Byte) : List Nat := (List.range (dCols d)).map (dColW d)

/-- The heights of the tile rows in coding rows (R110). -/
def tileHeights (d : List Byte) : List Nat :=
  match levelOf (dCodec d) (dLevel d) with
  | none => []
  | some l =>
    let r := dTileRows d l
    (List.range r).map fun j => (j + 1) * dNy d / r - j * dNy d / r

/-- The HEVC picture parameter set: tiles only with two columns and more, WPP only with one (R106, R110). -/
def hevcPpsOf (d : List Byte) : HevcPps :=
  let tiles := decide (1 < dCols d)
  { cuQpDelta := true, diffCuQpDelta := 0, cbQpOffset := 0, crQpOffset := 0, signHiding := true, transformSkip := false
    transquantBypass := false, weighted := false, constrainedIntra := false, dependentSegments := true, entropySync := !tiles
    tileCols := if tiles then tileWidths d else [], tileRows := if tiles then tileHeights d else [], filterAcrossTiles := true
    filterAcrossSlices := true }

/-- The AV1 sequence header (R104, R107, R125). -/
def av1SeqOf (d : List Byte) : Av1Seq :=
  { profile := 0, tier := 0, level := dLevel d, reducedStill := false, superblock128 := false, frameIdNumbers := true, orderHint := true
    filterIntra := true, intraEdgeFilter := true, interintra := false, maskedCompound := false, warpedMotion := false, dualFilter := false
    jntComp := false, superres := false, cdef := true, restoration := true, filmGrain := false, width := dWidth d, height := dHeight d
    depth := dDepth d, colour := colourSig d, equalInterval := true, decoderDelay := dDelay d * 9 / 100
    encoderDelay := (dBuf d * 10 ^ 6 - dRate d * dDelay d) * 9 / (max 1 (dRate d) * 100), lowDelayMode := dLow d }

/-- The AV1 frame header of frame `k` (R62, R107, R118, R158, R162). -/
def av1FrameOf (d : List Byte) (k preset refresh : Nat) (refIdx : List Nat) (isKey resilient recov : Bool) : Av1Frame :=
  { isKey := isKey, shown := true, errorResilient := resilient || recov, primaryNone := recov, orderHint := k, refresh := refresh
    refIdx := refIdx, width := dWidth d, height := dHeight d, highPrecision := false, switchable := preset != 0, uniformTiles := false
    tileCols := tileWidths d, tileRows := tileHeights d, contextTile := 0, deltaQ := true, deltaQRes := 0, deltaLf := false
    quantMatrix := false, segmentation := false, cdefBits := 3, wienerUnit := 64, selfGuided := false, globalMotion := false }

/-- L, the length of a refresh cycle with a wave of `w` columns (R115). -/
def cycleLen (d : List Byte) (w : Nat) : Nat := ceilDiv (dN64 d) (max 1 w)

/-- The recovery point SEI of a cycle with a wave of `w` columns (R118). -/
def recoverySei (d : List Byte) (w : Nat) : RecoverySei :=
  { count := cycleLen d w - 1 + dRefSlack d, exactMatch := true, brokenLink := false }

/-! ## The prefix of a picture (R112, R224) -/

/-- What stands before a picture's first row unit: always the delimiter, or the AV1 frame header behind its temporal delimiter; with
parameter sets at key pictures and cycle starts; and the recovery point SEI of a cycle's first picture. -/
def prefixUnits (d : List Byte) (cls : PicCls) (params : Bool) (sei : Option RecoverySei) (frame : Av1Frame) : List HeadUnit :=
  if dCodec d = 1 then
    [.avcAud cls] ++ (if params then [.avcSps (avcSpsOf d), .avcPps (avcPpsOf d)] else []) ++ (sei.map (HeadUnit.recovery false)).toList
  else if dCodec d = 2 then
    [.hevcAud cls] ++ (if params then [.hevcVps (hevcVpsOf d), .hevcSps (hevcSpsOf d), .hevcPps (hevcPpsOf d)] else []) ++
      (sei.map (HeadUnit.recovery true)).toList
  else [.temporalDelimiter] ++ (if params then [.av1Seq (av1SeqOf d)] else []) ++ [.av1Frame frame]

/-- The picture type code of an access unit delimiter. PRESUMED: ITU-T H.264 and H.265 (assumption 28). -/
def audByte (c : PicCls) : Byte :=
  match c with
  | .key => 0x10
  | .p => 0x30
  | .b => 0x50

/-- LEB128 of a number, at most `fuel` bytes. -/
def leb128 : Nat → Nat → List Byte
  | 0, _ => []
  | fuel + 1, n => if n < 128 then [byte n] else byte (n % 128 + 128) :: leb128 fuel (n / 128)

/-- An OBU with obu_has_size_field 1 (R224). -/
def obu (header : Byte) (l : List Byte) : List Byte := [header] ++ leb128 8 l.length ++ l

/-- The bytes of a unit in stored form (R224): a 4-byte start code before a NAL unit; an OBU with its size. The OBU headers are those of
the AV1 types 1, 2 and 3 (PRESUMED, assumption 28). -/
def HeadUnit.bytes (u : HeadUnit) : List Byte :=
  let start : List Byte := [0, 0, 0, 1]
  match u with
  | .temporalDelimiter => [0x12, 0x00]
  | .avcAud c => start ++ [0x09, audByte c]
  | .hevcAud c => start ++ [0x46, 0x01, audByte c]
  | .av1Seq _ => obu 0x0A (Config.unitBytes u)
  | .av1Frame _ => obu 0x1A (Config.unitBytes u)
  | _ => start ++ Config.unitBytes u

/-- The bytes of a prefix. -/
def prefixBytes (l : List HeadUnit) : List Byte := l.flatMap HeadUnit.bytes

/-- The bits of a session's largest prefix (R126): parameter sets and, where RECOVERY_SEI is 1, a recovery point SEI. -/
def prefixMost (d : List Byte) : Nat :=
  let sei := if dRecoverySei d && dRefW d != 0 then some (recoverySei d (dRefW d)) else none
  8 * (prefixBytes (prefixUnits d .p true sei (av1FrameOf d 0 3 0 (List.replicate 7 0) false true false))).length

/-! ## Search and reference windows (R98, R99, R101) -/

/-- SR_H and SR_V of a preset. -/
def searchRange (p : Nat) : Nat × Nat :=
  if p = 0 then (64, 16) else if p = 1 then (128, 32) else if p = 2 then (192, 48) else (256, 64)

/-- Bytes of a sample. -/
def dSample (d : List Byte) : Nat := if dDepth d = 8 then 1 else 2

/-- The luma samples across and down a reference window (R98). -/
def windowSize (d : List Byte) (p : Nat) : Nat × Nat :=
  let (h, v) := searchRange p
  if dCodec d = 1 then (dWidth d + 2 * h, 16 + 2 * v) else (64 + 2 * h, 64 + 2 * v)

/-- B: the bytes of a window, with its chroma (R99). -/
def windowBytes (d : List Byte) (p : Nat) : Nat :=
  let (w, h) := windowSize d p
  (w * h + w * h / 2) * dSample d

/-- The reference cache of a stone in bytes (R98). -/
def refCache : Nat := 1572864

/-- How many distinct reference pictures a picture is predicted from at most (R99). -/
def refMost (d : List Byte) (p : Nat) : Nat := min (dNref d) (refCache / windowBytes d p)

/-- The reference window of the block whose first luma sample is (x, y): first and one past the last column and line; outside the
picture it is padded by edge replication (R98). -/
def windowAt (d : List Byte) (p x y : Nat) : Int × Int × Int × Int :=
  let (h, v) := searchRange p
  if dCodec d = 1 then (-(h : Int), (dWidth d : Int) + h, (y : Int) - v, (y : Int) + 16 + v)
  else ((x : Int) - h, (x : Int) + 64 + h, (y : Int) - v, (y : Int) + 64 + v)

end Sys2Proof.Machine
end

