-- ==== Sys2Proof/Machine/Checks.lean ====
section
/-!
DEFINITION. The floor bounds of an encode session's pictures (R126, R131) and the checks that need nothing but its descriptor and
template (R61, R80, R87, R109, R126, R152, R217).
-/

namespace Sys2Proof.Machine

/-! ## Floor bounds (R131) -/

/-- Φ_h. -/
def phiH (d : List Byte) : Nat := if dCodec d = 1 then 192 else if dCodec d = 2 then 256 else 64
/-- φ_s. -/
def phiS (d : List Byte) : Nat :=
  if dCodec d = 1 then (if dEntropy d = 1 then 14 else 1) else if dCodec d = 2 then 40 else 56
/-- φ_i. -/
def phiI (d : List Byte) : Nat :=
  if dCodec d = 1 then (if dEntropy d = 1 then 112 else 32) else if dCodec d = 2 then 320 else 256
/-- Φ of a segment of `n` blocks, `ni` of them DC intra. -/
def phiSeg (d : List Byte) (n ni : Nat) : Nat := phiH d + (n - ni) * phiS d + ni * phiI d
/-- Blocks across a wave of `w` 64-sample columns, at most. -/
def waveBlocks (d : List Byte) (w : Nat) : Nat := min (dNx d) (w * (64 / dBlk d))
/-- Φ of a whole inter picture with its largest prefix and a wave of `w` columns. -/
def phiInter (d : List Byte) (w : Nat) : Nat :=
  prefixMost d + dNy d * (dCols d * phiH d + (dNx d - waveBlocks d w) * phiS d + waveBlocks d w * phiI d)
/-- Φ_K: the same for a key picture. -/
def phiKey (d : List Byte) : Nat := prefixMost d + dNy d * (dCols d * phiH d + dNx d * phiI d)

/-! ## Checks -/

/-- R61 items 1, 2, 3 and 5: whether they hold. -/
def dCheckPicture (d : List Byte) : Bool :=
  let w := dWidth d
  let h := dHeight d
  match levelOf (dCodec d) (df d 0x00 15 8) with
  | none => false
  | some l =>
    profileOk (dCodec d) (df d 0x00 7 4) (dDepth d) &&
    decide (128 ≤ w ∧ w ≤ 8192 ∧ w % 2 = 0 ∧ 96 ≤ h ∧ h ≤ 4320 ∧ h % 2 = 0) && l.fits (dCodec d) w h &&
    decide (1 ≤ dCols d ∧ dCols d ≤ 8) && (dCodec d != 1 || dCols d == 1) && decide (dCols d ≤ l.cols) &&
    (List.range (dCols d)).all (fun c =>
      (dCodec d != 2 || decide (4 ≤ dColW d c)) && (dCodec d != 3 || decide (dColW d c ≤ 64 ∧ 1 ≤ dColW d c))) &&
    decide (dShorten d ≤ dDeadline d) && decide (dPresetMin d ≤ dPreset d)

/-- Bytes of one stored line (R80). -/
def lineBytes (d : List Byte) : Nat :=
  let l := dLayout d
  if l ≤ 5 then 4 * dInW d else if l = 6 then 2 * dInW d else if l = 7 then 4 * dInW d
  else if l = 8 then dInW d else 2 * dInW d

/-- R60, R78, R80 and R87: the input. -/
def dCheckInput (d : List Byte) : Bool :=
  let (ow, oh) := dOrient d
  decide (dLayout d ≤ 9) && df d 0x0C 7 7 == 0 && decide (dInH d ≤ 16383 ∧ 0 < dInH d ∧ 16 ≤ dInW d) &&
  dPitch d % 64 == 0 && dStride d % 64 == 0 && decide (dPitch d * dInH d ≤ dStride d) && decide (lineBytes d ≤ dPitch d) &&
  (decide (dLayout d < 6) || dInW d % 2 == 0) && (decide (dLayout d < 8) || dInH d % 2 == 0) &&
  (decide (dLayout d < 8) || decide (dPitch d * dInH d * 3 ≤ 2 * dStride d)) &&
  decide (ow ≤ 8 * dWidth d ∧ dWidth d ≤ 2 * ow ∧ oh ≤ 8 * dHeight d ∧ dHeight d ≤ 2 * oh)

/-- R109: whether its refusals are avoided. -/
def dCheckCoding (d : List Byte) : Bool :=
  match levelOf (dCodec d) (df d 0x00 15 8) with
  | none => false
  | some l =>
    let r := dTileRows d l
    let tileH := maxOf ((List.range r).map fun j => (j + 1) * dNy d / r - j * dNy d / r) * 64
    (dEntropy d == 0 || dCodec d == 1) &&
    (dBframes d == 0 || !(dCodec d == 3 || (dCodec d == 1 && df d 0x00 7 4 == 0) || dLow d || df d 0x38 27 27 == 1)) &&
    (dKeyInt d == 0 || !dLow d) && (dRefW d != 0 || !dLow d) &&
    (dRefPer d == 0 || dRefW d == 0 || decide (cycleLen d (dRefW d) ≤ dRefPer d)) &&
    (dCodec d != 3 || (decide (dWidest d * 64 * tileH ≤ 9437184) && decide (ceilDiv (dNy d) 64 ≤ r)))

/-- R·Δ in 1/65,536 bit, rounded down (R124), for a frame period in units of 2^-32 ns. -/
def bitsPer (rate per : Nat) : Nat := rate * per * 65536 / (2 ^ 32 * 10 ^ 9)

/-- R126: whether its refusals are avoided, for a frame period in units of 2^-32 ns. -/
def dCheckRate (d : List Byte) (per : Nat) : Bool :=
  match levelOf (dCodec d) (df d 0x00 15 8) with
  | none => false
  | some l =>
    let r := dRate d
    let b := dBuf d
    let f := nalFactor (dCodec d) (df d 0x00 7 4)
    decide (dRmode d ≤ 2 ∧ dQpMin d ≤ dQpMax d ∧ dQpMax d ≤ 51 ∧ dQpInit d ≤ 51 ∧ 0 < r ∧ r % 64 = 0 ∧ 0 < b ∧
      b % 16 = 0) &&
    decide (r ≤ l.rate * f ∧ b ≤ l.cpb * f) &&
    decide (r * dDelay d ≤ b * 10 ^ 6 ∧ bitsPer r per ≤ b * 65536) && (dRmode d != 0 || decide (2 * bitsPer r per ≤ b * 65536)) &&
    decide (phiKey d * 10 ^ 6 ≤ r * dDelay d ∧ phiInter d (dRefW d) * 65536 ≤ bitsPer r per) &&
    decide (dAvg d ≤ r ∧ dMinBps d ≤ dAvg d ∧ 0 < dMinBps d ∧ dMinBps d ≤ dStartBps d ∧ dStartBps d ≤ r) &&
    (!dLow d || decide (phiInter d (dRefW d) * 65536 ≤ bitsPer (dMinBps d) per))

/-- E_cap in bits (R152). -/
def eCap (d : List Byte) (per : Nat) : Nat := bitsPer (if dLow d then dMinBps d else dRate d) per / 65536
/-- Φ'_P (R152). -/
def phiRef (d : List Byte) : Nat := phiInter d (max 1 (dRefW d))
/-- n_x, the blocks of R166 per picture. -/
def nX (d : List Byte) (per : Nat) : Nat := (eCap d per - phiRef d) / (phiI d - phiS d)

/-- R152 items 2 to 5 and its ranges: whether its refusals are avoided. -/
def dCheckRefs (d : List Byte) (per : Nat) : Bool :=
  match levelOf (dCodec d) (df d 0x00 15 8) with
  | none => false
  | some l =>
    let n := dNshort d + dNlong d
    decide (1 ≤ dNref d ∧ dNref d ≤ 4 ∧ 1 ≤ dNshort d ∧ dNshort d ≤ 7 ∧ dNlong d ≤ 4 ∧ dNref d ≤ n) &&
    (!dLow d || decide (2 ≤ dNlong d)) && (dCodec d != 3 || decide (n ≤ 8)) &&
    (dCodec d == 3 || decide (1 + n + dBframes d ≤ l.dpbMax (dCodec d) (dWidth d) (dHeight d))) &&
    (dCodec d != 1 || decide (n ≤ 16)) && decide (phiRef d ≤ eCap d per)

/-- The payload room of a packet (R225). -/
def dRoom (d : List Byte) (v6 : Bool) : Nat := dMtu d - (if v6 then 40 else 20) - 8 - 12 - 16

/-- The header template's IPV6 and VLAN bits, and its HLEN and CNAME_LEN (R216). -/
def tV6 (t : List Byte) : Bool := df t 0 8 8 == 1
/-- VLAN. -/
def tVlan (t : List Byte) : Bool := df t 0 9 9 == 1
/-- HLEN. -/
def tHlen (t : List Byte) : Nat := df t 0 6 0
/-- CNAME_LEN. -/
def tCname (t : List Byte) : Nat := df t 0 20 16
/-- HEADER. -/
def tHeader (t : List Byte) : List Byte := slice t 0x10 (tHlen t)
/-- Where the IP header starts in HEADER. -/
def tIp (t : List Byte) : Nat := if tVlan t then 18 else 14

/-- R217 items 1 to 6: whether its refusals are avoided. -/
def dCheckTransport (d t : List Byte) : Bool :=
  let h := tHeader t
  let ip := tIp t
  let et := beAt h (ip - 2) 2
  tHlen t == (if tV6 t then 62 else 42) + (if tVlan t then 4 else 0) &&
  (if tV6 t then et == 0x86DD && beAt h (ip + 6) 1 == 17
   else et == 0x0800 && beAt h ip 1 % 16 == 5 && beAt h (ip + 9) 1 == 17) &&
  (!tVlan t || beAt h 12 2 == 0x8100) &&
  !(decide (64 ≤ dPt d) && decide (dPt d ≤ 95)) &&
  decide (576 ≤ dMtu d ∧ dMtu d ≤ 9578 ∧ dMtu d + 18 + (if tVlan t then 4 else 0) ≤ 9600 ∧ 256 ≤ dRoom d (tV6 t)) &&
  (dSrMs d == 0 || tCname t != 0) &&
  decide (ceilDiv (dBuf d) 126976 + 9 ≤ dMaxSegs d)

end Sys2Proof.Machine
end

