-- ==== Sys2Proof/Machine/TimeBase.lean ====
section
/-!
DEFINITION. The time base: TB_COUNT, network time, the trigger comparators and the pulses per second (R273 to R285).
-/

namespace Sys2Proof.Machine

/-- The modulus of TB_OFFSET and of network time: 2^112 units of 2^-32 ns (R275). -/
def netMod : Nat := 2 ^ 112

/-- Network time N = TB_OFFSET + TB_COUNT × TB_RATE (R275). -/
def State.netTime (s : State) : Nat := (s.tb.offset + s.tick * s.tb.rate) % netMod

/-- Seconds of network time (R275). -/
def netSec (n : Nat) : Nat := n / (10 ^ 9 * 2 ^ 32) % 2 ^ 48
/-- Nanoseconds of network time (R275). -/
def netNs (n : Nat) : Nat := n / 2 ^ 32 % 10 ^ 9
/-- Sub-nanoseconds of network time, in 2^-16 ns (R275). -/
def netSub (n : Nat) : Nat := n / 2 ^ 16 % 2 ^ 16

/-- Stores the time base. -/
def State.setTb (x : TimeBase) (s : State) : State := { s with tb := x }

/-- TB_OFFSET takes a value; a write that moves N sets INT_STAT.STEP (R277). -/
def State.setOffset (v : Nat) (s : State) : State :=
  let v := v % netMod
  let moved := v ≠ s.tb.offset
  let s := s.setTb { s.tb with offset := v }
  if moved then s.raiseInt .timebase 0 3 0 else s

/-- Word `k` of TB_OFFSET as held by a path, or in force (R277). -/
def State.offsetWord (s : State) (p : Path) (k : Nat) : Nat :=
  match Tbl.get? s.tb.heldOff (pathKey p k) with
  | some w => w.toNat
  | none => bits s.tb.offset (32 * k + 31) (32 * k)

/-- A write of a word 0 to 2 of TB_OFFSET is held (R277). -/
def State.holdOffset (p : Path) (k : Nat) (v : Word) (s : State) : State :=
  s.setTb { s.tb with heldOff := Tbl.set s.tb.heldOff (pathKey p k) v }

/-- A write of word 3 of TB_OFFSET applies the whole value at a single tick (R277). -/
def State.applyOffset (p : Path) (v : Word) (s : State) : State :=
  let x := s.offsetWord p 0 + 2 ^ 32 * s.offsetWord p 1 + 2 ^ 64 * s.offsetWord p 2 + 2 ^ 96 * fld v 15 0
  let h := [0, 1, 2].foldl (fun t k => Tbl.erase t (pathKey p k)) s.tb.heldOff
  (s.setTb { s.tb with heldOff := h }).setOffset x

/-- TB_OFFSET_WRITE: the word-3 write. -/
def execTbOffsetWrite (p : Path) (value : Word) (s : State) : Result :=
  .next (if s.takes p then s.applyOffset p value else s)

/-- A held LO word, used up by the HI write that applies it (R38). -/
def State.takeLo (s : State) (p : Path) (lo : Nat) (d : Word) : Word × State :=
  (Tbl.getD s.heldLo (pathKey p lo) d, { s with heldLo := Tbl.erase s.heldLo (pathKey p lo) })

/-- A rate lies within 0.7992 to 0.8008 ns (R277). -/
def rateOk (r : Nat) : Bool := decide (7992 * 2 ^ 32 ≤ r * 10000) && decide (r * 10000 ≤ 8008 * 2 ^ 32)

/-- A write of TB_RATE_HI: the rate changes and TB_OFFSET keeps N continuous at this tick; a rate outside the range is
discarded (R277). -/
def State.applyRate (p : Path) (v : Word) (s : State) : State :=
  let (lo, s) := s.takeLo p Reg.tbRateLo (loWord s.tb.rate)
  let r := 2 ^ 32 * fld v 7 0 + lo.toNat
  if rateOk r then
    let o := (s.tb.offset + s.tick * s.tb.rate + (netMod - s.tick * r % netMod)) % netMod
    s.setTb { s.tb with rate := r, offset := o }
  else s.raiseErr .timebase 0 1 (Cap.reg p Reg.tbRateHi)

/-- TB_RATE_WRITE: the HI write. -/
def execTbRateWrite (p : Path) (value : Word) (s : State) : Result :=
  .next (if s.takes p then s.applyRate p value else s)

/-- A write of TB_STEP_HI moves TB_OFFSET by a signed number of ns (R277). -/
def State.applyStep (p : Path) (v : Word) (s : State) : State :=
  let (lo, s) := s.takeLo p Reg.tbStepLo 0
  let step := signed 64 (pair64 lo v)
  s.setOffset ((s.tb.offset + step * 2 ^ 32) % netMod).toNat

/-- TB_STEP_WRITE: the HI write. -/
def execTbStepWrite (p : Path) (value : Word) (s : State) : Result :=
  .next (if s.takes p then s.applyStep p value else s)

/-! ## Comparators (R282 to R284) -/

/-- PERIOD of a comparator in units of 2^-32 ns (R282). -/
def State.cmpPeriod (s : State) (n : Nat) : Nat :=
  65536 * (65536 * (s.reg (Reg.tbCmpPeriodNs n)).toNat + (s.reg (Reg.tbCmpPeriodFrac n)).toNat)

/-- PHASE of a comparator in units of 2^-32 ns. -/
def State.cmpPhase (s : State) (n : Nat) : Nat := 2 ^ 32 * (s.reg (Reg.tbCmpPhaseNs n)).toNat

/-- The least grid point at or above a time (R282, R283). -/
def gridFrom (period phase t : Nat) : Nat :=
  if t ≤ phase then phase else phase + ceilDiv (t - phase) period * period

/-- The least grid point above a time (R282). -/
def gridAbove (period phase t : Nat) : Nat :=
  if t < phase then phase else phase + ((t - phase) / period + 1) * period

/-- TB_CMP[n]_CTL.EN. -/
def State.cmpEn (s : State) (n : Nat) : Bool := flag (s.reg (Reg.tbCmpCtl n)) 0

/-- The register of word `k` of comparator `n`. -/
def cmpReg (n k : Nat) : Nat := Reg.tbCmpPeriodNs n + 4 * k

/-- TB_PPS_CTL names the comparator with EN at 1 (R283). -/
def State.ppsNames (s : State) (n : Nat) : Bool :=
  flag (s.reg Reg.tbPpsCtl) 8 && fld (s.reg Reg.tbPpsCtl) 4 0 == n

/-- A write of one word of a comparator (R283). `used`: a session names it. -/
def State.cmpWrite (p : Path) (n k : Nat) (v : Word) (used : Bool) (s : State) : State :=
  let refuse := s.raiseErr .timebase 0 1 (Cap.reg p (cmpReg n k))
  if k < 3 then
    if s.cmpEn n then refuse else s.setReg (cmpReg n k) (if k = 1 then v &&& 0xFFFF#32 else v)
  else if flag v 0 then
    if (s.reg (Reg.tbCmpPeriodNs n)).toNat < 1000 ∨ s.cmpPeriod n ≤ s.cmpPhase n then refuse
    else
      let s' := s.setReg (cmpReg n 3) (v &&& 3#32)
      if s.cmpEn n then s'
      else s'.setTb { s.tb with next := Tbl.set s.tb.next n (gridFrom (s.cmpPeriod n) (s.cmpPhase n) s.netTime) }
  else if s.cmpEn n ∧ (used ∨ s.ppsNames n) then refuse
  else (s.setReg (cmpReg n 3) (v &&& 3#32)).setTb { s.tb with next := Tbl.erase s.tb.next n }

/-- The tick at which network time first reaches a target. -/
def State.tickOf (s : State) (t : Nat) : Nat :=
  if t ≤ s.netTime ∨ s.tb.rate = 0 then s.tick else s.tick + ceilDiv (t - s.netTime) s.tb.rate

/-- TB_COUNT at the first tick at which network time has reached a target, in the past too, by the conversion in force. -/
def State.tickAt (s : State) (t : Nat) : Nat :=
  if t ≤ s.netTime ∧ s.tb.rate ≠ 0 then s.tick - (s.netTime - t) / s.tb.rate else s.tickOf t

/-- A match pulses every pawl that selects the comparator (R284, R361). -/
def State.pulsePawls (n : Nat) (s : State) : State :=
  (List.range s.part.quads).foldl (fun s q =>
    if flag (s.reg (Reg.pawlCmpSel q)) n then s.setPawl q { s.pawl q with ep := (s.pawl q).ep ||| 1#16 } else s) s

/-- PPS_OUT rises 6 TCLK after the match and falls WIDTH_US later (R285). -/
def State.ppsRise (s : State) : State :=
  let w := max 1 (fld (s.reg Reg.tbPpsCtl) 31 16)
  let s := if s.tb.ppsOut then s.emit (.pps false) else s
  (s.setTb { s.tb with ppsOut := true, ppsFall := s.tick + 6 + usTicks w }).emit (.pps true)

/-- What a match does inside the time base, to the pawls and to PPS_OUT (R282, R284, R285): at the first tick at which N
reaches the target, whose successor is the least grid point above N. -/
def State.cmpHit (n t : Nat) (s : State) : State :=
  let s := s.reach (s.tickOf t)
  let p := s.cmpPeriod n
  let b := word (2 ^ n)
  let s := s.setTb { s.tb with
    next := Tbl.set s.tb.next n (gridAbove p (s.cmpPhase n) s.netTime)
    hit := s.tb.hit ||| b
    skip := if t + p ≤ s.netTime then s.tb.skip ||| b else s.tb.skip }
  let s := if flag (s.reg (Reg.tbCmpCtl n)) 1 then s.raiseInt .timebase 0 1 0 else s
  let s := s.pulsePawls n
  if s.ppsNames n then s.ppsRise else s

/-! ## Pulses, the reference, and the tick -/

/-- PPS_OUT_PULSE_END (R285). -/
def State.ppsEnd (s : State) : State :=
  if s.tb.ppsOut then ((s.reach s.tb.ppsFall).setTb { s.tb with ppsOut := false }).emit (.pps false) else s
/-- PPS_OUT_PULSE_END. -/
def execPpsOutPulseEnd (s : State) : Result := .next s.ppsEnd

/-- PPS_IN_EDGE (R285): latches TB_COUNT, counts and raises PPS_IN; edges less than 1 µs apart, and edges in BRINGUP
(R420), are ignored. -/
def State.ppsIn (s : State) : State :=
  let near := match s.tb.ppsInAt with
    | some t => decide (s.tick < t + usTicks 1)
    | none => false
  if !s.up then s
  else if near then s.setTb { s.tb with ppsInAt := some s.tick }
  else
    (((s.setTb { s.tb with ppsInAt := some s.tick }).setReg64 Reg.tbPpsInLo s.tick).wrap Reg.tbPpsInCnt 1).raiseInt
      .timebase 0 2 0
/-- PPS_IN_EDGE. -/
def execPpsInEdge (s : State) : Result := .next s.ppsIn

/-- SDREF_W_LOSS (R274): the PLL runs on its hold and switches to SDREF_E, where it stays until POR. -/
def State.refLoss (s : State) : State :=
  if s.tb.refE ∨ s.dev.mode = .off then s
  else (s.setTb { s.tb with refE := true, pllLock := false }).raiseErr .timebase 0 0 Cap.none
/-- SDREF_W_LOSS. -/
def execSdrefWLoss (s : State) : Result := .next s.refLoss

/-- TB_PLL_LOCK_E (R274): the PLL has locked to SDREF_E. -/
def State.lockE (s : State) : State := if s.tb.refE then s.setTb { s.tb with pllLock := true } else s
/-- TB_PLL_LOCK_E. -/
def execTbPllLockE (s : State) : Result := .next s.lockE

/-- One tick of TCLK: TB_COUNT counts in every mode but OFF (R273). -/
def State.tickOne (s : State) : State := if s.dev.mode = .off then s else { s with tick := s.tick + 1 }

end Sys2Proof.Machine
end

