-- ==== Sys2Proof/Machine/StreamOps.lean ====
section
/-!
DEFINITION. The instances of the encode side, the decode side and the switch, session events (R76, R187), and the frame
period (R124).
-/

namespace Sys2Proof.Machine

/-! ## Instances -/

/-- An encode session. -/
def State.ses (s : State) (n : Nat) : Ses := Tbl.getD s.sessions n Ses.reset
/-- Stores an encode session. -/
def State.setSes (n : Nat) (x : Ses) (s : State) : State := { s with sessions := Tbl.set s.sessions n x }
/-- Stores a session's frame. -/
def State.setFrame (n : Nat) (f : Frame) (s : State) : State := s.setSes n { s.ses n with frame := some f }
/-- Stores a session's Governor state. -/
def State.setGov (n : Nat) (g : Gov) (s : State) : State := s.setSes n { s.ses n with gov := g }
/-- Stores a session's packetizer state. -/
def State.setPkt (n : Nat) (x : Pkt) (s : State) : State := s.setSes n { s.ses n with pkt := x }
/-- A physical stone at reset: the usable ones carry the logical stone of their number (assumption 13). -/
def Stone.reset (p : Part) (n : Nat) : Stone :=
  { role := if n < p.stonesUse then .usable else .spare, lstone := if n < p.stonesUse then n else 0, busy := false,
    ses := 0, row := 0, col := 0, since := 0, units := [], cache := [] }
/-- A physical stone. -/
def State.stone (s : State) (n : Nat) : Stone := Tbl.getD s.stones n (Stone.reset s.part n)
/-- Stores a physical stone. -/
def State.setStone (n : Nat) (x : Stone) (s : State) : State := { s with stones := Tbl.set s.stones n x }
/-- The physical stone of a logical one (R63); none where it is left unmapped (R121). -/
def State.stoneOf (s : State) (l : Nat) : Option Nat :=
  if s.noStone.contains l ∨ s.part.stonesUse ≤ l then none else some (Tbl.getD s.lmap l l)
/-- A Bolter. -/
def State.bolter (s : State) (b : Nat) : Bolter := Tbl.getD s.bolters b Bolter.reset
/-- Stores a Bolter. -/
def State.setBolter (b : Nat) (x : Bolter) (s : State) : State := { s with bolters := Tbl.set s.bolters b x }
/-- A buffer descriptor, by 8,192 × class + place. -/
def State.rbuf (s : State) (k : Nat) : RefBuf := Tbl.getD s.refs.bufs k RefBuf.reset
/-- Stores a buffer descriptor. -/
def State.setRbuf (k : Nat) (x : RefBuf) (s : State) : State := { s with refs := { s.refs with bufs := Tbl.set s.refs.bufs k x } }
/-- The pool's state of an owner. -/
def State.rses (s : State) (o : Nat) : RefSes := Tbl.getD s.refs.owners o RefSes.reset
/-- Stores the pool's state of an owner. -/
def State.setRses (o : Nat) (x : RefSes) (s : State) : State :=
  { s with refs := { s.refs with owners := Tbl.set s.refs.owners o x } }
/-- A lane, by 2 × queue + lane. -/
def State.lane (s : State) (l : Nat) : Lane := Tbl.getD s.leat.lanes l Lane.reset
/-- Stores a lane. -/
def State.setLane (l : Nat) (x : Lane) (s : State) : State := { s with leat := { s.leat with lanes := Tbl.set s.leat.lanes l x } }
/-- A decode session. -/
def State.dec (s : State) (n : Nat) : DecSes := Tbl.getD s.decs n DecSes.reset
/-- Stores a decode session. -/
def State.setDec (n : Nat) (x : DecSes) (s : State) : State := { s with decs := Tbl.set s.decs n x }
/-- A decode pipeline. -/
def State.pipe (s : State) (n : Nat) : Pipe := Tbl.getD s.pipes n Pipe.reset
/-- Stores a decode pipeline. -/
def State.setPipe (n : Nat) (x : Pipe) (s : State) : State := { s with pipes := Tbl.set s.pipes n x }
/-- A physical runner at reset, as the stones (assumption 13). -/
def Runner.reset (p : Part) (n : Nat) : Runner :=
  { role := if n < p.runnersUse then .usable else .spare, logical := if n < p.runnersUse then n else 0, lib := none,
    loading := none, inited := false, busy := false, unit := none, since := 0, failed := 0, resume := false, m := Micro.reset,
    units := 0, outNum := 0, stall := 0, xcyc := 0 }
/-- A physical runner. -/
def State.runner (s : State) (n : Nat) : Runner := Tbl.getD s.runners.phys n (Runner.reset s.part n)
/-- Stores a physical runner. -/
def State.setRunner (n : Nat) (x : Runner) (s : State) : State :=
  { s with runners := { s.runners with phys := Tbl.set s.runners.phys n x } }
/-- A library slot. -/
def State.lib (s : State) (k : Nat) : LibSlot := Tbl.getD s.runners.slots k LibSlot.empty
/-- Stores a library slot. -/
def State.setLib (k : Nat) (x : LibSlot) (s : State) : State :=
  { s with runners := { s.runners with slots := Tbl.set s.runners.slots k x } }
/-- The assignment in force of a logical runner. -/
def State.assign (s : State) (l : Nat) : Assign := Tbl.getD s.runners.force l ⟨0, 0, 0⟩
/-- The physical runner of a logical one; none where it is left unmapped (R213). -/
def State.runnerOf (s : State) (l : Nat) : Option Nat :=
  if s.runners.unmapped.contains l ∨ s.part.runnersUse ≤ l then none else some (Tbl.getD s.runners.map l l)
/-- An Ethernet port. -/
def State.port (s : State) (p : Nat) : Port := Tbl.getD s.net.ports p Port.reset
/-- Stores an Ethernet port. -/
def State.setPort (p : Nat) (x : Port) (s : State) : State := { s with net := { s.net with ports := Tbl.set s.net.ports p x } }

/-! ## Images that serve a codec (R181, R191) -/

/-- IMAGE_ID of a slot. -/
def LibSlot.id (l : LibSlot) : Nat := leAt l.image 4 1
/-- The field of the image header word at offset 4. -/
def LibSlot.word1 (l : LibSlot) (hi lo : Nat) : Nat := bits (leAt l.image 4 4) hi lo
/-- The field of the image header word at offset 8. -/
def LibSlot.word2 (l : LibSlot) (hi lo : Nat) : Nat := bits (leAt l.image 8 4) hi lo

/-- An encode image serves a codec and ENTROPY (R191, R208). -/
def encServes (id codec entropy : Nat) : Bool :=
  if codec = 1 then id == 0x01 || (id == 0x02 && entropy == 0) else if codec = 2 then id == 0x03 else id == 0x04

/-- A decode image serves a codec (R181). -/
def decServes (id codec : Nat) : Bool :=
  if codec = 1 then id == 0x11 || id == 0x12 else if codec = 2 then id == 0x13 else id == 0x14

/-- The logical runner placed on a side and target (R190). -/
def State.runnerAt (s : State) (side target : Nat) : Option Nat :=
  (List.range s.part.runnersUse).find? fun l => (s.assign l).side == side && (s.assign l).target == target

/-- The image that the runner of a side and target holds, where one is bound and loaded (R191). -/
def State.imageAt (s : State) (side target : Nat) : Option LibSlot := do
  let l ← s.runnerAt side target
  let n ← s.runnerOf l
  let k ← (s.runner n).lib
  if (s.runner n).loading.isNone then some (s.lib k) else none

/-! ## Periods and times -/

/-- The frame period in units of 2^-32 ns (R124). -/
def State.framePer (s : State) (d : List Byte) : Nat := (dDivider d + 1) * s.cmpPeriod (dTrig d)

/-- Units of 2^-32 ns in whole µs. -/
def netUs (n : Nat) : Nat := n / (1000 * 2 ^ 32)

/-- Frames are in progress: the frame has started and not completed. -/
def Ses.active (x : Ses) : Option Frame :=
  match x.frame with
  | some f => if f.done then none else some f
  | none => none

/-! ## Session events (R76, R145, R172, R237) -/

/-- Bytes 24 to 51 of an encode session event about a frame, with its preset and TB_COUNT at its T_k. -/
def State.sesHeadOf (s : State) (n frame preset t code dur lines : Nat) : List Byte :=
  let x := s.ses n
  leBytes 4 frame ++ [byte x.st.code, byte preset, byte code, 0] ++ leBytes 4 dur ++ leBytes 4 (netUs x.debt) ++
  leBytes 8 t ++ leBytes 2 lines ++ [0, 0]

/-- The preset and the TB_COUNT that a record shows: those of the session's frame. Before any frame has started the spec names none:
the record shows the descriptor's PRESET and 0 (DESIGN CHOICE, assumption 94). -/
def Ses.shown (x : Ses) : Nat × Nat :=
  match x.frame with
  | some f => (f.preset, f.tkTick)
  | none => (x.preset, 0)

/-- The same for the frame in progress or the last one. -/
def State.sesHead (s : State) (n frame code dur lines : Nat) : List Byte :=
  s.sesHeadOf n frame (s.ses n).shown.1 (s.ses n).shown.2 code dur lines

/-- A session event enters the router with its record formed, where its enable bit is set (R76, R363). -/
def State.sesEvent (n typ : Nat) (en : Bool) (payload : List Byte) (s : State) : State :=
  if en then s.send .session (1024 + n) (.sesRec typ 0 (padTo 40 payload)) else s

/-- The frame that an event of a session concerns; the next one, 0, before any has started (DESIGN CHOICE, assumption 94). -/
def Ses.frameNo (x : Ses) : Nat := match x.frame with
  | some f => f.k
  | none => x.next

/-- An event of R76. -/
def State.sesEvt (n typ code dur lines : Nat) (s : State) : State :=
  let x := s.ses n
  s.sesEvent n typ (bitOf (dEventEn x.desc) typ) (s.sesHead n x.frameNo code dur lines)

/-- An event of the Governor (R145). -/
def State.govEvt (n k : Nat) (s : State) : State :=
  let x := s.ses n
  let row := match x.frame with
    | some f => f.firstFloor.getD 0xFFFF
    | none => 0xFFFF
  s.sesEvent n (0x20 + k) (bitOf (dGevEn x.desc) k)
    (s.sesHead n x.frameNo 0 0 0 ++ leBytes 4 x.gov.cNow ++ leBytes 4 (sat32 (x.gov.full / 65536)) ++ leBytes 2 row)

/-- An event of the reference pool (R172). -/
def State.refEvt (n k frame buf count : Nat) (s : State) : State :=
  let x := s.ses n
  s.sesEvent n (0x30 + k) (bitOf (dRevEn x.desc) k)
    (s.sesHead n x.frameNo 0 0 0 ++ leBytes 4 frame ++ leBytes 2 buf ++ leBytes 2 (sat count 0xFFFF))

/-- An event of the transport (R237). -/
def State.pktEvt (n k idx count : Nat) (s : State) : State :=
  let x := s.ses n
  s.sesEvent n (0x40 + k) (bitOf (dTevEn x.desc) k)
    (s.sesHead n x.frameNo 0 0 0 ++ leBytes 4 (idx % 2 ^ 32) ++ leBytes 4 count)

/-- A command comes by a register path, or from a CONTROL step in progress that passes it to its session's device (R57,
R331). -/
def State.byStep (s : State) (b : CmdBy) (typ cmd n : Nat) : Bool :=
  match b with
  | .reg p => s.via p
  | .channel c => (s.chan c).run.any fun r => r.step.op == 4 && r.fin.isNone && r.ending.isNone && r.phase == .start &&
      r.entry.getD 0 0 % 16 == typ && r.entry.getD 1 0 % 512 == n && r.step.p0 % 256 == cmd

/-- The session command result of a register path, or the end of the CONTROL step that brought it (R59). -/
def State.sesAnswer (b : CmdBy) (reg ses cmd code : Nat) (s : State) : State :=
  match b with
  | .reg p => s.setReg (bank p reg) (pack [(0, ses), (12, cmd), (16, code)])
  | .channel c =>
    match (s.chan c).run with
    | some r => s.setChan c { s.chan c with run := some { r with fin := some ⟨if code = 0 then 0 else 0x0D, code, 0⟩ } }
    | none => s

end Sys2Proof.Machine
end

