-- ==== Sys2Proof/Machine/RefOps.lean ====
section
/-!
DEFINITION. The reference pool: geometry classes, bindings, marks, acknowledgement, loss and the LOST map (R147 to R166,
R172, R173). Owners are encode sessions 0 to 511 and decode sessions 512 to 639.
-/

namespace Sys2Proof.Machine

/-! ## Geometry classes (R147 to R149) -/

/-- REF_CLS[i]_GEOM. -/
def State.clsGeom (s : State) (i : Nat) : Word := s.reg (Reg.refClsGeom i)
/-- EN of a class. -/
def State.clsEn (s : State) (i : Nat) : Bool := decide (i < 16) && flag (s.clsGeom i) 31
/-- W64 of a class. -/
def State.clsW (s : State) (i : Nat) : Nat := fld (s.clsGeom i) 7 0
/-- H64 of a class. -/
def State.clsH (s : State) (i : Nat) : Nat := fld (s.clsGeom i) 15 8
/-- Bytes of one component: the b of R148. -/
def State.clsB (s : State) (i : Nat) : Nat := if flag (s.clsGeom i) 16 then 2 else 1
/-- BUFS of a class. -/
def State.clsBufs (s : State) (i : Nat) : Nat := fld (s.reg (Reg.refClsCount i)) 13 0
/-- SBLKS of a class. -/
def State.clsSblks (s : State) (i : Nat) : Nat := fld (s.reg (Reg.refClsCount i)) 25 16
/-- The size of a buffer (R148). -/
def bufSize (b w h : Nat) : Nat := roundUp (4096 * w * h * b + 2048 * w * h * b + 256 * w * h + 2048) 4096
/-- The size of a session block (R148). -/
def sblkSize (b w : Nat) : Nat := roundUp (2 * (8 * 1024 + 64 * w * (1152 * b + 256) / 64)) 4096
/-- The size of a class's buffers. -/
def State.clsBufSize (s : State) (i : Nat) : Nat := bufSize (s.clsB i) (s.clsW i) (s.clsH i)
/-- The size of a class's session blocks. -/
def State.clsSblkSize (s : State) (i : Nat) : Nat := sblkSize (s.clsB i) (s.clsW i)
/-- The region base of a class. -/
def State.clsBase (s : State) (i : Nat) : Nat := s.reg64 (Reg.refClsBaseLo i)

/-- The key of a buffer in the pool's table. -/
def bufKey (cls place : Nat) : Nat := 8192 * cls + place
/-- The class of a buffer key. -/
def keyCls (k : Nat) : Nat := k / 8192
/-- The number of a buffer among all descriptors: its place after those of the lower classes (assumption 29). -/
def State.bufNum (s : State) (k : Nat) : Nat :=
  ((List.range (keyCls k)).map fun i => if s.clsEn i then s.clsBufs i else 0).sum + k % 8192
/-- The key of a descriptor number (assumption 29). -/
def State.bufOfNum (s : State) (n : Nat) : Option Nat :=
  (List.range 16).findSome? fun i =>
    let lo := s.bufNum (bufKey i 0)
    if s.clsEn i && decide (lo ≤ n) && decide (n < lo + s.clsBufs i) then some (bufKey i (n - lo)) else none
/-- The address of a buffer (R147). -/
def State.bufBase (s : State) (k : Nat) : Nat := s.clsBase (keyCls k) + (k % 8192) * s.clsBufSize (keyCls k)
/-- The address of a session block (R147). -/
def State.sblkBase (s : State) (cls j : Nat) : Nat :=
  s.clsBase cls + s.clsBufs cls * s.clsBufSize cls + j * s.clsSblkSize cls

/-- Unbound buffers of a class. -/
def State.clsFree (s : State) (i : Nat) : List Nat :=
  (List.range (s.clsBufs i)).map (bufKey i) |>.filter fun k => (s.rbuf k).owner == 0x3FF
/-- Unbound session blocks of a class. -/
def State.clsFreeSblks (s : State) (i : Nat) : List Nat :=
  (List.range (s.clsSblks i)).filter fun j => !(s.refs.owners.any fun e => e.2.cls == i && e.2.sblk == some j)
/-- A buffer or session block of the class is bound. -/
def State.clsBound (s : State) (i : Nat) : Bool :=
  s.refs.bufs.any (fun e => keyCls e.1 == i && e.2.owner != 0x3FF) ||
  s.refs.owners.any fun e => e.2.cls == i && e.2.sblk.isSome

/-- The register of word `k` of REF_CLS[i]. -/
def clsReg (i k : Nat) : Nat := Reg.refClsGeom i + 4 * k
/-- The writable bits of the words of REF_CLS[i]. -/
def clsMask (k : Nat) : Word :=
  if k = 0 then 0x8001FFFF#32 else if k = 1 then 0xFFFFF000#32 else if k = 2 then 0xFFFFFFFF#32 else 0x03FF3FFF#32

/-- BUFS over the enabled classes (R149). -/
def State.bufsSum (s : State) : Nat := ((List.range 16).map fun i => if s.clsEn i then s.clsBufs i else 0).sum

/-- A write of word `k` of REF_CLS[i] (R149, R173): discarded with CFG for a geometry out of range, for a change of a bound
class, and where the buffers of enabled classes would pass 8,192. -/
def State.clsApply (p : Path) (i k : Nat) (v : Word) (s : State) : State :=
  let v := v &&& clsMask k
  let s' := s.setReg (clsReg i k) v
  let range := k ≠ 0 ∨ (2 ≤ fld v 7 0 ∧ fld v 7 0 ≤ 128 ∧ 2 ≤ fld v 15 8 ∧ fld v 15 8 ≤ 68)
  let same := s.reg (clsReg i k) = v
  if range ∧ (same ∨ s.clsBound i = false) ∧ (s'.bufsSum ≤ 8192 ∨ s'.clsEn i = false) then s'
  else s.raiseErr .refpool 0 7 (Cap.reg p (clsReg i k))

/-- A write of word `k` of REF_CLS[i]: BASE_LO is held until BASE_HI applies both (R38); each goes by the rules of `clsApply`. -/
def State.clsWrite (p : Path) (i k : Nat) (v : Word) (s : State) : State :=
  if k = 1 then { s with heldLo := Tbl.set s.heldLo (pathKey p (clsReg i 1)) (v &&& clsMask 1) }
  else if k = 2 then
    let (lo, s) := s.takeLo p (clsReg i 1) (s.reg (clsReg i 1))
    let same := s.reg (clsReg i 1) = lo ∧ s.reg (clsReg i 2) = v
    if same ∨ s.clsBound i = false then (s.setReg (clsReg i 1) lo).setReg (clsReg i 2) v
    else s.raiseErr .refpool 0 7 (Cap.reg p (clsReg i 2))
  else s.clsApply p i k v

/-- REF_CLS_WRITE. -/
def execRefClsWrite (p : Path) (cls word : Nat) (value : Word) (s : State) : Result :=
  .next (if s.coreTakes p ∧ cls < 16 ∧ word < 4 then s.clsWrite p cls word value else s)

/-! ## Binding (R152) -/

/-- A class can give `n` buffers and, for an encode session, a session block. -/
def State.refRoom (s : State) (cls n : Nat) (blk : Bool) : Bool :=
  decide (n ≤ (s.clsFree cls).length) && (!blk || !(s.clsFreeSblks cls).isEmpty)

/-- Binds `n` buffers and perhaps a session block of a class to an owner. -/
def State.refBind (owner cls n : Nat) (blk : Bool) (s : State) : State :=
  let ks := (s.clsFree cls).take n
  let x := { RefSes.reset with cls := cls, bufs := ks, sblk := if blk then (s.clsFreeSblks cls).head? else none }
  (ks.foldl (fun s k => s.setRbuf k { RefBuf.reset with owner := owner }) s).setRses owner x

/-- Unbinds an owner: each buffer returns to its class once its HELD is 0 (R152). -/
def State.refRelease (owner : Nat) (s : State) : State :=
  let x := s.rses owner
  (x.bufs.foldl (fun s k =>
    let b := s.rbuf k
    s.setRbuf k (if b.held = 0 then RefBuf.reset else { RefBuf.reset with owner := owner, held := b.held })) s).setRses
      owner RefSes.reset

/-- Counts HELD up, saturating at 255 (R153). -/
def State.refHold (k : Nat) (s : State) : State := s.setRbuf k { s.rbuf k with held := sat ((s.rbuf k).held + 1) 255 }

/-- Counts HELD down; a buffer whose owner has gone returns to its class at 0 (R152, R153). -/
def State.refUnhold (k : Nat) (s : State) : State :=
  let b := s.rbuf k
  let b' := { b with held := b.held - 1 }
  s.setRbuf k (if b'.held = 0 ∧ ¬ (s.rses b.owner).bufs.contains k then RefBuf.reset else b')

/-- The 64×64 blocks of a class's buffers. -/
def State.clsBlocks (s : State) (i : Nat) : Nat := s.clsW i * s.clsH i

/-- Where a buffer's LOST map and trailer lie (R148). -/
def State.mapBase (s : State) (k : Nat) : Nat :=
  let n := s.clsBlocks (keyCls k)
  s.bufBase k + 6144 * n * s.clsB (keyCls k) + 256 * n

/-- The bytes of a LOST map of `n` blocks: block `j` at bit `j` of the map, the least significant bit first (assumption 102). -/
def lostMap (n : Nat) (l : List Nat) : List Byte :=
  (List.range (ceilDiv n 8)).map fun i => byte ((List.range 8).map fun j => if l.contains (8 * i + j) then 2 ^ j else 0).sum

/-- The master ID of the reference pool (R471). -/
def refMaster : Nat := 0x121

/-- The pool writes the LOST map of a buffer as it stands (R165). -/
def State.mapWrite (k : Nat) (s : State) : State :=
  s.writeBytes refMaster 0x1 (s.mapBase k) (lostMap (s.clsBlocks (keyCls k)) (s.rbuf k).map)

/-- A buffer that the pool can take: bound to the owner, with no mark and HELD at 0 (R152). -/
def State.refSpare (s : State) (owner : Nat) : Option Nat :=
  (s.rses owner).bufs.find? fun k => let b := s.rbuf k; !b.temp && !b.short && !b.long && b.held == 0

/-- Takes a buffer for a new picture, clearing its LOST map in part DRAM first (R150, R152, R153). -/
def State.refTake (owner frame num : Nat) (s : State) : Option Nat × State :=
  match s.refSpare owner with
  | none => (none, s)
  | some k => (some k, (s.setRbuf k { RefBuf.reset with owner := owner, temp := true, frame := frame, order := num }).writeLines
      refMaster 0x1 (s.mapBase k) (List.replicate (ceilDiv (s.clsBlocks (keyCls k)) 8) 0))

/-! ## The anchor and the choice of references (R154, R156) -/

/-- Marked buffers of an owner, newest first. -/
def State.refMarked (s : State) (owner : Nat) (p : RefBuf → Bool) : List Nat :=
  ((s.rses owner).bufs.filter fun k => p (s.rbuf k)).mergeSort fun a b => decide ((s.rbuf b).order ≤ (s.rbuf a).order)

/-- n_x of an encode session (R166). -/
def State.refNx (s : State) (n : Nat) : Nat :=
  let d := (s.ses n).desc
  nX d (s.framePer d)

/-- The anchor: the newest LONG that is ACK, not LOST, with at most n_x bits in its LOST map (R154). -/
def State.anchor (s : State) (n : Nat) : Option Nat :=
  (s.refMarked n fun b => b.long && b.ack && !b.lost && decide (b.map.length ≤ s.refNx n)).head?

/-- The references of the next picture outside recovery (R156). -/
def State.refChoose (s : State) (n nref : Nat) : List Nat :=
  ((s.refMarked n fun b => b.short && !b.lost) ++ (s.refMarked n fun b => b.long && !b.lost)).take nref

/-- The newest reference picture of a session. -/
def State.refNewest (s : State) (n : Nat) : Option Nat := (s.refMarked n fun b => b.short || b.long).head?

/-! ## Commit (R153 to R155) -/

/-- A buffer leaves TEMP, SHORT and LONG, and with them ACK and LOST (R153). -/
def RefBuf.unmark (b : RefBuf) : RefBuf := { b with temp := false, short := false, long := false, ack := false, lost := false }

/-- Unmarks a buffer. -/
def State.refUnmark (k : Nat) (s : State) : State := s.setRbuf k (s.rbuf k).unmark

/-- The oldest SHORT leaves while there are more than NSHORT (R153). -/
def State.refTrimShort (n most : Nat) (s : State) : State :=
  ((s.refMarked n (·.short)).drop most).foldl (fun s k => s.refUnmark k) s

/-- One LONG leaves when there are more than NLONG: the oldest LOST one, else the oldest that is not the anchor (R154). -/
def State.refTrimLong (n most : Nat) (s : State) : State :=
  let l := (s.refMarked n (·.long)).reverse
  if l.length ≤ most then s
  else
    match l.find? (fun k => (s.rbuf k).lost) with
    | some k => s.refUnmark k
    | none =>
      match l.find? (fun k => some k != s.anchor n) with
      | some k => s.refUnmark k
      | none => s

/-- The picture of a number. -/
def RefSes.pic? (x : RefSes) (num : Nat) : Option RefPic := x.pics.find? fun p => p.num == num

/-- Changes the picture of a number. -/
def State.refPicMap (n num : Nat) (f : RefPic → RefPic) (s : State) : State :=
  let x := s.rses n
  s.setRses n { x with pics := x.pics.map fun p => if p.num = num then f p else p }

/-- The commit of a picture: LOST pictures are unmarked, the picture is marked, and the limits apply (R155). A recovery
picture raises RECOVERED. -/
def State.refCommit (n k : Nat) (s : State) : State :=
  let d := (s.ses n).desc
  let x := s.rses n
  let b := s.rbuf k
  match x.pic? b.order with
  | none => s.refUnmark k
  | some p =>
    let s := (x.bufs.filter fun j => let b := s.rbuf j; (b.short || b.long) && b.lost).foldl (fun s j => s.refUnmark j) s
    let lost := p.lost || b.lost
    let b' := if p.isRef then { b with temp := false, short := !p.long, long := p.long, slot := p.slot, lost := lost
                                       ack := p.ack && !lost }
              else b.unmark
    let y := s.rses n
    let s := if p.isRef && p.lost then s.setRses n { y with losses := sat32 (y.losses + 1) } else s
    let s := ((s.setRbuf k b').refTrimShort n (dNshort d)).refTrimLong n (dNlong d)
    if p.recov then
      let y := s.rses n
      (s.setRses n { y with recovs := sat32 (y.recovs + 1) }).refEvt n 1 p.frame (s.bufNum k) 0
    else s

/-! ## Acknowledgement (R159, R160) -/

/-- Every packet of a picture has been reported received (R159). -/
def RefSes.received (x : RefSes) (p : RefPic) : Bool :=
  p.count != 0 && decide (p.count ≤ 2048) && (List.range p.count).all fun i => x.got.contains (p.first + i)

/-- One pass in which pictures become ACK, oldest first, so that a picture that waits only for another follows it at once
(R160). -/
def State.refAcks (n : Nat) (s : State) : State :=
  (s.rses n).pics.reverse.foldl (fun s p =>
    let x := s.rses n
    let refsOk := p.alone || p.refs.all fun r => match x.pic? r with
      | some q => q.ack
      | none => false
    if !p.ack && !p.lost && x.received p && refsOk then
      let s := s.refPicMap n p.num fun p => { p with ack := true }
      let b := s.rbuf p.buf
      let s := if b.order = p.num ∧ (b.short ∨ b.long) ∧ b.owner = n then s.setRbuf p.buf { b with ack := true } else s
      let y := s.rses n
      s.setRses n { y with acks := (y.acks + 1) % 2 ^ 32 }
    else s) s

/-- The received window: the last 4,096 packets sent (R159). -/
def refWindow (next idx : Nat) : Bool := decide (idx < next) && decide (next ≤ idx + 4096)

/-- Packets reported received (R159): their bits are set, and a loss that waits for one of them is called off (R161). -/
def State.refGot (n : Nat) (idx : List Nat) (s : State) : State :=
  let x := s.rses n
  let next := (s.ses n).pkt.next
  let new := idx.filter fun i => refWindow next i && !x.got.contains i
  (s.setRses n { x with got := new ++ x.got.filter (refWindow next), waits := x.waits.filter fun w => !new.contains w.1 }).refAcks n

/-- The last packet of a picture has left the Sluice: its first index and its count (R159, R228). -/
def State.refSent (n frame first count : Nat) (s : State) : State :=
  match (s.rses n).pics.find? (fun p => p.frame == frame) with
  | none => s
  | some p =>
    let s := s.refPicMap n p.num fun p => { p with first := first, count := count }
    let b := s.rbuf p.buf
    let s := if b.order = p.num ∧ b.owner = n then
      s.setRbuf p.buf { b with rtpFirst := first % 65536, rtpCount := sat count 65535 } else s
    s.refAcks n

/-! ## Loss and recovery (R161 to R164) -/

/-- A set of picture numbers with every picture that predicted from one of them, directly or through others; pictures are
taken oldest first. -/
def lostClosure (base : List Nat) (pics : List RefPic) : List Nat :=
  pics.reverse.foldl (fun l p => if l.contains p.num || p.refs.any l.contains then (if l.contains p.num then l else l ++ [p.num]) else l) base

/-- A cycle ends without a recovery (R164); NO_ACK_REF names the picture concerned and its buffer (R172), where there is one. -/
def State.refNoAnchor (n frame buf : Nat) (s : State) : State :=
  let x := s.rses n
  let d := (s.ses n).desc
  let s := s.setRses n { x with cycle := none, nextCyc := (s.ses n).next, force := dRefW d == 0 || x.force }
  (s.raiseErr .refpool 0 4 (Cap.obj n)).refEvt n 2 frame buf 0

/-- The buffer index that an event shows for a frame of a session: 0x1FFF for none (R172; assumption 103). -/
def State.refBufOf (s : State) (n frame : Nat) (base : List Nat) : Nat :=
  (((s.rses n).pics.find? fun p => p.frame == frame && base.contains p.num).map fun p => s.bufNum p.buf).getD 0x1FFF

/-- The marks of a loss whose first pictures are `base`, concerning a frame: with an anchor that stays not LOST, they and
what predicted from them become LOST and a recovery is pending; otherwise the cycle ends (R161). -/
def State.refMarkLost (n frame : Nat) (base : List Nat) (s : State) : State :=
  let x := s.rses n
  let all := lostClosure base x.pics
  let buf := s.refBufOf n frame base
  match s.anchor n with
  | none => s.refNoAnchor n frame buf
  | some a =>
    if all.contains (s.rbuf a).order then s.refNoAnchor n frame buf
    else
      let hit := x.bufs.filter fun k => let b := s.rbuf k; (b.short || b.long) && all.contains b.order
      let new := (hit.filter fun k => !(s.rbuf k).lost).length
      let s := hit.foldl (fun s k => s.setRbuf k { s.rbuf k with lost := true }) s
      let s := s.setRses n { x with pics := x.pics.map (fun p => if all.contains p.num then { p with lost := true } else p),
                                    recover := true, losses := sat32 (x.losses + new) }
      s.refEvt n 0 frame buf new

/-- A packet is lost (R161). A loss of a packet of a non-reference picture changes no mark. -/
def State.pktLoss (n idx : Nat) (s : State) : State :=
  let x := s.rses n
  if x.gone.contains idx ∨ x.got.contains idx then s
  else
    let s := s.setRses n { x with gone := idx :: x.gone, waits := x.waits.filter fun w => w.1 != idx }
    match (Tbl.get? (s.ses n).pkt.index idx).bind fun e => x.pics.find? fun p => p.frame == e.frame with
    | none => s
    | some p => if p.isRef then s.refMarkLost n p.frame [p.num] else s

/-- A report or a generic NACK shows packets not received: lost at once, or after LOSS_WAIT_MS (R161). -/
def State.refMissing (n : Nat) (idx : List Nat) (s : State) : State :=
  let w := dLossWait (s.ses n).desc
  let idx := idx.filter fun i => refWindow (s.ses n).pkt.next i
  if w = 0 then idx.foldl (fun s i => s.pktLoss n i) s
  else
    let x := s.rses n
    let new := idx.filter fun i => !(x.got.contains i || x.gone.contains i || x.waits.any fun e => e.1 == i)
    s.setRses n { x with waits := x.waits ++ new.map fun i => (i, s.tick + msTicks w) }

/-- A PLI: every SHORT and LONG that is not ACK is LOST (R161). -/
def State.refPli (n : Nat) (s : State) : State :=
  let x := s.rses n
  let base := (x.bufs.filter fun k => let b := s.rbuf k; (b.short || b.long) && !b.ack).map fun k => (s.rbuf k).order
  s.refMarkLost n (s.ses n).frameNo base

/-- PACKET_LOST (R161): LOSS_WAIT_MS has passed with no report of the packet received. -/
def State.packetLost (n : Nat) (seq : Nat) (s : State) : State :=
  match (s.rses n).waits.find? (fun w => w.1 % 65536 == seq) with
  | none => s
  | some w => if s.coreUp then (s.reach w.2).pktLoss n w.1 else s

/-- PACKET_LOST. -/
def execPacketLost (session : Nat) (seq : BitVec 16) (s : State) : Result := .next (s.packetLost session seq.toNat)

/-! ## Lines that fail their check (R165, R166) -/

/-- Blocks of a buffer become unavailable: their map bits are set, and where the buffer is the session's newest reference
they await R166. -/
def State.refRegion (k : Nat) (blocks : List Nat) (s : State) : State :=
  let b := s.rbuf k
  let new := blocks.filter fun j => !b.map.contains j
  if new.isEmpty then s
  else
    let n := b.owner
    let newest := s.refNewest n
    let s := (s.setRbuf k { b with map := (b.map ++ new).mergeSort }).mapWrite k
    let s := (s.addSat Reg.refRegions 32 new.length).raiseErr .refpool 0 3 (Cap.obj (if n < 512 then n else n - 512))
    if n < 512 then
      let x := s.rses n
      let s := if newest = some k then s.setRses n { x with pend := (x.pend ++ new.filter fun j => !x.pend.contains j).mergeSort }
               else s
      s.refEvt n 3 b.frame (s.bufNum k) new.length
    else s

/-- A LOST map read fails: the whole buffer is LOST, with no recovery, and MAP_ERR is raised (R165). -/
def State.refMapErr (k : Nat) (cap : Cap) (s : State) : State :=
  let b := s.rbuf k
  let s := if b.temp ∨ b.short ∨ b.long then
      (s.setRbuf k { b with lost := true, ack := false }).refPicMap b.owner b.order fun p => { p with lost := true }
    else s
  s.raiseErr .refpool 0 6 cap

/-! ## What the bitstream tells (R153 to R155, R158) -/

/-- A reference picture of a frame becomes LONG at its commit (R153). -/
def longAt (d : List Byte) (frame : Nat) (recov : Bool) : Bool := recov || (dLtInt d != 0 && frame % dLtInt d == 0)

/-- The SHORT and the LONG pictures, newest first, that a commit leaves of those in force now: LOST ones go (R155). -/
def State.refStay (s : State) (n : Nat) : List Nat × List Nat :=
  (s.refMarked n fun b => b.short && !b.lost, s.refMarked n fun b => b.long && !b.lost)

/-- The LONG buffers that stay when one more commits (R154). -/
def State.refStayLong (s : State) (n most : Nat) (l : List Nat) : List Nat :=
  if l.length + 1 ≤ most then l
  else match l.reverse.find? fun k => some k != s.anchor n with
    | some k => l.filter (· != k)
    | none => l

/-- The slot of a picture that becomes a reference (R158): for a LONG the lowest free of its NLONG, for an AV1 SHORT the next in
rotation; AV1 places LONG slots at 8 − NLONG. -/
def State.refSlot (s : State) (n : Nat) (long : Bool) : Nat :=
  let d := (s.ses n).desc
  let base := if dCodec d = 3 then 8 - dNlong d else 0
  if long then
    let used := (s.refStayLong n (dNlong d) (s.refStay n).2).map fun k => (s.rbuf k).slot
    ((List.range (dNlong d)).map (base + ·)).find? (fun i => !used.contains i) |>.getD base
  else ((s.rses n).rot + 1) % max 1 (dNshort d)

/-- The operations by which a picture's slice headers bring an AVC decoder from what it was told to the sets that the pool will hold at
the picture's commit (R158). `num` is the picture's number, `first` that it is the first reference after the IDR. -/
def State.mmcoFor (s : State) (n num : Nat) (long first : Bool) (slot : Nat) : List Mmco :=
  let d := (s.ses n).desc
  let x := s.rses n
  let (sh, lo) := s.refStay n
  let sh := if long then sh else sh.take (dNshort d - 1)
  let lo := if long then s.refStayLong n (dNlong d) lo else lo
  let orders := fun (l : List Nat) => l.map fun k => (s.rbuf k).order
  (if first then [.maxLong (dNlong d)] else []) ++
  ((x.tellShort.filter fun o => o != num && !(orders sh).contains o).map Mmco.unmarkShort) ++
  ((x.tellLong.filter fun e => !(orders lo).contains e.1).map fun e => Mmco.unmarkLong e.2) ++
  (if long then [.becomeLong slot] else [])

/-- What a decoder has been told once a picture's headers are formed. -/
def State.refTell (n num : Nat) (isRef long : Bool) (slot : Nat) (s : State) : State :=
  let d := (s.ses n).desc
  let x := s.rses n
  let (sh, lo) := s.refStay n
  let sh := if isRef && !long then sh.take (dNshort d - 1) else sh
  let lo := if isRef && long then s.refStayLong n (dNlong d) lo else lo
  let short := sh.map fun k => (s.rbuf k).order
  let longs := lo.map fun k => ((s.rbuf k).order, (s.rbuf k).slot)
  s.setRses n { x with tellShort := if isRef && !long then num :: short else short
                       tellLong := if isRef && long then (num, slot) :: longs else longs
                       rot := if isRef && !long then slot else x.rot }

/-- An entry of a reference picture set (R158). -/
def State.rpsOf (s : State) (refs : List Nat) (msb : Bool) (k : Nat) : RpsEntry :=
  { poc := (s.rbuf k).frame, used := refs.contains k, msbSent := msb }

/-- The slots that an AV1 frame header names (R158, R162): the newest SHORT pictures, the anchor or newest LONG, the remaining LONG
pictures, and LAST for what remains; a recovery picture names the anchor's slot throughout. -/
def State.av1Refs (s : State) (n : Nat) (refs : List Nat) (recov : Bool) : List Nat :=
  let slot := fun k => (s.rbuf k).slot
  match refs with
  | [] => []
  | r :: _ =>
    if recov then List.replicate 7 (slot r)
    else
      let (sh, lo) := s.refStay n
      let last := slot (sh.headD r)
      let gold := match s.anchor n with
        | some a => some a
        | none => lo.head?
      let rest := lo.filter fun k => some k != gold
      let nth := fun (l : List Nat) i => (l[i]?.map slot).getD last
      [last, nth sh 1, nth sh 2, (gold.map slot).getD last, nth rest 0, nth rest 1, nth rest 2]

/-- nal_unit_type: IDR and the other pictures of AVC; IDR_N_LP, CRA, TRAIL_R, TRAIL_N and RASL of HEVC (R106). PRESUMED numbers
(assumption 28). A later key picture of AVC is no IDR, which would take every reference from a decoder (R158; assumption 104). -/
def nalTypeOf (codec k : Nat) (cls : PicCls) (isRef leads : Bool) : Nat :=
  if codec = 1 then (if k = 0 then 5 else 1)
  else if cls = .key then (if k = 0 then 20 else 21)
  else if leads then 8 else if isRef then 1 else 0

/-- What the slice headers of a picture carry (R105, R106, R108, R158, R162). -/
def State.sliceFor (s : State) (n num k : Nat) (cls : PicCls) (isRef recov refresh leads : Bool) (refs : List Nat) (long : Bool)
    (slot : Nat) : SliceHead :=
  let d := (s.ses n).desc
  let before := ((s.rses n).pics.filter fun p => p.isRef && p.num != num).length
  let (sh, lo) := (s.refMarked n (·.short), s.refMarked n (·.long))
  let mvp := dCodec d == 2 && !dLow d && !refresh && cls != .key
  { nalType := nalTypeOf (dCodec d) k cls isRef leads, refIdc := b2n isRef, cls := cls, poc := k, frameNum := before
    list0 := refs.map fun r => (s.rbuf r).order, spatialDirect := true
    mmco := if dCodec d = 1 ∧ isRef ∧ k ≠ 0 then s.mmcoFor n num long (before == 1) slot else []
    shortSet := if dCodec d = 2 ∧ k ≠ 0 then sh.map (s.rpsOf refs false) else []
    longSet := if dCodec d = 2 ∧ k ≠ 0 then lo.map (s.rpsOf refs true) else []
    temporalMvp := mvp, collocated := if mvp && recov then refs.head?.map fun r => (s.rbuf r).order else none
    sao := dCodec d == 2, deblocking := true }

/-! ## The picture that starts (R156, R162 to R166) -/

/-- The pool takes a picture in: its number, buffer and references, HELD on each of them, and what it becomes (R150, R153, R156). -/
def State.refStart (n frame : Nat) (refs : List Nat) (isRef alone recov : Bool) (s : State) : Option Nat × State :=
  let num := (s.rses n).pics.length
  let long := isRef && longAt (s.ses n).desc frame recov
  let slot := s.refSlot n long
  let (k, s) := s.refTake n frame num
  match k with
  | none => (none, s)
  | some k =>
    let s := refs.foldl (fun s r => s.refHold r) s
    let x := s.rses n
    let p : RefPic := { num := num, frame := frame, buf := k, isRef := isRef, refs := refs.map fun r => (s.rbuf r).order,
                        alone := alone, recov := recov, long := long, slot := slot, first := 0, count := 0, ack := false,
                        lost := refs.any fun r => match x.pic? (s.rbuf r).order with
                          | some q => q.lost
                          | none => false }
    (some k, s.setRses n { x with pics := p :: x.pics })

/-- The picture no longer predicts: HELD ends on its references (R153). -/
def State.refEnd (refs : List Nat) (s : State) : State := refs.foldl (fun s r => s.refUnhold r) s

end Sys2Proof.Machine
end

