-- ==== Sys2Proof/Machine/SwitchOps.lean ====
section
/-!
DEFINITION. The switch: ports and their modes, packet memory, classification by the forwarding tables, admission to egress
queues, the mirror, and where a received frame goes (R240 to R259).
-/

namespace Sys2Proof.Machine

/-! ## Ports (R240, R241) -/

/-- QUAD_CFG of a quad. -/
def State.quadCfg (s : State) (q : Nat) : Word := s.reg (Reg.quadCfg q)
/-- ROLE of a quad. -/
def State.quadRole (s : State) (q : Nat) : Nat := fld (s.quadCfg q) 1 0
/-- PMODE of a quad. -/
def State.quadMode (s : State) (q : Nat) : Nat := fld (s.quadCfg q) 4 2
/-- The two quads of a PMODE 5 pair agree in ROLE, PMODE, MEDIUM and FEC settings (R241). -/
def State.pairAgrees (s : State) (q : Nat) : Bool :=
  let a := s.quadCfg (q / 2 * 2)
  let b := s.quadCfg (q / 2 * 2 + 1)
  decide (q / 2 * 2 + 1 < s.part.quads) && fld a 5 0 == fld b 5 0 && flag a 7 == flag b 7
/-- Quad `q` has an Ethernet port at lane `k` (R241). -/
def State.hasPort (s : State) (q k : Nat) : Bool :=
  decide (q < s.part.quads) && s.quadRole q == 1 &&
  (let m := s.quadMode q
   if m = 1 ∨ m = 2 then decide (k < 4) else if m = 3 then k == 0 || k == 2 else if m = 4 then k == 0
   else if m = 5 then k == 0 && q % 2 == 0 && s.pairAgrees q else false)
/-- Port `p` exists as configured. -/
def State.portIs (s : State) (p : Nat) : Bool := s.hasPort (p / 4) (p % 4)
/-- QUAD_PORT[k].EN of port `p`. -/
def State.portEn (s : State) (p : Nat) : Bool := s.portIs p && flag (s.reg (Reg.quadPort (p / 4) (p % 4))) 16
/-- The MAC rate of a port mode in Gbit/s (R240). -/
def macRate (m : Nat) : Nat := if m = 1 then 25 else if m = 2 then 50 else if m = 3 then 100 else if m = 4 then 200 else 400
/-- QUAD_CFG.KEEPALIVE of an Ethernet quad (R245). -/
def State.keepAlive (s : State) (q : Nat) : Bool := s.quadRole q == 1 && flag (s.quadCfg q) 8
/-- The mode in which a quad's ports run: in SLACK a PMODE 2 quad that is kept alive runs at PMODE 1 (R245). -/
def State.laneMode (s : State) (q : Nat) : Nat :=
  if s.dev.mode = .slack ∧ s.keepAlive q ∧ s.quadMode q = 2 then 1 else s.quadMode q
/-- The MAC rate of port `p` in Gbit/s. -/
def State.portRate (s : State) (p : Nat) : Nat := macRate (s.laneMode (p / 4))

/-- The west ring port (R260). -/
def State.ringWest (s : State) : Nat := fld (s.reg Reg.swRingPorts) 6 0
/-- The east ring port. -/
def State.ringEast (s : State) : Nat := fld (s.reg Reg.swRingPorts) 14 8
/-- A port is a ring port. -/
def State.isRing (s : State) (p : Nat) : Bool := p == s.ringWest || p == s.ringEast

/-- Offsets of the counters of a port, within its quad's page (R268). -/
def cRxFrames : Nat := 0x68
/-- RX_BYTES. -/
def cRxBytes : Nat := 0x6C
/-- RX_ERR. -/
def cRxErr : Nat := 0x74
/-- TX_FRAMES. -/
def cTxFrames : Nat := 0x78
/-- TX_BYTES. -/
def cTxBytes : Nat := 0x7C
/-- TX_ABORT. -/
def cTxAbort : Nat := 0x84
/-- DROP_HELD. -/
def cDropHeld : Nat := 0x90
/-- DROP_AGE. -/
def cDropAge : Nat := 0x94
/-- DROP_QFULL. -/
def cDropQfull : Nat := 0x98

/-- Adds to a counter of a port; the register read limits or wraps it. -/
def State.portCount (p off n : Nat) (s : State) : State :=
  let x := s.port p
  s.setPort p { x with cnt := Tbl.set x.cnt off (Tbl.getD x.cnt off 0 + n) }

/-- Counts a drop by its reason (R258, SW_DROP_CNT). -/
def State.swDrop (reason : Nat) (s : State) : State :=
  { s with net := { s.net with drops := Tbl.set s.net.drops reason (sat32 (Tbl.getD s.net.drops reason 0 + 1)) } }

/-! ## Packet memory (R253, R254) -/

/-- The source number of the Sluice in packet memory. -/
def srcSluice : Nat := 96
/-- The source number of the ring agent. -/
def srcAgent : Nat := 97
/-- The source number of channel receive queues' frames. -/
def srcChan : Nat := 98

/-- The cells of a frame whose FCS is not among its bytes. -/
def frameCells (bytes : List Byte) : Nat := ceilDiv (bytes.length + 4) 256

/-- The cells that a source holds: its frames in queues, in flows, in channel receive queues, and in reception. -/
def State.srcCells (s : State) (src : Nat) : Nat :=
  ((s.net.frames.filter fun e => e.2.src == src).map (·.2.cells)).sum +
  (if src = srcSluice then (s.flows.map fun e => (e.2.pkts.map fun p => frameCells p.frame).sum).sum else 0) +
  (if src = srcChan then (s.chans.map fun e => (e.2.rx.map fun r => frameCells r.bytes).sum).sum else 0) +
  (match (s.port src).rx with
   | some r => frameCells r.bytes
   | none => 0)

/-- The sources of packet memory: the ports of the part and the internal ones. -/
def State.swSources (s : State) : List Nat := List.range (4 * s.part.quads) ++ [srcSluice, srcAgent, srcChan]

/-- SW_RESV_CELLS. -/
def State.swResv (s : State) : Nat := max 38 (fld (s.reg Reg.swResvCells) 7 0)

/-- Free cells. -/
def State.cellsFree (s : State) : Nat := 131072 - (s.swSources.map s.srcCells).sum

/-- A source can take `n` more cells: within its own reserve, or out of the shared cells (R253). -/
def State.cellsFor (s : State) (src n : Nat) : Bool :=
  let r := s.swResv
  let more := fun u => u - r
  let shared := 131072 - (s.swSources.length - 1) * r
  let used := (s.swSources.map fun x => more (s.srcCells x)).sum
  let u := s.srcCells src
  decide (used - more u + more (u + n) ≤ shared)

/-- Keeps SW_CELLS_LOW. -/
def State.cellsMark (s : State) : State := { s with net := { s.net with low := min s.net.low s.cellsFree } }

/-- The queue of a port. -/
def Port.queue (x : Port) (q : Nat) : List Nat := if q = 0 then x.q0 else if q = 1 then x.q1 else if q = 2 then x.q2 else x.q3
/-- Stores a queue of a port. -/
def Port.setQueue (x : Port) (q : Nat) (l : List Nat) : Port :=
  if q = 0 then { x with q0 := l } else if q = 1 then { x with q1 := l } else if q = 2 then { x with q2 := l }
  else { x with q3 := l }
/-- Every frame queued at a port. -/
def Port.queued (x : Port) : List Nat := x.q0 ++ x.q1 ++ x.q2 ++ x.q3

/-- A frame in packet memory. -/
def State.swFrame (s : State) (id : Nat) : Option SwFrame := Tbl.get? s.net.frames id
/-- The cells of a list of frames. -/
def State.cellsOf (s : State) (l : List Nat) : Nat := (l.map fun i => ((s.swFrame i).map (·.cells)).getD 0).sum

/-- One copy of a frame has left or been dropped; the last frees its cells (R254). -/
def State.frameDone (id : Nat) (s : State) : State :=
  match s.swFrame id with
  | none => s
  | some f =>
    { s with net := { s.net with frames :=
        if f.refs ≤ 1 then Tbl.erase s.net.frames id else Tbl.set s.net.frames id { f with refs := f.refs - 1 } } }

/-- One copy of a frame joins a queue of a port, or is dropped and counted: at a dead or disabled port, or past
SW_PORT_QMAX (R242, R254, R256). -/
def State.enqueue (p q id : Nat) (s : State) : State :=
  let x := s.port p
  if x.dead ∨ s.portEn p = false then ((s.portCount p cDropHeld 1).swDrop 4).frameDone id
  else if fld (s.reg Reg.swPortQmax) 16 0 < s.cellsOf x.queued + s.cellsOf [id] then
    ((s.portCount p cDropQfull 1).swDrop 3).frameDone id
  else s.setPort p (x.setQueue q (x.queue q ++ [id]))

/-- A frame stored whole goes to one queue of each of some ports (R247, R254, R255). -/
def State.storeFrame (bytes : List Byte) (src at_ q : Nat) (tag : Option (Nat × Nat)) (ports : List Nat) (s : State) : State :=
  if ports.isEmpty then s
  else
    let id := s.net.nextId
    let f : SwFrame := { bytes := bytes, src := src, cells := frameCells bytes, at_ := at_, refs := ports.length, tag := tag,
                         bad := false }
    let s := { s with net := { s.net with frames := Tbl.set s.net.frames id f, nextId := id + 1 } }
    (ports.foldl (fun s p => s.enqueue p q id) s).cellsMark

/-! ## Classification (R246, R249) -/

/-- The frame carries an 802.1Q tag. -/
def frTagged (l : List Byte) : Bool := beAt l 12 2 == 0x8100
/-- Where the EtherType stands. -/
def frEt (l : List Byte) : Nat := if frTagged l then 16 else 12
/-- The EtherType after any tag. -/
def frType (l : List Byte) : Nat := beAt l (frEt l) 2
/-- PCP; 0 for an untagged frame. -/
def frPcp (l : List Byte) : Nat := if frTagged l then beAt l 14 2 / 8192 else 0
/-- VID of the tag. -/
def frVid (l : List Byte) : Nat := beAt l 14 2 % 4096
/-- The payload after the EtherType. -/
def frIp (l : List Byte) : List Byte := l.drop (frEt l + 2)

/-- The UDP datagram of an IPv4 or IPv6 frame that is not a fragment and has no IPv6 extension header (R246). -/
def frUdp (l : List Byte) : Option (List Byte) :=
  let ip := frIp l
  if frType l = 0x0800 ∧ beAt ip 0 1 / 16 = 4 ∧ beAt ip 9 1 = 17 ∧ beAt ip 6 2 % 16384 = 0 then
    some (ip.drop (4 * (beAt ip 0 1 % 16)))
  else if frType l = 0x86DD ∧ beAt ip 0 1 / 16 = 6 ∧ beAt ip 6 1 = 17 then some (ip.drop 40)
  else none

/-- The payload of a UDP datagram (R232, R180). -/
def udpPayload (u : List Byte) : List Byte := slice u 8 (beAt u 4 2 - 8)

/-- Key words from bytes in network order, the first byte in [7:0]. -/
def keyWords (l : List Byte) (n : Nat) : List Word := (List.range n).map fun i => word (leAt l (4 * i) 4)

/-- The flow key of a UDP frame (R249). -/
def flowKey (l u : List Byte) : List Word :=
  let ip := frIp l
  let v6 := frType l == 0x86DD
  [pack [(0, if frTagged l then frVid l else 0), (12, b2n (frTagged l)), (13, b2n v6)]] ++
  (if v6 then keyWords (slice ip 8 16) 4 ++ keyWords (slice ip 24 16) 4
   else keyWords (slice ip 12 4) 1 ++ [0, 0, 0] ++ keyWords (slice ip 16 4) 1 ++ [0, 0, 0]) ++
  [pack [(0, beAt u 0 2), (16, beAt u 2 2)]]

/-- The L2 key of a frame received on a port (R246, R249). -/
def State.l2Key (s : State) (p : Nat) (l : List Byte) : List Word :=
  let vid := if frTagged l then frVid l else fld (s.reg (Reg.quadPort (p / 4) (p % 4))) 11 0
  [word (leAt l 0 4), pack [(0, leAt l 4 2), (16, vid)]] ++ List.replicate 8 0

/-- The committed entry of a key (R249). -/
def State.fwdFind (s : State) (flow : Bool) (key : List Word) : Option FwdEntry :=
  s.net.fwd.entries.find? fun e => e.flow == flow && e.key == key

/-- The ports of a 96-bit mask. -/
def maskPorts (d : List Word) : List Nat := (List.range 96).filter fun p => flag (d.getD (p / 32) 0) (p % 32)

/-- The result of an L2 entry: its ports, and the channel where TO_CH is 1 (R247, R249). -/
def l2Result (d : List Word) : FwdDest :=
  let w := d.getD 3 0
  .ports (maskPorts d) (if flag w 15 then some (fld w 9 0) else none)

/-- The result of a flow entry (R249); a reserved TYPE drops. -/
def flowResult (d : List Word) : FwdDest :=
  let w := d.getD 0 0
  let i := fld w 25 16
  if fld w 2 0 = 1 then .feedback i else if fld w 2 0 = 2 then .decode i else if fld w 2 0 = 3 then .chan i else .drop 7

/-- The classification of a received frame, with whether its result mirrors (R246). -/
def State.classify (s : State) (p : Nat) (l : List Byte) : FwdDest × Bool :=
  if s.isRing p ∧ (frType l = fld (s.reg Reg.swRingCtl) 31 16 ∨ frType l = 0x88F7) then (.agent, false)
  else
    let flow := (frUdp l).bind fun u => s.fwdFind true (flowKey l u)
    match flow with
    | some e => (flowResult e.data, flag (e.data.getD 0 0) 4)
    | none =>
      match s.fwdFind false (s.l2Key p l) with
      | some e => (l2Result e.data, flag (e.data.getD 3 0) 16)
      | none =>
        let m := s.reg Reg.fwdMiss
        (if flag m 0 then .chan (fld m 25 16) else .drop 6, false)

/-! ## The mirror (R258, R259) -/

/-- A port stands in a mirror mask. -/
def State.mirrors (s : State) (base p : Nat) : Bool := flag (s.reg (base + 4 * (p / 32))) (p % 32)

/-- Takes a capture of a frame: a record in the queue, or MIR_OVERRUN (R258, R259). -/
def State.capture (port dir reason time : Nat) (ring : Bool) (l : List Byte) (s : State) : State :=
  if flag (s.reg Reg.mirCtl) 0 then
    if s.net.mirror.length < 64 ∧ s.accepts .mirror 0 then
      let n := l.length + 4
      let r := leBytes 8 time ++ leBytes 4 0 ++
        [byte (min port 0x7F + 128 * dir), byte (reason + 16 * b2n ring + 32 * b2n (decide (n < 128)))] ++ leBytes 2 n ++
        padTo 128 l ++ List.replicate 48 0
      { s with net := { s.net with mirror := s.net.mirror ++ [r] } }
    else (s.bump Reg.mirOverrun).raiseInt .mirror 0 1 0
  else s

/-- Writes the records of the capture queue into the ring: record i in slot i mod 2^n, with its number (R258). -/
def State.mirrorDrain (s : State) : State :=
  if s.memServes then
    let n := fld (s.reg Reg.mirCtl) 8 4
    let l := s.net.mirror
    let s := { s with net := { s.net with mirror := [] } }
    l.foldl (fun s r =>
      let i := s.net.mirProd
      let a := s.reg64 Reg.mirBaseLo + 192 * (i % 2 ^ n)
      let s := s.writeLines 0x125 0x1 a (r.take 8 ++ leBytes 4 i ++ r.drop 12)
      { s with net := { s.net with mirProd := (i + 1) % 2 ^ 32 } }) s
  else s

/-! ## Where a frame goes (R247, R331) -/

/-- A frame for a channel waits in its receive queue of 64 frames; a further one is dropped as a flow drop (R331). -/
def State.toChannel (c : Nat) (stamp l : List Byte) (s : State) : State :=
  let x := s.chan c
  if c < s.part.channels ∧ x.rx.length < 64 ∧ s.cellsFor srcChan (frameCells l) then
    (s.setChan c { x with rx := x.rx ++ [⟨stamp, l⟩] }).cellsMark
  else s.swDrop 7

/-- The timestamp record of a PTP frame (R280). -/
def ptpRecord (time port dir : Nat) (l : List Byte) : List Byte :=
  let m := frIp l
  leBytes 8 time ++ [byte port, byte dir] ++ slice m 30 2 ++ [byte (beAt m 0 1 % 16), 0, 0, 0]

/-- A received frame is delivered as its classification says (R247, R260). What the ring agent does with a hand-off frame
is given by the RING commands (assumption 31). -/
def State.deliver (p : Nat) (r : RxPend) (s : State) : State :=
  let q := if frPcp r.bytes ≥ 4 then 2 else 3
  match r.dest with
  | .ports m c =>
    let s := s.storeFrame r.bytes p s.tick q none (m.filter fun d => d != p)
    match c with
    | some c => s.toChannel c [] r.bytes
    | none => s
  | .chan c => s.toChannel c [] r.bytes
  | .feedback n =>
    let x := (s.ses n).pkt
    if (s.ses n).st = .free then s
    else s.setPkt n { x with fb := x.fb ++ [(udpPayload ((frUdp r.bytes).getD []), r.at_)] }
  | .decode n =>
    let x := s.dec n
    if x.st = .running ∨ x.st = .ready ∨ x.st = .stopping ∨ x.st = .held then
      s.setDec n { x with net := x.net ++ [(udpPayload ((frUdp r.bytes).getD []), r.at_)] }
    else s
  | .agent =>
    if frType r.bytes = 0x88F7 then
      s.toChannel (fld (s.reg Reg.swRingCh) 25 16) (ptpRecord r.at_ p 0 r.bytes) r.bytes
    else s
  | .drop reason => s.swDrop reason

end Sys2Proof.Machine
end

