-- ==== Sys2Proof/Machine/SluiceOps.lean ====
section
/-!
DEFINITION. The Sluice: flow descriptions, credit, the two wheels and releases (R286 to R292), and the egress slot tables
(R293 to R295).
-/

namespace Sys2Proof.Machine

/-! ## Flow descriptions (R286) -/

/-- A flow description from its 16 bytes. -/
def flowDesc (l : List Byte) : FlowDesc :=
  let w := leAt l 8 4
  { rateKbps := leAt l 0 4, burst := bits (leAt l 4 4) 23 0, overhead := signed 7 w, follow := bitOf w 7,
    fmult := bits w 15 8, port := bits w 22 16 }

/-- The ranges of R286, and a port that its quad has. -/
def State.flowOk (s : State) (d : FlowDesc) : Bool :=
  decide (1000 ≤ d.rateKbps ∧ d.rateKbps ≤ 400000000 ∧ -32 ≤ d.overhead) && (d.fmult == 0 || decide (128 ≤ d.fmult)) &&
  decide (d.port < 96) && s.portIs d.port

/-- A flow descriptor as read, if it is a good one. -/
def flowTaken (f : Option (List Byte) × State) : Option FlowDesc × State :=
  match f with
  | (none, s) => (none, s)
  | (some l, s) => if s.flowOk (flowDesc l) then (some (flowDesc l), s) else (none, s)

/-- Reads a flow's description (R286, R492). -/
def State.readFlow (f : Nat) (s : State) : Option FlowDesc × State :=
  flowTaken (s.readBytes 0x126 0x0 (s.reg64 Reg.sluFlowBaseLo + 16 * f) 16)

/-! ## Rate and credit (R287, R288) -/

/-- The rate of a flow in bit/s (R287). -/
def State.flowRate (s : State) (d : FlowDesc) (o : FlowOwner) : Nat :=
  let base := d.rateKbps * 1000
  match o with
  | .session n =>
    if d.follow then max base ((s.ses n).gov.cForce * (if d.fmult = 0 then 160 else d.fmult) / 128) else base
  | .device _ => base

/-- Credit in 2^-16 bytes at a tick: r ÷ 8 bytes a second, r × 10^-10 bytes a TCLK tick, up to BURST (R288). -/
def Flow.creditAt (x : Flow) (now : Nat) : Int :=
  min (x.desc.burst * 65536 : Nat) (x.k + ((x.r * 65536 * (now - x.kAt) / 10 ^ 10 : Nat) : Int))

/-- The flow with its credit brought to now. -/
def Flow.settle (x : Flow) (now : Nat) : Flow := { x with k := x.creditAt now, kAt := now }

/-- The eligible time of a flow whose credit is settled (R289). -/
def Flow.eligible (x : Flow) : Nat := x.kAt + ceilDiv ((-x.k).toNat * 10 ^ 10) (max 1 x.r * 65536)

/-- The span of the fine wheel and the coarse slot in ticks (R289). -/
def fineSpan : Nat := 655360
/-- See `fineSpan`. -/
def coarseSlot : Nat := 40000
/-- A fine slot: 64 ns (R289). -/
def fineSlot : Nat := 80

/-- A flow with a head packet enters a wheel: now with K at or above 0, else at its eligible time (R288, R289). -/
def Flow.enter (x : Flow) (now : Nat) : Flow :=
  let x := x.settle now
  if x.pkts.isEmpty then { x with wheel := none }
  else if 0 ≤ x.k then { x with wheel := some (now, false) }
  else
    let t := x.eligible
    { x with wheel := some (t, decide (now + fineSpan < t)) }

/-- Binds a flow: K is set to BURST (R286, R288). -/
def State.flowBind (f : Nat) (d : FlowDesc) (o : FlowOwner) (s : State) : State :=
  s.setFlow f { desc := d, owner := o, k := (d.burst * 65536 : Nat), kAt := s.tick, r := s.flowRate d o, pkts := [],
                wheel := none, blocked := false, sent := 0 }

/-- Unbinds a flow; its unreleased packets are discarded (R292). -/
def State.flowUnbind (f : Nat) (s : State) : State := { s with flows := Tbl.erase s.flows f }

/-- A flow's rate changes from now on (R287, R288). -/
def State.flowSetRate (f r : Nat) (s : State) : State :=
  match s.flow? f with
  | none => s
  | some x => s.setFlow f { x.settle s.tick with r := r }

/-- A packet joins a flow: a retransmission or a sender report ahead of the new ones where `front` (R234, R292). -/
def State.flowPut (f : Nat) (p : FlowPkt) (front : Bool) (s : State) : State :=
  match s.flow? f with
  | none => s
  | some x =>
    let x := { x with pkts := if front then (x.pkts.takeWhile (·.rtx)) ++ p :: x.pkts.dropWhile (·.rtx) else x.pkts ++ [p] }
    (s.setFlow f (if x.wheel.isSome then x else x.enter s.tick)).cellsMark

/-- SLU_BACKLOG, where 0 acts as 1 (R296). -/
def State.sluBacklog (s : State) : Nat := max 1 (fld (s.reg Reg.sluBacklog) 16 0)

/-- Queue 1 of a flow's port holds the backlog (R291). -/
def State.flowBlocked (s : State) (x : Flow) : Bool := decide (s.sluBacklog ≤ s.cellsOf (s.port x.desc.port).q1)

/-- The session and RTP index that a released packet carries, for its send time (R228). -/
def Flow.tag (x : Flow) (p : FlowPkt) : Option (Nat × Nat) :=
  match x.owner with
  | .session n => if p.rtx ∨ p.seq = 2 ^ 48 then none else some (n, p.seq)
  | .device _ => none

/-- Where the index entry of a packet lies in part DRAM (R228). -/
def State.indexAt (s : State) (n idx : Nat) : Nat := s.reg64 (Reg.pktIndexBaseLo) + 65536 * n + 16 * (idx % 4096)

/-- The index entry of a packet is written: 16 bytes, whose form is the part's own (R228; assumption 115). -/
def State.setIndex (n idx : Nat) (e : PktIdx) (s : State) : State :=
  let x := (s.ses n).pkt
  (s.setPkt n { x with index := Tbl.set x.index idx e }).writeBytes 0x123 0x1 (s.indexAt n idx)
    (padTo 16 (Config.pktEntry e.place e.srtp.length e.sent e.rtx))

/-- The first byte of a packet of a session leaves its port: its send time is recorded, it counts as sent, and the last of a picture
gives the pool the picture's packets (R159, R228, R238). -/
def State.packetSent (n idx : Nat) (s : State) : State :=
  match Tbl.get? (s.ses n).pkt.index idx with
  | none => s
  | some e =>
    let s := s.setIndex n idx { e with sent := some s.tick }
    let x := (s.ses n).pkt
    let s := s.setPkt n { x with packets := (x.packets + 1) % 2 ^ 32, octets := (x.octets + e.octets) % 2 ^ 32 }
    let s := s.wrap Reg.pktTotal 1
    if e.last then s.refSent n e.frame e.first (idx + 1 - e.first) else s

/-- Releases the head packets of a flow while K stays at or above 0 and its port takes them; the packets released, in
order (R288, R290, R291). -/
def State.flowRelease (f : Nat) : Nat → State → State
  | 0, s => s
  | fuel + 1, s =>
    match s.flow? f with
    | none => s
    | some x =>
      let x := x.settle s.tick
      match x.pkts with
      | [] => s.setFlow f { x with wheel := none, blocked := false }
      | p :: t =>
        if x.k < 0 then s.setFlow f ({ x with blocked := false }.enter s.tick)
        else if s.flowBlocked x then s.setFlow f { x with blocked := true, wheel := some (s.tick, false) }
        else
          let l : Int := (p.frame.length + 4 : Nat) + x.desc.overhead
          let s := s.setFlow f { x with k := x.k - l * 65536, pkts := t, blocked := false, sent := (x.sent + 1) % 2 ^ 32 }
          let s := s.storeFrame p.frame srcSluice s.tick 1 (x.tag p) [x.desc.port]
          s.flowRelease f fuel

/-- Flows that are due on the fine wheel, in order of eligible time, ties to the lower index (R290). -/
def State.fineDue (s : State) : List Nat :=
  ((s.flows.filterMap fun e => match e.2.wheel with
    | some (t, false) => if t ≤ s.tick then some (t, e.1) else none
    | _ => none).mergeSort fun a b => decide (a.1 ≤ b.1)).map (·.2)

/-- SLUICE_FINE_SLOT (R289 to R291): the next slot of the fine wheel begins. -/
def State.fineStep (s : State) : State :=
  let s := s.reach ((s.tick / fineSlot + 1) * fineSlot)
  s.fineDue.foldl (fun s f => s.flowRelease f (((s.flow? f).map (·.pkts.length)).getD 0 + 1)) s

/-- SLUICE_COARSE_SLOT (R289): flows due within the next coarse slot move to the fine wheel. -/
def State.coarseStep (s : State) : State :=
  let s := s.reach ((s.tick / coarseSlot + 1) * coarseSlot)
  { s with flows := s.flows.map fun e => match e.2.wheel with
    | some (t, true) => if t < s.tick + 2 * coarseSlot then (e.1, { e.2 with wheel := some (t, false) }) else e
    | _ => e }

/-! ## Egress slot tables (R293, R294) -/

/-- The active copy of a port's table. -/
def Gate.copy (g : Gate) (k : Bool) : GateCopy := if k then g.copy1 else g.copy0
/-- Stores a copy. -/
def Gate.setCopy (g : Gate) (k : Bool) (c : GateCopy) : Gate := if k then { g with copy1 := c } else { g with copy0 := c }
/-- An entry. -/
def GateCopy.entry (c : GateCopy) (i : Nat) : Word := Tbl.getD c.entries i 0
/-- COUNT, where 0 acts as 1, at most 64. -/
def GateCopy.n (c : GateCopy) : Nat := min 64 (max 1 c.count)
/-- The length of an entry in units of 2^-32 ns. -/
def GateCopy.len (c : GateCopy) (i : Nat) : Nat := 2 ^ 32 * (64 * max 1 (fld (c.entry i) 15 0))
/-- The cycle in units of 2^-32 ns. -/
def GateCopy.cycle (c : GateCopy) : Nat := ((List.range c.n).map c.len).sum
/-- Gate `q` of an entry; queue 0 is never gated. -/
def GateCopy.isOpen (c : GateCopy) (q i : Nat) : Bool := q == 0 || flag (c.entry i) (15 + q)

/-- The place of a network time in the cycle (R293). -/
def GateCopy.place (c : GateCopy) (t : Nat) : Nat :=
  let ph := 2 ^ 32 * c.phase % c.cycle
  (t + (c.cycle - ph)) % c.cycle

/-- The entry that covers a place, and what is left of it. -/
def GateCopy.cover (c : GateCopy) : Nat → Nat → Nat → Nat × Nat
  | 0, i, _ => (i, 0)
  | fuel + 1, i, x => if x < c.len i then (i, c.len i - x) else c.cover fuel (i + 1) (x - c.len i)

/-- The entry in force at a network time, and what is left of it. -/
def GateCopy.now (c : GateCopy) (t : Nat) : Nat × Nat := c.cover c.n 0 (c.place t)

/-- How long gate `q` stays open from the entries that begin after entry `i`, over at most `fuel` of them. -/
def GateCopy.run (c : GateCopy) (q : Nat) : Nat → Nat → Nat
  | 0, _ => 0
  | fuel + 1, i => let j := (i + 1) % c.n; if c.isOpen q j then c.len j + c.run q fuel j else 0

/-- The longest run of consecutive open entries of a queue; a queue that is always open never ends. -/
def GateCopy.longest (c : GateCopy) (q : Nat) : Option Nat :=
  if (List.range c.n).all (c.isOpen q) then none
  else some (maxOf ((List.range c.n).map fun i => if c.isOpen q i then c.len i + c.run q c.n i else 0))

/-- Transmission time of a frame of `bytes` DA to payload at a rate, in units of 2^-32 ns, rounded up (R294). -/
def txTime (bytes rate : Nat) : Nat := ceilDiv (2 ^ 32 * (8 * (bytes + 4 + 20))) (max 1 rate)

/-- The gate copy in force at a port, if it gates. -/
def State.gateOn (s : State) (p : Nat) : Option GateCopy :=
  let g := s.gate p
  let c := g.copy g.active
  if g.openAll || !c.en then none else some c

/-- A frame of queue `q` may start now: its gate is open for its whole transmission (R294). -/
def State.gateLets (s : State) (p q bytes : Nat) : Bool :=
  match s.gateOn p with
  | none => true
  | some c =>
    let (i, left) := c.now s.netTime
    match c.longest q with
    | none => true
    | some _ => c.isOpen q i && decide (txTime bytes (s.portRate p) ≤ left + c.run q c.n i)

/-- A frame that no run of open entries can hold (R294). -/
def State.gateNever (s : State) (p q bytes : Nat) : Bool :=
  match s.gateOn p with
  | none => false
  | some c =>
    match c.longest q with
    | none => false
    | some m => decide (m < txTime bytes (s.portRate p))

/-! ## Commands -/

/-- The Sluice runs. -/
def State.sluiceOn (s : State) : Bool := s.works .sluice 0

/-- SLUICE_COARSE_SLOT. -/
def execSluiceCoarseSlot (s : State) : Result := .next (if s.sluiceOn then s.coarseStep else s)

/-- SLU_FLOW_CMD RELOAD (R286, R296): a bad description leaves the old one in force. -/
def State.flowReload (p : Path) (f : Nat) (s : State) : State :=
  let answer := fun (c : Nat) (s : State) => s.setReg (bank p Reg.sluFlowResult) (word c)
  match s.flow? f with
  | none => answer 1 s
  | some _ =>
    match s.readFlow f with
    | (none, s) => answer 2 s
    | (some d, s) =>
      match s.flow? f with
      | none => answer 1 s
      | some x =>
        let x := { x.settle s.tick with desc := d }
        answer 0 (s.setFlow f { x with r := s.flowRate d x.owner, k := min x.k ((d.burst * 65536 : Nat) : Int) })

/-- SLU_FLOW_RELOAD; RELOAD_DONE is INT_STAT cause 2 (R296). -/
def execSluFlowReload (p : Path) (flow : Nat) (s : State) : Result :=
  .next (if s.coreTakes p ∧ flow < 4096 then (s.flowReload p flow).raiseInt .sluice 0 2 0 else s)

/-- SLU_TBL_COMMIT (R295): sets PENDING; ignored while it is 1. -/
def State.tblCommit (v : Word) (s : State) : State :=
  let p := fld v 6 0
  if p < 4 * s.part.quads then s.setGate p { s.gate p with pending := true } else s

/-- SLU_TBL_COMMIT. -/
def execSluTblCommit (p : Path) (value : Word) (s : State) : Result := .next (if s.coreTakes p then s.tblCommit value else s)

/-- The entry that a table takes at a network time; 0 while it does not gate. -/
def Gate.entryAt (g : Gate) (t : Nat) : Nat := let c := g.copy g.active; if c.en then (c.now t).1 else 0

/-- SLU_TBL_SWAP (R295): at the end of the active copy's cycle where it has EN at 1, else at the next tick. -/
def State.tblSwap (p : Nat) (s : State) : State :=
  let g := s.gate p
  if s.sluiceOn ∧ g.pending then
    let c := g.copy g.active
    let s := s.reach (if c.en then s.tickOf (s.netTime + (c.cycle - c.place s.netTime)) else s.tick + 1)
    let g := { g with active := !g.active, pending := false, swaps := sat (g.swaps + 1) 0xFFFF, openAll := false }
    s.setGate p { g with entry := g.entryAt s.netTime }
  else s

/-- SLU_TBL_SWAP. -/
def execSluTblSwap (port : Nat) (s : State) : Result := .next (s.tblSwap port)

/-- GATE_ENTRY_BOUNDARY (R293): the entry in force ends and the next begins. -/
def State.gateBoundary (p : Nat) (s : State) : State :=
  let g := s.gate p
  let c := g.copy g.active
  if s.sluiceOn ∧ c.en then
    let s := s.reach (s.tickOf (s.netTime + (c.now s.netTime).2))
    s.setGate p { g with entry := g.entryAt s.netTime }
  else s

/-- GATE_ENTRY_BOUNDARY. -/
def execGateEntryBoundary (port : Nat) (s : State) : Result := .next (s.gateBoundary port)

end Sys2Proof.Machine
end

