-- ==== Sys2Proof/Machine/Governor.lean ====
section
/-!
DEFINITION. The Governor: floor bounds of a picture, its target and cap, row budgets and ceilings, the quantiser model, the
block check, and the congestion loop (R123 to R146). Bits are exact; F is in 1/65,536 bit.
-/

namespace Sys2Proof.Machine

/-! ## The blocks of a picture (R62, R104, R115, R131) -/

/-- The 64-sample column of a coding block. -/
def col64 (d : List Byte) (x : Nat) : Nat := x * dBlk d / 64
/-- The raster index of the 64×64 block that holds a coding block. -/
def blk64 (d : List Byte) (row x : Nat) : Nat := row * dBlk d / 64 * dN64 d + col64 d x
/-- A coding block stands in the picture's wave (R115). -/
def Frame.inWave (f : Frame) (d : List Byte) (x : Nat) : Bool :=
  match f.wave with
  | some (a, b) => decide (a ≤ col64 d x) && decide (col64 d x < b)
  | none => false
/-- A coding block is DC intra in floor mode: of a key picture, of the wave, or recoded under R166 (R130, R131, R166). -/
def Frame.dcBlock (f : Frame) (d : List Byte) (row x : Nat) : Bool :=
  f.cls == .key || f.inWave d x || f.recode.contains (blk64 d row x)
/-- The coding blocks of a tile column. -/
def colBlocks (d : List Byte) (c : Nat) : List Nat := (List.range (dColW d c)).map (dColAt d c + ·)
/-- Φ of a segment (R131). -/
def Frame.segPhi (f : Frame) (d : List Byte) (row c : Nat) : Nat :=
  phiSeg d (dColW d c) ((colBlocks d c).filter (f.dcBlock d row)).length
/-- Φ of a row. -/
def Frame.rowPhi (f : Frame) (d : List Byte) (row : Nat) : Nat := ((List.range (dCols d)).map (f.segPhi d row)).sum
/-- Φ of the rows from `r` on: the floor reserve. -/
def Frame.phiFrom (f : Frame) (d : List Byte) (r : Nat) : Nat := ((List.range (dNy d - r)).map fun i => f.rowPhi d (r + i)).sum
/-- Φ_k: the floor bound of the picture with its prefix. -/
def Frame.phi (f : Frame) (d : List Byte) : Nat := f.head + f.phiFrom d 0

/-! ## Registers of the loop (R146) -/

/-- LD_FILL. -/
def State.ldFill (s : State) : Nat := fld (s.reg Reg.govRowCtl) 23 16
/-- CEIL_MULT, where 0 acts as 1; a picture keeps the value at its start (R146). -/
def State.ceilMult (s : State) : Nat := max 1 (fld (s.reg Reg.govRowCtl) 3 0)
/-- DQ_ROW. -/
def State.dqRow (s : State) : Nat := fld (s.reg Reg.govRowCtl) 11 8
/-- GOV_ROW_MIN_BITS. -/
def State.rowMin (s : State) : Nat := fld (s.reg Reg.govRowMinBits) 15 0

/-! ## Complexity (R128, R132) -/

/-- The height of a coding row in picture lines. -/
def rowH (d : List Byte) (r : Nat) : Nat := min (dBlk d) (dHeight d - dBlk d * r)

/-- The table of a class. -/
def Gov.xps (g : Gov) (c : PicCls) : Tbl Nat :=
  match c with
  | .key => g.xpKey
  | .p => g.xpP
  | .b => g.xpB
/-- Stores the table of a class. -/
def Gov.setXps (g : Gov) (c : PicCls) (t : Tbl Nat) : Gov :=
  match c with
  | .key => { g with xpKey := t }
  | .p => { g with xpP := t }
  | .b => { g with xpB := t }

/-- Xp(r): as measured; by row height before that (R132), in the scale of the rows that have been measured
(assumption 33). -/
def Gov.xp (g : Gov) (d : List Byte) (c : PicCls) (r : Nat) : Nat :=
  let t := g.xps c
  match Tbl.get? t r with
  | some x => x
  | none =>
    let h := (t.map fun e => rowH d e.1).sum
    if h = 0 then rowH d r else rowH d r * (t.map (·.2)).sum / h

/-- The sum of Xp over the rows from `r` on. -/
def Gov.xpFrom (g : Gov) (d : List Byte) (c : PicCls) (r : Nat) : Nat :=
  ((List.range (dNy d - r)).map fun i => g.xp d c (r + i)).sum

/-- Twice the weight of a class (R128). -/
def weight2 (c : PicCls) : Nat :=
  match c with
  | .key => 8
  | .p => 2
  | .b => 1

/-! ## Target and cap (R128) -/

/-- A rate over a frame period in bits, rounded down. -/
def rateBits (rate per : Nat) : Nat := rate * per / (2 ^ 32 * 10 ^ 9)

/-- A = min(AVG_BPS, C) (R128). -/
def Gov.avg (g : Gov) (d : List Byte) : Nat := min (dAvg d) g.cForce

/-- F_0 = R·D0 in 1/65,536 bit (R124). -/
def fullAtStart (d : List Byte) : Nat := dRate d * dDelay d * 65536 / 10 ^ 6

/-- P_k (R128). -/
def Gov.cap (g : Gov) (d : List Byte) (per : Nat) : Nat :=
  if dLow d then min (g.full / 65536) (rateBits g.cForce per) else g.full / 65536

/-- The complexity ratio X̂_k ÷ X̄ as a fraction, within 1/4 and 4; 1 before a picture of the class and any history
(assumption 33). -/
def Gov.ratio (g : Gov) (d : List Byte) (c : PicCls) : Nat × Nat :=
  let x := g.xpFrom d c 0 * g.hist.length
  let m := g.hist.sum
  if m = 0 ∨ ¬ g.seen.contains c then (1, 1) else if 4 * x < m then (1, 4) else if 4 * m < x then (4, 1) else (x, m)

/-- base_k as a fraction (R128). -/
def State.govBase (s : State) (g : Gov) (d : List Byte) (c : PicCls) (per : Nat) : Int × Nat :=
  if dRmode d = 0 then (8 * (bitsPer (dRate d) per : Nat) + ((g.full : Nat) : Int) - (fullAtStart d : Nat), 8 * 65536)
  else if dLow d then ((s.ldFill * g.avg d * per : Nat), 256 * 2 ^ 32 * 10 ^ 9)
  else
    let (a, b) := g.ratio d c
    ((g.avg d * per * a : Nat), 2 ^ 32 * 10 ^ 9 * b)

/-- T_k (R128): in LOWDELAY without the weights; limited to Φ_k and P_k. -/
def State.govTarget (s : State) (g : Gov) (d : List Byte) (f : Frame) (per : Nat) : Int :=
  let (a, b) := s.govBase g d f.cls per
  let ws := (weight2 f.cls :: g.weights).take 32
  let t := if dLow d then a / (b : Int) else a * (weight2 f.cls * ws.length : Nat) / ((b * ws.sum : Nat) : Int)
  max ((f.phi d : Nat) : Int) (min t ((g.cap d per : Nat) : Int))

/-! ## The quantiser model (R136, R137) -/

/-- K_p in hundredths (R136). -/
def kPreset (p : Nat) : Nat := if p = 0 then 120 else if p = 1 then 100 else if p = 2 then 93 else 88

/-- The integer sixth root, by bisection over `fuel` bits. -/
def root6 (n : Nat) : Nat → Nat → Nat
  | 0, r => r
  | fuel + 1, r => let r' := r + 2 ^ fuel; root6 n fuel (if r' ^ 6 ≤ n then r' else r)

/-- Qstep(q) = 2^((q − 4) ÷ 6) in 2^-32, rounded down. -/
def qstep32 (q : Nat) : Nat := root6 (2 ^ (q + 188)) 42 0

/-- round(4 + 6·log2(a ÷ b)) within 0 to 51: the largest q with (a/b)^12 at or above 2^(2q − 9). -/
def qOf (a b : Nat) : Nat :=
  let ok := fun q => decide (b ^ 12 * 2 ^ (2 * q) ≤ a ^ 12 * 2 ^ 9)
  ((List.range 52).filter ok).getLastD 0

/-- θ of a picture's class (R136), and whether it has been measured (R137). -/
def Gov.theta (g : Gov) (c : PicCls) : Nat := if c = .key then g.thetaI else g.thetaP
/-- θ of a class has been measured. -/
def Gov.measured (g : Gov) (c : PicCls) : Bool := if c = .key then g.setI else g.setP
/-- Stores θ of a class. -/
def Gov.setTheta (g : Gov) (c : PicCls) (t : Nat) : Gov :=
  if c = .key then { g with thetaI := t, setI := true } else { g with thetaP := t, setP := true }

/-- A row whose every segment has committed with no floor-mode block. -/
def Frame.rowNormal (f : Frame) (d : List Byte) (r : Nat) : Bool :=
  let l := f.segs.filter fun g => g.row == r
  l.length == dCols d && l.all fun g => g.st == .committed && !g.floor && g.floorAt.isNone

/-- The measured complexity of a row. -/
def Frame.rowCplx (f : Frame) (r : Nat) : Nat := ((f.segs.filter fun g => g.row == r).map (·.cplx)).sum
/-- The committed bits of a row. -/
def Frame.rowBits (f : Frame) (r : Nat) : Nat := ((f.segs.filter fun g => g.row == r).map (·.bits)).sum

/-- ρ as a fraction, within 1/4 and 4, and 1 before a normally coded row has committed (R136). -/
def Gov.rho (g : Gov) (d : List Byte) (f : Frame) : Nat × Nat :=
  let rows := (List.range (dNy d)).filter (f.rowNormal d)
  let a := (rows.map f.rowCplx).sum
  let b := (rows.map (g.xp d f.cls)).sum
  if rows.isEmpty ∨ b = 0 then (1, 1) else if 4 * a < b then (1, 4) else if 4 * b < a then (4, 1) else (a, b)

/-- The row's q (R136, R137): QP_INIT in the first picture of a class; with no bits above Φ, QP_MAX (assumption 33). -/
def Gov.rowQ (g : Gov) (d : List Byte) (f : Frame) (r : Nat) (t : Int) (phi : Nat) : Nat :=
  if ¬ g.seen.contains f.cls then dQpInit d
  else
    let room := t - (phi : Nat)
    let (rn, rd) := g.rho d f
    let q := if room ≤ 0 then dQpMax d
      else qOf (g.theta f.cls * kPreset f.preset * g.xp d f.cls r * rn) (65536 * 100 * rd * room.toNat)
    let q := max (dQpMin d) (min (dQpMax d) q)
    if g.anyRow then max (g.lastQ - f.dqRow) (min (g.lastQ + f.dqRow) q) else q

/-- θ after a normally coded row of `b` bits and complexity `x` (R137), in 16.16; the register is unsigned, and holds 0 for what would
fall below (assumption 105). -/
def thetaNext (old : Nat) (measured : Bool) (b phi q k x : Nat) : Nat :=
  let obs : Int := ((b : Int) - (phi : Int)) * (65536 * 100 * qstep32 q : Nat) / ((max 1 (k * x) * 2 ^ 32 : Nat) : Int)
  if measured then ((old : Int) + (obs - (old : Int)) / 8).toNat else obs.toNat

/-! ## Releasing a row (R132, R133) -/

/-- The segments of a row with their shares of target and ceiling (R132). -/
def rowSegs (d : List Byte) (f : Frame) (r q : Nat) (t : Int) (c : Nat) (floor short : Bool) : List Seg :=
  let n := dNx d
  let spare := c - f.rowPhi d r
  (List.range (dCols d)).map fun k =>
    { row := r, col := k, t := t * (dColAt d (k + 1) : Nat) / (n : Int) - t * (dColAt d k : Nat) / (n : Int),
      c := f.segPhi d r k + spare * dColW d k / n, q := q, floor := floor, short := short, st := .atBolter, phys := 0, preset := 0
      blocks := [], passed := 0, queue := [], reports := [], reconAt := none, floorAt := none, out := none, wrote := 0, cut := false, bits := 0, cplx := 0 }

/-- The first floor-mode row of a picture is this one, unless an earlier one was (R145). -/
def Frame.floorRow (f : Frame) (row : Nat) : Frame := { f with firstFloor := some (min row (f.firstFloor.getD row)) }

/-- floor_sticky is set in a picture (R132, R134, R145, R146). -/
def State.goSticky (n row : Nat) (s : State) : State :=
  match (s.ses n).frame with
  | none => s
  | some f =>
    if f.sticky then s
    else
      let s := s.setFrame n { f.floorRow row with sticky := true }
      let g := (s.ses n).gov
      let s := s.setGov n { g with floorPics := sat32 (g.floorPics + 1) }
      (s.raiseErr .governor 0 3 (Cap.obj n)).govEvt n 1

/-- The Governor releases a row: target, ceiling, q or floor mode; `short` for a row under R72 or R58, which takes its floor
bound and sets nothing (R132 to R134). -/
def State.rowRelease (n r : Nat) (short : Bool) (s : State) : State :=
  match (s.ses n).frame with
  | none => s
  | some f =>
    let d := (s.ses n).desc
    let g := (s.ses n).gov
    let phi := f.rowPhi d r
    let room : Int := (f.cap : Int) - f.usedHard - (f.phiFrom d (r + 1) : Nat)
    let t := (f.target - f.usedSoft) * (g.xp d f.cls r : Nat) / ((max 1 (g.xpFrom d f.cls r) : Nat) : Int)
    let low : Int := ((phi + f.rowMin : Nat) : Int)
    let trip := !short && (f.sticky || decide (room < low) || (dLow d && decide (t < low)))
    let s := if trip then s.goSticky n r else s
    let floor := short || trip
    let q := if floor then 51 else g.rowQ d f r t phi
    let t : Int := if floor then (phi : Nat) else t
    let c : Int := if floor then (phi : Nat) else min room (max ((phi : Nat) : Int) ((f.ceilMult : Nat) * t))
    match (s.ses n).frame with
    | none => s
    | some f =>
      let new := (rowSegs d f r q t c.toNat floor short).map fun g =>
        if f.floorCols.contains g.col then { g with floor := true, q := 51 } else g
      let f := if floor then f.floorRow r else f
      let s := s.setFrame n { f with segs := f.segs ++ new, usedSoft := f.usedSoft + t,
                                     usedHard := f.usedHard + c, nextRow := r + 1 }
      let g := (s.ses n).gov
      s.setGov n { g with lastRow := r, lastQ := q, anyRow := true }

/-! ## The block check (R134) -/

/-- The bits that a bypass or literal element carries; 0 means 16 (R198). -/
def elemN (e : DWord) : Nat := if bits e.toNat 7 4 = 0 then 16 else bits e.toNat 7 4

/-- What one coding element adds to the bound U of its block (R134): CAVLC counts exact bits; CABAC 7 for a context-coded or a
terminating bin and 1 for a bypass bin; AV1 15 for a symbol and 1 for a literal bit. -/
def elemU (d : List Byte) (e : DWord) : Nat :=
  let op := e.toNat % 16
  if dCodec d = 3 then (if op = 3 then 15 else if op = 4 then elemN e else 0)
  else if dCodec d = 1 ∧ dEntropy d = 0 then (if op = 1 ∨ op = 4 then elemN e else 0)
  else if op = 0 ∨ op = 2 then 7 else if op = 1 then elemN e else 0

/-- U of a block's elements. -/
def elemsU (d : List Byte) (l : List DWord) : Nat := (l.map (elemU d)).sum

/-- Block `j` of a segment passes the check: Φ_h, the bits reported of blocks 0 to j − 2, U(j − 1), U(j) and φ of the later blocks stay
within the ceiling. -/
def blockPasses (d : List Byte) (ceil : Nat) (phis : List Nat) (reports : List Nat) (bl : List Block) (j : Nat) : Bool :=
  let u := fun (i : Nat) => ((bl[i]?).map fun b => elemsU d b.elems).getD 0
  let spent := phiH d + (reports.take (j - 1)).sum + (if j = 0 then 0 else u (j - 1))
  decide (spent + u j + (phis.drop (j + 1)).sum ≤ ceil)

/-! ## Congestion (R140 to R143) -/

/-- The modulus of a report timestamp in units of 1 / (65,536 × 1.25 × 10^9) s. -/
def rtsMod : Int := 2 ^ 32 * 1250000000

/-- d_i and s_i of the packets that the estimator uses (R140): received, not retransmitted, with a known send time. -/
def govSamples (x : Pkt) (r : FbReport) : List (Int × Int) :=
  r.pkts.filterMap fun p =>
    let idx := x.next - 1 - (x.next - 1 + 65536 - p.seq) % 65536
    match Tbl.get? x.index idx with
    | some e =>
      match e.sent with
      | some t => if p.got ∧ e.rtx = 0 then
          some (((r.rts : Int) - 64 * p.ato) * 1250000000 - (t : Int) * 65536, (t : Int) * 65536) else none
      | none => none
    | none => none

/-- Ten seconds in ticks. -/
def tenSec : Nat := secTicks 10

/-- The delay part of a report of at least four packets: d̄, s̄, G and Q (R140). -/
def Gov.delay (g : Gov) (l : List (Int × Int)) (at_ : Nat) : Gov :=
  let n : Int := (l.length : Nat)
  let d := (l.map (·.1)).sum / n
  let t := (l.map (·.2)).sum / n
  let d := match g.last with
    | some (d0, _) => d0 + ((d - d0 + rtsMod / 2) % rtsMod - rtsMod / 2)
    | none => d
  let means := (g.means.filter fun e => decide (at_ ≤ e.1 + tenSec)) ++ [(at_, d)]
  let least := means.foldl (fun m e => min m e.2) d
  { g with means := means, qdelay := ((d - least) * 1000000 / (65536 * 1250000000)).toNat, last := some (d, t) }

/-- G after a report whose means are known (R140). -/
def Gov.gradient (g : Gov) (old : Option (Int × Int)) : Gov :=
  match old, g.last with
  | some (d0, t0), some (d, t) =>
    if t = t0 then g
    else
      let x := (d - d0) * 1000000 / (t - t0)
      { g with gradOld := g.grad, grad := g.grad + (x - g.grad) / 4 }
  | _, _ => g

/-- The loss part of a report (R140), in 1/65,536. -/
def Gov.lossPart (g : Gov) (r : FbReport) : Gov :=
  let n := r.pkts.length
  let bad := (r.pkts.filter fun p => !p.got || p.ce).length
  if n = 0 then g
  else { g with loss := ((g.loss : Int) + (((bad * 65536 / n : Nat) : Int) - (g.loss : Int)) / 4).toNat }

/-- Over-use (R141). -/
def State.overUse (s : State) (g : Gov) : Bool :=
  let hi : Int := ((s.reg Reg.govGradHi).toNat : Nat)
  (decide (hi < g.grad) && decide (hi < g.gradOld)) || decide ((s.reg Reg.govQdelayHiUs).toNat < g.qdelay) ||
  decide (fld (s.reg Reg.govLossHi) 9 0 * 65536 < g.loss * 1000)

/-- The loop moves C (R142). -/
def govLoop (d : List Byte) : Bool := dRmode d != 0 && dCongEn d

/-- C at START, which it keeps where the loop is off (R141, R142): R in CBR, else START_BPS. -/
def congStart (d : List Byte) : Nat := if dRmode d = 0 then dRate d else dStartBps d

/-- A session has started: the loop runs from START (R141). -/
def Ses.started (x : Ses) : Bool := x.st == .running || x.st == .stopping || x.st == .held

/-- DEC_FACTOR in thousandths (R146). -/
def State.decFactor (s : State) : Nat :=
  let v := fld (s.reg Reg.govDecFactor) 9 0
  if v = 0 ∨ 999 < v then 850 else v

/-- A decrease of C, with its hold; RATE_DOWN where it lowers C (R141, R145). -/
def State.govDecrease (n at_ : Nat) (s : State) : State :=
  let g := (s.ses n).gov
  let d := (s.ses n).desc
  let c := max (dMinBps d) (g.cNow * s.decFactor / 1000)
  let s := s.setGov n { g with cNow := c, hold := at_ + msTicks (fld (s.reg Reg.govDecHoldMs) 15 0), decs := sat32 (g.decs + 1),
                               pendAt := some at_ }
  if c < g.cNow then s.govEvt n 0 else s

/-- GOV_FEEDBACK_REPORT (R140 to R142): the oldest accepted report enters the loop. -/
def State.govReport (n : Nat) (s : State) : State :=
  let x := s.ses n
  match x.gov.reports with
  | [] => s
  | r :: rest =>
    let g := { x.gov with reports := rest, count := (x.gov.count + 1) % 2 ^ 32 }
    let l := govSamples x.pkt r
    let old := g.last
    let g := if 4 ≤ l.length then (g.delay l r.time).gradient old else g
    let g := g.lossPart r
    let prev := g.lastAt
    let g := { g with lastAt := r.time, toAt := r.time }
    let s := s.setGov n g
    let hot := s.overUse g
    if !x.started then s
    else if !govLoop x.desc then (if hot then s.govEvt n 3 else s)
    else if r.time < g.hold then s
    else if hot then s.govDecrease n r.time
    else
      let inc := fld (s.reg Reg.govIncRate) 9 0 * dRate x.desc * (r.time - prev) / (1000 * 1250000000)
      s.setGov n { g with cNow := min (dRate x.desc) (g.cNow + inc), pendAt := some r.time }

/-- GOV_FEEDBACK_REPORT. -/
def execGovFeedbackReport (session : Nat) (s : State) : Result :=
  .next (if s.coreUp ∧ (s.ses session).st ≠ .free then s.govReport session else s)

/-- GOV_RATE_IN_FORCE (R143): a new C is in force 256 VCLK after its report: the picture's target scales with A, and the
session's flow takes its new rate (R287). -/
def State.govInForce (n : Nat) (s : State) : State :=
  let x := s.ses n
  let g := x.gov
  match g.pendAt with
  | none => s
  | some at_ =>
    if s.coreUp then
      let s := s.reach (at_ + vclkTicks 256)
      let old := g.avg x.desc
      let g' := { g with cForce := g.cNow, pendAt := none }
      let s := s.setGov n g'
      let s := match x.active with
        | some f =>
          let t := f.usedSoft + (f.target - f.usedSoft) * (g'.avg x.desc : Nat) / ((max 1 old : Nat) : Int)
          s.setFrame n { f with target := t }
        | none => s
      match s.flow? (dFlow x.desc) with
      | some y => if y.owner = .session n then s.flowSetRate (dFlow x.desc) (s.flowRate y.desc y.owner) else s
      | none => s
    else s

/-- GOV_RATE_IN_FORCE. -/
def execGovRateInForce (session : Nat) (s : State) : Result := .next (s.govInForce session)

/-- GOV_FB_TIMEOUT (R141): no report for GOV_FB_TIMEOUT_MS counts as over-use, at each further timeout again. -/
def State.govTimeout (n : Nat) (s : State) : State :=
  let x := s.ses n
  let ms := fld (s.reg Reg.govFbTimeoutMs) 15 0
  if s.coreUp ∧ ms ≠ 0 ∧ x.started then
    let t := x.gov.toAt + msTicks ms
    let s := s.reach t
    let g := { x.gov with toAt := t }
    let s := (s.setGov n g).raiseErr .governor 0 4 (Cap.obj n)
    let s := s.govEvt n 2
    if !govLoop x.desc then s.govEvt n 3 else if t < g.hold then s else s.govDecrease n t
  else s

/-- GOV_FB_TIMEOUT. -/
def execGovFbTimeout (session : Nat) (s : State) : Result := .next (s.govTimeout session)

end Sys2Proof.Machine
end

