-- ==== Sys2Proof/Machine/Hopper.lean ====
section
/-!
DEFINITION. The Hopper: pools, owners, reserves, grants and frees (R382 to R391). Free indexes stand on chip and in the
free ring of part DRAM; the map of part DRAM shows who holds each buffer.
-/

namespace Sys2Proof.Machine

/-- The buffer size of a pool (R382). -/
def poolSize (p : Nat) : Nat := 2 ^ (8 + 3 * p)

/-- FREE of a pool (R385). -/
def Pool.free (x : Pool) : Nat := x.cache.length + x.ringLen

/-- H_o, the buffers that an owner holds (R385). -/
def Pool.holds (x : Pool) (o : Nat) : Nat := Tbl.getD x.held o 0

/-- The buffers that are held in all. -/
def Pool.heldAll (x : Pool) : Nat := (x.held.map (·.2)).sum

/-- The reserve byte of an owner in a pool (R391). -/
def State.resvByte (s : State) (o p : Nat) : Nat :=
  if p < 4 then fld (s.reg (Reg.hopResvA o)) (8 * p + 7) (8 * p)
  else fld (s.reg (Reg.hopResvB o)) (8 * (p - 4) + 7) (8 * (p - 4))

/-- R_o, an owner's reserve in a pool (R385). -/
def State.resv (s : State) (o p : Nat) : Nat := s.resvByte o p * 2 ^ fld (s.reg Reg.hopScale) (3 * p + 2) (3 * p)

/-- The sum of all reserves of a pool (R388). -/
def State.resvSum (s : State) (p : Nat) : Nat := ((List.range 64).map fun o => s.resv o p).sum

/-- U, the unmet reserve of a pool (R385). -/
def State.unmet (s : State) (p : Nat) : Nat :=
  ((List.range 64).map fun o => s.resv o p - (s.pool p).holds o).sum

/-- The smallest enabled pool whose buffers hold `n` bytes (R384). -/
def State.poolFor (s : State) (n : Nat) : Option Nat :=
  (List.range 6).find? fun p => (s.pool p).en && decide (n ≤ poolSize p)

/-- COUNT_p as configured. -/
def State.poolCount (s : State) (p : Nat) : Nat := fld (s.reg (Reg.hopPoolCount p)) 20 0

/-- The free ring of a pool, and its map behind it (R382). -/
def State.ringBase (s : State) (p : Nat) : Nat := s.reg64 (Reg.hopPoolRingLo p)

/-- The address of a buffer's map byte. -/
def State.mapAddr (s : State) (p i : Nat) : Nat := s.ringBase p + 4 * s.poolCount p + i

/-- The address of a buffer (R382). -/
def State.bufAddr (s : State) (b : Buf) : Nat := s.reg64 (Reg.hopPoolBaseLo b.pool) + b.index * poolSize b.pool

/-- The master ID of the Hopper (R471). -/
def hopMaster : Nat := 0x1A0

/-- Indexes are lost: the effective COUNT falls, HOP_LEAKED counts them, and the error is set (R389). -/
def State.hopLeak (p k src a : Nat) (s : State) : State :=
  let x := s.pool p
  ((s.setPool p { x with count := x.count - k }).addSat Reg.hopLeaked 32 k).raiseErr .hopper 0 src
    (Cap.mem a hopMaster 0x0)

/-- HOP_CACHE_REFILL's work: one line of at most 16 indexes from the ring into the cache; a line that fails loses them
(R383, R389). -/
def State.hopRefill (p : Nat) (s : State) : State :=
  let x := s.pool p
  let n := s.poolCount p
  let k := min (min 16 x.ringLen) (min (16 - x.head % 16) (n - x.head))
  if k = 0 then s
  else
    let a := s.ringBase p + 4 * x.head
    let (r, s) := s.readLine hopMaster 0x0 (a / 64 * 64)
    let x := { s.pool p with head := if x.head + k = n then 0 else x.head + k, ringLen := x.ringLen - k }
    match r with
    | none => (s.setPool p x).hopLeak p k 2 (a / 64 * 64)
    | some l => s.setPool p { x with cache := x.cache ++ (List.range k).map fun i => leAt l (a % 64 + 4 * i) 4 }

/-- HOP_CACHE_SPILL's work: one line of at most 16 indexes from the cache to the end of the ring (R383). -/
def State.hopSpill (p : Nat) (s : State) : State :=
  let x := s.pool p
  let n := s.poolCount p
  let tail := if n = 0 then 0 else (x.head + x.ringLen) % n
  let k := min (min 16 x.cache.length) (min (16 - tail % 16) (n - tail))
  if k = 0 then s
  else
    let keep := x.cache.take (x.cache.length - k)
    let out := x.cache.drop (x.cache.length - k)
    (s.writeBytes hopMaster 0x1 (s.ringBase p + 4 * tail) (out.flatMap (leBytes 4))).setPool p
      { x with cache := keep, ringLen := x.ringLen + k }

/-- Takes the next free index whose map line can be read, and marks it held (R382, R389); an index whose map line fails
is lost and the next one taken. -/
def State.hopTake (p owner : Nat) : Nat → State → Option Nat × State
  | 0, s => (none, s)
  | fuel + 1, s =>
    let s := if (s.pool p).cache.isEmpty then s.hopRefill p else s
    let x := s.pool p
    match x.cache with
    | [] => if x.ringLen = 0 then (none, s) else s.hopTake p owner fuel
    | i :: rest =>
      let s := s.setPool p { x with cache := rest }
      let m := s.mapAddr p i
      let (r, s) := s.readLine hopMaster 0x0 (m / 64 * 64)
      match r with
      | none => (s.hopLeak p 1 2 (m / 64 * 64)).hopTake p owner fuel
      | some _ =>
        let s := s.writeBytes hopMaster 0x1 m [byte (owner % 64 + 64)]
        let x := s.pool p
        let x := { x with held := Tbl.set x.held owner (x.holds owner + 1), low := min x.low x.free }
        (some i, (s.setPool p x).wrap Reg.hopGrants 1)

/-- Grants a buffer to an owner if a free index can be had. -/
def State.hopGive (p owner len : Nat) (s : State) : Option Buf × State :=
  let (i, s) := s.hopTake p owner (2 * (s.pool p).free + 1)
  (i.map fun i => ⟨p, i, owner, len⟩, s)

/-- A request that R385 grants now: below its reserve, or beyond the unmet reserve. -/
def State.hopMay (s : State) (p owner : Nat) : Bool :=
  let x := s.pool p
  decide (x.holds owner < s.resv owner p) || decide (s.unmet p < x.free)

/-- A request for a buffer of pool `p`: granted at once, or queued in FIFO order (R385, R386). -/
def State.hopRequest (p owner len : Nat) (who : HopWho) (s : State) : Option Buf × State :=
  let x := s.pool p
  let now := decide (x.holds owner < s.resv owner p) || (x.waiters.isEmpty && s.hopMay p owner)
  let queued := fun (s : State) =>
    s.setPool p { s.pool p with waiters := (s.pool p).waiters ++ [⟨who, owner, s.tick, false⟩] }
  if now then
    match s.hopGive p owner len with
    | (some b, s) => (some b, s)
    | (none, s) => (none, queued s)
  else (none, queued s)

/-- A request that never queues: served at once or refused (R180, R386). -/
def State.hopTry (p owner len : Nat) (s : State) : Option Buf × State :=
  if s.hopMay p owner then s.hopGive p owner len else (none, s)

/-- The waiting request that is served next: one of an owner below its reserve, else the head of the queue when there is
a buffer beyond the unmet reserve (R386). -/
def State.hopNext (s : State) (p : Nat) : Option HopWait :=
  let x := s.pool p
  match x.waiters.find? (fun w => decide (x.holds w.owner < s.resv w.owner p)) with
  | some w => some w
  | none => if s.unmet p < x.free then x.waiters.head? else none

/-- A waiting request is withdrawn, by its grant or by a cancellation (R387). -/
def State.hopCancel (p : Nat) (who : HopWho) (s : State) : State :=
  s.setPool p { s.pool p with waiters := (s.pool p).waiters.filter fun w => w.who != who }

/-- Withdraws every waiting request of a requester. -/
def State.hopCancelAll (who : HopWho) (s : State) : State :=
  (List.range 6).foldl (fun s p => s.hopCancel p who) s

/-- A buffer's map byte has been read: its index goes to the cache, or is lost (R389). -/
def hopFreed (b : Buf) (m : Nat) (r : Option (List Byte) × State) : State :=
  let p := b.pool
  let x := r.2.pool p
  let x' := { x with held := Tbl.set x.held b.owner (x.holds b.owner - 1) }
  match r.1 with
  | none => (r.2.setPool p x').hopLeak p 1 2 (m / 64 * 64)
  | some l =>
    if leAt l (m % 64) 1 = b.owner % 64 + 64 then
      let s := (r.2.setPool p { x' with cache := x.cache ++ [b.index] }).writeBytes hopMaster 0x1 m [0]
      if 64 ≤ (s.pool p).cache.length then s.hopSpill p else s
    else r.2.raiseErr .hopper 0 3 (Cap.mem (r.2.bufAddr b) hopMaster 0xF)

/-- A free (R389): refused where the map byte does not show the buffer held by its owner; an index whose map line fails
is lost; otherwise it returns to the pool. -/
def State.hopFree (b : Buf) (s : State) : State :=
  hopFreed b (s.mapAddr b.pool b.index) (s.readLine hopMaster 0x0 (s.mapAddr b.pool b.index / 64 * 64))

/-- Releases a buffer, if there is one. -/
def State.hopRelease (b : Option Buf) (s : State) : State :=
  match b with
  | some b => s.hopFree b
  | none => s

/-! ## Commands -/

/-- HOP_CMD INIT starts (R388, R391): refused with BAD_CFG for a COUNT of 0 or reserves above it, and with HELD while
buffers are held. -/
def State.hopInit (p : Nat) (s : State) : State :=
  if s.hop.busy.isSome then s
  else if 0 < (s.pool p).heldAll then { s with hop := { s.hop with result := 1 } }
  else if 6 ≤ p ∨ s.poolCount p = 0 ∨ s.poolCount p < s.resvSum p then { s with hop := { s.hop with result := 2 } }
  else { s with hop := { s.hop with busy := some p, result := 0 } }

/-- HOP_INIT. -/
def execHopInit (p : Path) (pool : Nat) (s : State) : Result := .next (if s.coreTakes p then s.hopInit pool else s)

/-- HOP_INIT_DONE: the whole ring and map have been written, and the pool is enabled (R382). -/
def State.hopInitDone (s : State) : State :=
  match s.hop.busy with
  | none => s
  | some p =>
    if s.memServes then
      let n := s.poolCount p
      let bytes := (List.range n).flatMap (leBytes 4) ++ List.replicate n 0
      let s := s.writeLines hopMaster 0x1 (s.ringBase p) bytes
      let s := { s with hop := { s.hop with busy := none } }
      s.setPool p { Pool.reset with en := true, count := n, ringLen := n, low := n, waiters := (s.pool p).waiters }
    else s

/-- HOP_INIT_DONE. -/
def execHopInitDone (s : State) : Result := .next s.hopInitDone

/-- HOP_CMD DISABLE (R391): ends with HELD while any buffer of the pool is held. -/
def State.hopDisable (p : Nat) (s : State) : State :=
  if s.hop.busy.isSome ∨ 6 ≤ p then s
  else if 0 < (s.pool p).heldAll then { s with hop := { s.hop with result := 1 } }
  else ({ s with hop := { s.hop with result := 0 } }).setPool p { s.pool p with en := false }

/-- HOP_DISABLE. -/
def execHopDisable (p : Path) (pool : Nat) (s : State) : Result := .next (if s.coreTakes p then s.hopDisable pool else s)

/-- HOP_CACHE_REFILL (R383): with 16 or fewer indexes on chip. -/
def execHopCacheRefill (pool : Nat) (s : State) : Result :=
  .next (if s.memServes ∧ (s.pool pool).en ∧ (s.pool pool).cache.length ≤ 16 then s.hopRefill pool else s)

/-- HOP_CACHE_SPILL (R383): with 48 or more indexes on chip. -/
def execHopCacheSpill (pool : Nat) (s : State) : Result :=
  .next (if s.memServes ∧ (s.pool pool).en ∧ 48 ≤ (s.pool pool).cache.length then s.hopSpill pool else s)

/-- The two reserve words of an owner with one of them replaced (R391). -/
def State.withResv (s : State) (o : Nat) (b : Bool) (v : Word) : State :=
  s.setReg (if b then Reg.hopResvB o else Reg.hopResvA o) (if b then v &&& 0xFFFF#32 else v)

/-- A write of HOP_RESV (R388): a raised reserve of an enabled pool must keep the reserves within COUNT and FREE ≥ U, or
the whole write is discarded with CFG. -/
def State.resvWrite (p : Path) (o : Nat) (b : Bool) (v : Word) (s : State) : State :=
  let s' := s.withResv o b v
  let bad := (List.range 6).any fun q =>
    (s.pool q).en && decide (s.resv o q < s'.resv o q) &&
    (decide ((s.pool q).count < s'.resvSum q) || decide ((s.pool q).free < s'.unmet q))
  if bad then s.raiseErr .hopper 0 5 (Cap.reg p (if b then Reg.hopResvB o else Reg.hopResvA o)) else s'

/-- HOP_RESV_WRITE. -/
def execHopResvWrite (p : Path) (owner : Nat) (b : Bool) (value : Word) (s : State) : Result :=
  .next (if s.coreTakes p ∧ owner < 64 then s.resvWrite p owner b value else s)

/-- A write of a pool's configuration, accepted only while the pool is disabled, and of a COUNT of at most 1,048,576
(R388). -/
def State.poolCfgWrite (p : Path) (a q : Nat) (v : Word) (s : State) : State :=
  if (s.pool q).en ∨ (a = Reg.hopPoolCount q ∧ 1048576 < v.toNat) then s.raiseErr .hopper 0 5 (Cap.reg p a)
  else s.setReg a v

/-- A write of HOP_SCALE that changes the SCALE of an enabled pool is discarded (R388). -/
def State.scaleWrite (p : Path) (v : Word) (s : State) : State :=
  let old := s.reg Reg.hopScale
  if (List.range 6).any fun q => (s.pool q).en && fld old (3 * q + 2) (3 * q) != fld v (3 * q + 2) (3 * q) then
    s.raiseErr .hopper 0 5 (Cap.reg p Reg.hopScale)
  else s.setReg Reg.hopScale (v &&& 0x3FFFF#32)

end Sys2Proof.Machine
end

