-- ==== Sys2Proof/Machine/LeatOps.lean ====
section
/-!
DEFINITION. Leat queues: lanes, row units and fragments, spill segments and history, flush, staleness and queue reset (R111,
R112, R217 to R224, R239). The layout of a spill segment is the part's own, so only its count is held (assumption 32).
-/

namespace Sys2Proof.Machine

/-- Bytes of a spill segment: 248 items (R217). -/
def spillBytes : Nat := 15872

/-- Linked bytes of a lane that the consumer has not read, or the frames of a device. -/
def Lane.linkedBytes (x : Lane) : Nat := (x.units.map (·.bytes.length)).sum - x.taken + (x.frames.map (·.1.length)).sum
/-- Bytes in history (R220). -/
def Lane.histBytes (x : Lane) : Nat := x.read - x.base
/-- History items (R239). -/
def Lane.histItems (x : Lane) : Nat := ceilDiv x.histBytes 64

/-- The frame whose segments have their fragments in an encode lane. -/
def State.laneFrame (s : State) (l : Nat) : Option Frame :=
  let x := s.lane l
  if x.isOpen ∧ !x.device then (s.ses x.owner).frame else none

/-- Runners whose unit writes into an encode lane: their fragments are open (R190, R218). -/
def State.laneRunners (s : State) (l : Nat) : List (Nat × Runner) :=
  let x := s.lane l
  if x.isOpen ∧ !x.device then s.runners.phys.filter fun e => e.2.busy && e.2.unit.any (fun u => u.1 == x.owner) else []

/-- The fragments of a lane that are not linked: those whose runner is done, and those that runners write. -/
def State.laneFrags (s : State) (l : Nat) : List Nat :=
  ((s.laneFrame l).map fun f => f.segs.filterMap fun g => g.out.map (·.length)).getD [] ++
    (s.laneRunners l).map (·.2.m.outB.length)

/-- LEAT_LSTAT.FRAGS: fragments whose segment has not committed (R218, R239). -/
def State.openFrags (s : State) (l : Nat) : Nat :=
  ((s.laneFrame l).map fun f => (f.segs.filter fun g => g.out.isSome && g.st != .committed).length).getD 0 + (s.laneRunners l).length

/-- Live items of 64 bytes (R239). -/
def State.liveItems (s : State) (l : Nat) : Nat := ceilDiv ((s.lane l).linkedBytes + (s.laneFrags l).sum) 64

/-- The on-chip items of a lane: its queue's 32, shared evenly between its open lanes (R217; assumption 32). -/
def State.laneChip (s : State) (l : Nat) : Nat := if (s.lane (l / 2 * 2)).isOpen && (s.lane (l / 2 * 2 + 1)).isOpen then 16 else 32

/-- Spill segments that a lane's items need (R217). -/
def State.laneNeed (s : State) (l : Nat) : Nat := ceilDiv (s.liveItems l + (s.lane l).histItems - s.laneChip l) 248

/-- LEAT_OWNER. -/
def State.leatOwner (s : State) : Nat := fld (s.reg Reg.leatOwner) 5 0

/-- Segments set aside for all open lanes (LEAT_RESV). -/
def State.leatAside (s : State) : Nat := ((s.leat.lanes.filter (·.2.isOpen)).map (·.2.maxSegs)).sum

/-- The lane can be given MAX_SEGS out of the leat owner's reserved minimum (R217). -/
def State.leatRoom (s : State) (n : Nat) : Bool := decide (n + s.leatAside ≤ s.resv s.leatOwner 2)

/-- Both slots have switched and no packet below the switch index is left in history: OLD_FREE (R231). -/
def State.oldFree (n : Nat) (s : State) : State :=
  let x := (s.ses n).pkt
  match x.armed with
  | some (sw, _, _) =>
    if x.txDone ∧ x.rxDone ∧ x.oldFree = false ∧ x.index.all (fun e => decide (sw ≤ e.1) || !e.2.held) then
      (s.setPkt n { x with oldFree := true, old := [], armed := none }).pktEvt n 2 x.next 0
    else s
  | none => s

/-- A packet's bytes leave history (R220). -/
def State.histLose (n idx : Nat) (s : State) : State :=
  let x := (s.ses n).pkt
  match Tbl.get? x.index idx with
  | none => s
  | some e => s.setPkt n { x with index := Tbl.set x.index idx { e with held := false } }

/-- Where the oldest history segment of a lane ends, once all of it has been consumed (R220). -/
def Lane.histEnd (x : Lane) : Option Nat :=
  let e := (x.base / spillBytes + 1) * spillBytes
  if x.isOpen ∧ !x.device ∧ e ≤ x.read then some e else none

/-- The packets with bytes in the oldest history segment. -/
def Lane.histOld (x : Lane) (e : Nat) : List HistPkt := x.hist.filter fun h => decide (h.lo < e)

/-- The oldest history segment holds no bytes of a packet with a retransmission pending (R220). -/
def State.histMay (s : State) (l e : Nat) : Bool :=
  let x := s.lane l
  (x.histOld e).all fun h => !((s.ses x.owner).pkt.rtxWait.contains h.idx)

/-- Frees the oldest history segment (R219, R220). -/
def State.histFree (l e : Nat) (s : State) : State :=
  let x := s.lane l
  let s := s.setLane l { x with base := e, hist := x.hist.filter fun h => decide (e ≤ h.lo) }
  (x.histOld e).foldl (fun s h => s.histLose x.owner h.idx) s

/-- A lane at its limit frees its oldest history segments (R219). -/
def State.histTrim (l : Nat) : Nat → State → State
  | 0, s => s
  | fuel + 1, s =>
    if s.laneNeed l ≤ (s.lane l).maxSegs then s
    else
      match (s.lane l).histEnd with
      | none => s
      | some e => if s.histMay l e then (s.histFree l e).histTrim l fuel else s

/-- A lane as a requester of the Hopper. -/
def laneWho (l : Nat) : HopWho := .leat (l / 2) (l % 2)

/-- A lane's request for a segment waits in the pool's queue (R386). -/
def State.laneWaits (s : State) (l : Nat) : Bool := (s.pool 2).waiters.any fun w => w.who == laneWho l

/-- Asks for segments of the 16 KiB pool, one after another, until one has to wait (R217, R385, R386). -/
def State.laneTake (l : Nat) : Nat → State → State
  | 0, s => s
  | k + 1, s =>
    if s.laneWaits l then s
    else
      match s.hopRequest 2 s.leatOwner 16384 (laneWho l) with
      | (some b, s) => (s.setLane l { s.lane l with segs := (s.lane l).segs ++ [b] }).laneTake l k
      | (none, s) => s

/-- Takes the segments that a lane needs, up to MAX_SEGS, and returns those it does not (R219). -/
def State.laneFit (l : Nat) (s : State) : State :=
  let s := s.histTrim l (ceilDiv (s.lane l).histBytes spillBytes)
  let n := min (s.laneNeed l) (s.lane l).maxSegs
  let s := s.laneTake l (n - (s.lane l).segs.length)
  let y := s.lane l
  let s := s.setLane l { y with segs := y.segs.take n }
  (y.segs.drop n).foldl (fun s b => s.hopFree b) s

/-- A writer of the lane waits: it holds all the segments it may, or waits for one, and another item would not fit (R219). -/
def State.laneFull (s : State) (l : Nat) : Bool :=
  decide (248 * (s.lane l).segs.length + s.laneChip l ≤ s.liveItems l + (s.lane l).histItems)

/-- Opens a lane. -/
def State.laneOpen (l owner maxSegs : Nat) (device : Bool) (s : State) : State :=
  s.setLane l { Lane.reset with isOpen := true, device := device, owner := owner, maxSegs := maxSegs }

/-- Drops the fragments of an encode lane (R221, R223): those whose runner is done keep their place without bytes, and so will those
that runners write. -/
def State.fragsDrop (l : Nat) (s : State) : State :=
  let rs := s.laneRunners l
  let mine := fun (g : Seg) => rs.any fun e => e.2.unit.any fun u => u.2.1 == g.row && u.2.2 == g.col
  let s := match s.laneFrame l with
    | some f => s.setFrame (s.lane l).owner
        { f with segs := f.segs.map fun g => { g with out := g.out.map fun _ => [], cut := g.cut || mine g } }
    | none => s
  rs.foldl (fun s e => s.setRunner e.1
    { e.2 with m := { e.2.m with outBase := e.2.m.outBase + e.2.m.outB.length, outB := [] } }) s

/-- Drops the bytes of a lane: what is live, its open fragments, its history, and the retransmissions pending for it
(R223). -/
def State.laneDrop (l : Nat) (s : State) : State :=
  let x := s.lane l
  let s := if x.device ∨ x.isOpen = false then s
    else
      let s := x.hist.foldl (fun s h => s.histLose x.owner h.idx) s
      (s.setPkt x.owner { (s.ses x.owner).pkt with rtxWait := [] }).fragsDrop l
  let x := s.lane l
  (s.setLane l { x with units := [], pos := 0, taken := 0, base := x.read, hist := [], frames := [], stale := false }).laneFit l

/-- Closes a lane: its segments return (R219), and a request that waits is withdrawn. -/
def State.laneClose (l : Nat) (s : State) : State := ((s.laneDrop l).hopCancel 2 (laneWho l)).setLane l Lane.reset

/-- LEAT_FLUSH (R223): a packet under way is complete by then; an open lane stays open. -/
def State.leatFlush (l : Nat) (s : State) : State :=
  let s := if (s.lane l).isOpen then s.laneDrop l else s
  if (s.lane l).isOpen ∧ (s.lane l).device = false then s.oldFree (s.lane l).owner else s

/-- LEAT_FLUSH. -/
def execLeatFlush (p : Path) (value : Word) (s : State) : Result :=
  .next (if s.coreTakes p then s.leatFlush (2 * fld value 7 0 + fld value 8 8) else s)

/-! ## Row units (R111, R112, R218, R224) -/

/-- The segments of a picture in bitstream order: first row of the unit, one past its last, row and tile column (R111). -/
def bitOrder (d : List Byte) : List (Nat × Nat × Nat × Nat) :=
  ((List.range (dNy d)).filter fun r => (dUnit d r).1 == r).flatMap fun r =>
    let (a, b) := dUnit d r
    (List.range (dCols d)).flatMap fun c => (List.range (b - a)).map fun i => (a, b, a + i, c)

/-- Bits that number `n` tiles across, as tile_log2 of the AV1 standard gives (PRESUMED, assumption 30). -/
def tileLog (n : Nat) : Nat := ((List.range 8).find? fun k => decide (n ≤ 2 ^ k)).getD 8

/-- What stands between the size of a tile group OBU and its tiles: tile_start_and_end_present_flag, and with it the first and last
tile where the picture has more tile rows than one (PRESUMED, assumption 30). -/
def tileMark (cols rows r : Nat) : List Byte :=
  if cols * rows ≤ 1 then []
  else if rows ≤ 1 then [0]
  else
    let b := tileLog cols + tileLog rows
    let v := (2 ^ b + r * cols) * 2 ^ b + (r * cols + cols - 1)
    let n := ceilDiv (1 + 2 * b) 8
    beBytes n (v * 2 ^ (8 * n - 1 - 2 * b))

/-- The tiles of a tile group with tile_size_minus_1 in four bytes before each but the last (R224; assumption 30). -/
def sizedTiles : List Nat → List Byte → List Byte
  | [], l => l
  | [_], l => l
  | n :: t, l => leBytes 4 (n - 1) ++ l.take n ++ sizedTiles t (l.drop n)

/-- The tile row that starts at a coding row (R110). -/
def tileRowAt (d : List Byte) (row : Nat) : Nat := ((List.range row).filter fun r => (dUnit d r).1 == r).length

/-- How many tile rows a picture has. -/
def tileRowsOf (d : List Byte) : Nat := ((List.range (dNy d)).filter fun r => (dUnit d r).1 == r).length

/-- The tile group OBU of an AV1 row unit: header with obu_has_size_field 1, size, tiles (R111, R224). -/
def tileGroup (d : List Byte) (row : Nat) (tiles : List Nat) (l : List Byte) : List Byte :=
  obu 0x22 (tileMark (dCols d) (tileRowsOf d) (tileRowAt d row) ++ sizedTiles tiles l)

/-- Bytes that complete a row unit beyond its segments': the OBU header, size and tile sizes of an AV1 unit (R224). -/
def unitExtra (d : List Byte) (row bytes : Nat) : Nat :=
  if dCodec d = 3 then
    let n := (tileMark (dCols d) (tileRowsOf d) (tileRowAt d row)).length + 4 * (dCols d - 1)
    1 + (leb128 8 (n + bytes)).length + n
  else 0

/-- Links one fragment into its row unit (R218). -/
def State.linkOne (n l : Nat) (f : Frame) (o : Nat × Nat × Nat × Nat) (bytes : List Byte) (s : State) : State :=
  let d := (s.ses n).desc
  let x := s.lane l
  let (a, b, row, col) := o
  let full := row + 1 = b ∧ col + 1 = dCols d
  let here := fun (u : RowUnit) => u.frame == f.k && u.row == a
  let head := if a = 0 then prefixBytes f.units else []
  let u : RowUnit := match x.units.find? here with
    | some u => u
    | none => { frame := f.k, tk := f.tk, row := a, bytes := if row = a ∧ col = 0 then head else [], tiles := [], full := false,
                last := b == dNy d, params := f.params && a == 0, since := s.tick }
  let tiles := if row = a ∨ u.tiles.isEmpty then u.tiles ++ [bytes.length]
    else u.tiles.dropLast ++ [u.tiles.getLastD 0 + bytes.length]
  let body := u.bytes ++ bytes
  let pre := body.length - tiles.sum
  let u := { u with full := full, tiles := tiles
                    bytes := if full ∧ dCodec d = 3 then body.take pre ++ tileGroup d a tiles (body.drop pre) else body }
  s.setLane l { x with units := if x.units.any here then x.units.map fun v => if here v then u else v else x.units ++ [u] }

/-- Links every committed fragment of a session's picture that is next in bitstream order (R113, R218). -/
def State.laneLink (n : Nat) (s : State) : State :=
  match (s.ses n).frame with
  | none => s
  | some f =>
    let d := (s.ses n).desc
    let l := dLane d
    let seg := fun (o : Nat × Nat × Nat × Nat) => f.segs.find? fun g => g.row == o.2.2.1 && g.col == o.2.2.2 && g.st == .committed
    let os := (bitOrder d).takeWhile fun o => (seg o).isSome
    let s := os.foldl (fun s o =>
      match (seg o).bind (·.out) with
      | some bytes => s.linkOne n l f o bytes
      | none => s) s
    let linked := fun (g : Seg) => os.any fun o => g.row == o.2.2.1 && g.col == o.2.2.2
    let s := match (s.ses n).frame with
      | some f => s.setFrame n { f with segs := f.segs.map fun g => if linked g then { g with out := none } else g }
      | none => s
    s.laneFit l

/-! ## Staleness, history and reset (R220 to R222) -/

/-- When the oldest bytes that the consumer has not read were linked or last read. -/
def Lane.oldest (x : Lane) : Option Nat := if x.device then (x.frames.head?).map (·.2) else (x.units.head?).map (·.since)

/-- LEAT_STALE (R222): linked bytes have not been read for LEAT_STALE_US. -/
def State.leatStale (l : Nat) (s : State) : State :=
  let x := s.lane l
  let us := fld (s.reg Reg.leatStaleUs) 23 0
  match x.oldest with
  | none => s
  | some t =>
    if us ≠ 0 ∧ x.isOpen ∧ !x.stale ∧ s.coreUp then
      let s := s.reach (t + usTicks us)
      let s := ((s.setLane l { x with stale := true }).raiseErr .leat0 0 2 (Cap.obj l)).raiseInt .leat0 0 1 0
      if x.device then s else s.pktEvt x.owner 3 (s.ses x.owner).pkt.next ((s.tick - t) / 1250)
    else s

/-- LEAT_STALE. -/
def execLeatStale (queue lane : Nat) (s : State) : Result := .next (s.leatStale (2 * queue + lane % 2))

/-- When a packet in history was sent: the send time of the index, where it has one; none while it has not been sent (R220, R228). -/
def State.histSent (s : State) (n : Nat) (h : HistPkt) : Option Nat :=
  match Tbl.get? (s.ses n).pkt.index h.idx with
  | some e => e.sent
  | none => some h.at_

/-- HISTORY_EXPIRY (R220): every packet of the oldest history segment is older than HIST_MS, and none has a retransmission
pending. -/
def State.historyExpiry (l : Nat) (s : State) : State :=
  let x := s.lane l
  let ms := dHist (s.ses x.owner).desc
  match x.histEnd with
  | none => s
  | some e =>
    let ts := (x.histOld e).map (s.histSent x.owner)
    if ms ≠ 0 ∧ s.coreUp ∧ s.histMay l e ∧ ts.all (·.isSome) then
      let s := s.reach (maxOf (ts.map fun t => t.getD 0) + msTicks ms + 1)
      ((s.histFree l e).laneFit l).oldFree x.owner
    else s

/-- HISTORY_EXPIRY. -/
def execHistoryExpiry (queue lane : Nat) (s : State) : Result := .next (s.historyExpiry (2 * queue + lane % 2))

/-- Pictures with live bytes in an encode lane: linked, and in fragments (R221). -/
def State.lanePics (s : State) (l : Nat) : List Nat :=
  (((s.lane l).units.map (·.frame)) ++ (if s.laneFrags l = [] then [] else ((s.laneFrame l).map (·.k)).toList)).dedup

/-- The pictures of a session that are given up at once count as lost, each as a packet loss (R161, R221). -/
def State.picsLost (n : Nat) (ks : List Nat) (s : State) : State :=
  ks.foldl (fun s k =>
    let base := ((s.rses n).pics.filter fun q => q.frame == k && q.isRef).map (·.num)
    if base.isEmpty then s else s.refMarkLost n k base) s

/-- One lane of a queue that is reset (R221). -/
def State.laneReset (l : Nat) (s : State) : State :=
  let x := s.lane l
  if !x.isOpen then s
  else if x.device then s.laneDrop l
  else
    let n := x.owner
    let ks := s.lanePics l
    let p := (s.ses n).pkt
    let s := (s.setPkt n { p with miss := sat32 (p.miss + p.rtxWait.length) }).laneDrop l
    let s := match (s.ses n).frame with
      | some f => if ks.contains f.k then s.setFrame n { f with dropped := true } else s
      | none => s
    (s.picsLost n ks).pktEvt n 1 p.next ks.length

/-- A queue reset (R221). -/
def State.queueReset (q : Nat) (s : State) : State :=
  let s := (s.laneReset (2 * q)).laneReset (2 * q + 1)
  { s with leat := { s.leat with resets := Tbl.set s.leat.resets q (sat (Tbl.getD s.leat.resets q 0 + 1) 0xFFFF) } }.bump
    Reg.leatResetTotal

/-! ## EGRESS_FLOW lanes (R217, R331) -/

/-- The flow that a device owns, with its lane. -/
def State.deviceFlow (s : State) (dev : Nat) : Option Nat := (s.flows.find? fun e => e.2.owner == .device dev).map (·.1)

/-- Frames of a device's lane enter its flow, at most two of them at once (R292). A frame comes to its lane in one piece, so that
CT_BYTES of it are there as soon as all of it is (R226, R326; assumption 107). -/
def State.laneFeed (l : Nat) : Nat → State → State
  | 0, s => s
  | fuel + 1, s =>
    let x := s.lane l
    match x.frames, s.deviceFlow x.owner with
    | g :: t, some f =>
      match s.flow? f with
      | none => s
      | some y =>
        if x.isOpen ∧ x.device ∧ y.pkts.length < 2 ∧ s.cellsFor srcSluice (frameCells g.1) then
          let s := s.setLane l { x with frames := t, pkts := (x.pkts + 1) % 2 ^ 32, stale := false }
          ((s.flowPut f ⟨g.1, false, 2 ^ 48⟩ false).laneFit l).laneFeed l fuel
        else s
    | _, _ => s

/-- Feeds every device's flow. -/
def State.feedDevices (s : State) : State :=
  (s.leat.lanes.filter fun e => e.2.device && e.2.isOpen).foldl (fun s e => s.laneFeed e.1 e.2.frames.length) s

/-- SLUICE_FINE_SLOT. -/
def execSluiceFineSlot (s : State) : Result := .next (if s.sluiceOn then s.fineStep.feedDevices else s)

end Sys2Proof.Machine
end

