-- ==== Sys2Proof/Machine/PcieOps.lean ====
section
/-!
DEFINITION. What blocks do through PCIe links: which link serves which role, mastering (R307), posted writes (R51) and
MSI-X (R306). The places of the capability registers in configuration space are PRESUMED (assumption 14).
-/

namespace Sys2Proof.Machine

/-- The configuration registers of a PCIE page, by byte address (R319). -/
def pcieConfig (a : Nat) : Bool :=
  let off := a % 1024
  (decide (0x40 ≤ off) && decide (off < 0x64)) || (decide (0x80 ≤ off) && decide (off < 0x8C))

/-- PCIE_CFG of a page. -/
def State.pcieCfg (s : State) (n : Nat) : Word := s.reg (Reg.pcieCfg n)

/-- How many quads a WIDTH takes (R299). -/
def widthQuads (w : Nat) : Nat := if w = 0 then 1 else if w = 1 then 2 else 4

/-- The quads of the link configured in page `n` (R299). -/
def State.linkQuads (s : State) (n : Nat) : List Nat :=
  (List.range (widthQuads (fld (s.pcieCfg n) 5 4))).map (n + ·)

/-- The link configured in page `n` is enabled (R298). -/
def State.linkEn (s : State) (n : Nat) : Bool := n < s.part.pcieQuads && flag (s.pcieCfg n) 16

/-- ROLE of the link configured in page `n`. -/
def State.linkRole (s : State) (n : Nat) : Nat := fld (s.pcieCfg n) 1 0

/-- The enabled link whose quads take in quad `q`, if any (R299). -/
def State.linkOfQuad (s : State) (q : Nat) : Option Nat :=
  (List.range s.part.pcieQuads).find? fun n => s.linkEn n && (s.linkQuads n).contains q

/-- Quad `q` belongs to an enabled link configured elsewhere (PCIE_LINK.MEMBER). -/
def State.isMember (s : State) (q : Nat) : Bool :=
  match s.linkOfQuad q with
  | some n => n != q
  | none => false

/-- The host endpoint (R298). -/
def State.hostLink (s : State) : Option Nat :=
  (List.range s.part.pcieQuads).find? fun n => s.linkEn n && s.linkRole n == 1

/-- The endpoint of renderer `r` (R298). -/
def State.rendererLink (s : State) (r : Nat) : Option Nat :=
  (List.range s.part.pcieQuads).find? fun n => s.linkEn n && s.linkRole n == 2 && fld (s.pcieCfg n) 10 8 == r

/-- The link of an outside memory: 0 host, 1 to 8 renderer endpoint 0 to 7. -/
def State.linkOfSpace (s : State) (space : Nat) : Option Nat :=
  if space = 0 then s.hostLink else s.rendererLink (space - 1)

/-- Dword of configuration space that holds PM Control/Status, MSI-X Message Control and Device Control. -/
def cfgPmcsr : Nat := 17
/-- See `cfgPmcsr`. -/
def cfgMsix : Nat := 20
/-- See `cfgPmcsr`. -/
def cfgDevCtl : Nat := 30

/-- A dword of a function's configuration space; Device Control resets to 128 and 512 bytes (R494). -/
def Link.cfgWord (l : Link) (r : Nat) : Word := Tbl.getD l.cfg r (if r = cfgDevCtl then 0x2000#32 else 0)

/-- Max Payload Size in bytes (R300, R494). -/
def Link.mps (l : Link) : Nat := min 512 (128 * 2 ^ fld (l.cfgWord cfgDevCtl) 7 5)

/-- Max Read Request Size in bytes (R300, R494). -/
def Link.mrrs (l : Link) : Nat := min 4096 (128 * 2 ^ fld (l.cfgWord cfgDevCtl) 14 12)

/-- The link is up with its role, Bus Master Enable is 1, and the function is in D0 (R307). -/
def Link.masters (l : Link) : Bool := l.up && !l.dead && flag (l.cfgWord 1) 2 && fld (l.cfgWord cfgPmcsr) 1 0 == 0

/-- A quad of the link is being powered down: it takes no new work (R424). -/
def State.linkDraining (s : State) (n : Nat) : Bool :=
  (s.linkQuads n).any fun q => s.clk.drains.any fun d => d.dom == .quad q

/-- The endpoint can master (R307). -/
def State.canMaster (s : State) (n : Nat) : Bool :=
  s.coreUp && s.linkEn n && !s.linkDraining n && (s.link n).masters

/-- The link of an outside memory that transfers in flight use, one that is powering down included (R424). -/
def State.openLink (s : State) (space : Nat) : Option Nat :=
  (List.range s.part.pcieQuads).find? fun n =>
    (s.linkEn n || s.linkDraining n) &&
    (if space = 0 then s.linkRole n == 1 else s.linkRole n == 2 && fld (s.pcieCfg n) 10 8 == space - 1)

/-- A transfer in flight reaches the outside memory (R424). -/
def State.spaceOpen (s : State) (space : Nat) : Bool :=
  match s.openLink space with
  | some n => s.coreUp && (s.link n).masters
  | none => false

/-- The outside memory can be reached now (R307). -/
def State.spaceUp (s : State) (space : Nat) : Bool :=
  match s.linkOfSpace space with
  | some n => s.canMaster n
  | none => false

/-- A posted write into an outside memory, whole or not at all (R424). -/
def State.post (space a : Nat) (bytes : List Byte) (s : State) : State :=
  if s.spaceUp space then s.emit (.write space a bytes) else s

/-- A vector of the host endpoint. -/
def Link.vec (l : Link) (v : Nat) : MsixVec := Tbl.getD l.vecs v MsixVec.reset

/-- Messages are held for every vector: MSI-X is off or the Function Mask is set (R306). -/
def Link.msixHeld (l : Link) : Bool := !flag (l.cfgWord cfgMsix) 31 || flag (l.cfgWord cfgMsix) 30

/-- MSI-X vector `v` of the host endpoint: sent, or its PBA bit set while it is masked (R306). -/
def State.msix (v : Nat) (s : State) : State :=
  match s.hostLink with
  | none => s
  | some n =>
    let l := s.link n
    let x := l.vec v
    if x.mask || l.msixHeld || !s.canMaster n then s.setLink n { l with vecs := Tbl.set l.vecs v { x with pend := true } }
    else s.emit (.write 0 x.addr (leBytes 4 x.data))

/-- Sends the messages of vectors that are pending and no longer held (R306). -/
def State.msixFlush (n : Nat) (s : State) : State :=
  if s.canMaster n && !(s.link n).msixHeld then
    ((s.link n).vecs).foldl (fun s e =>
      if e.2.pend && !e.2.mask then
        let l := s.link n
        (s.setLink n { l with vecs := Tbl.set l.vecs e.1 { e.2 with pend := false } }).emit
          (.write 0 e.2.addr (leBytes 4 e.2.data))
      else s) s
  else s

end Sys2Proof.Machine
end

