-- ==== Sys2Proof/Machine/Sessions.lean ====
section
/-!
DEFINITION. Encode sessions: SETUP, START, STOP and ABORT, the stripe doorbell, comparator matches, and the start and
completion of frames (R56 to R77, R108, R115, R128, R150 to R166).
-/

namespace Sys2Proof.Machine

/-! ## Loads (R64, R91) -/

/-- A sum of fractions. -/
def fracSum (l : List (Nat × Nat)) : Nat × Nat :=
  l.foldl (fun a b =>
    let n := a.1 * b.2 + b.1 * a.2
    let d := a.2 * b.2
    let g := max 1 (Nat.gcd n d)
    (n / g, d / g)) (0, 1)

/-- The load of tile column `c` of a session on its stone (R64). -/
def State.colLoad (s : State) (d : List Byte) (c : Nat) : Nat × Nat :=
  (dColW d c * dBlk d * dHa d * 20 * 2 ^ 32, max 1 (s.framePer d * rate20 (dPreset d)))

/-- The session counts in the admission sums (R64). -/
def Ses.counts (x : Ses) : Bool := x.st == .running || x.st == .held || x.st == .stopping

/-- The descriptors of the admitted sessions. -/
def State.admitted (s : State) : List (List Byte) := (s.sessions.filter fun e => e.2.counts).map (·.2.desc)

/-- The sum of a logical stone over a list of descriptors. -/
def State.stoneSum (s : State) (ds : List (List Byte)) (l : Nat) : Nat × Nat :=
  fracSum (ds.flatMap fun d => ((List.range (dCols d)).filter fun c => dStone d c == l).map (s.colLoad d))

/-- STONE_LOAD of a logical stone: units of 1/32,768, rounded up (R64, R77). -/
def State.stoneLoad (s : State) (l : Nat) : Nat :=
  let (a, b) := s.stoneSum s.admitted l
  ceilDiv (a * 32768) b

/-- Pixels of a picture over a frame period as a fraction of 10^9 pixels a second. -/
def State.pixLoad (s : State) (d : List Byte) (pix : Nat) : Nat × Nat := (pix * 2 ^ 32, max 1 (s.framePer d))

/-- The admission tests of R64 and R91 over a list of descriptors, for the stones and the Bolter of `d`. -/
def State.admits (s : State) (ds : List (List Byte)) (d : List Byte) : Bool :=
  (dStones d).all (fun l => let (a, b) := s.stoneSum ds l; decide (a ≤ b)) &&
  (let own := ds.filter fun e => dBolter e == dBolter d
   let (a, b) := fracSum (own.map fun e => s.pixLoad e (dWidth e * dHeight e))
   let (x, y) := fracSum (own.map fun e => s.pixLoad e (dInW e * dInH e))
   decide (a ≤ 2 * b) && decide (x ≤ 8 * y))

/-! ## Ending a session -/

/-- The pictures in progress of a session hold no reference any more (R153). -/
def State.sesDropFrame (n : Nat) (s : State) : State :=
  match (s.ses n).active with
  | none => s
  | some f => if f.coded then s else (s.refEnd f.refs).setFrame n { f with segs := [], input := [], done := true }

/-- Stones drop the segments of a session. -/
def State.stonesDrop (n : Nat) (s : State) : State :=
  let s := s.stones.foldl (fun s e => s.setStone e.1 { s.stone e.1 with
    busy := (s.stone e.1).busy && (s.stone e.1).ses != n, units := (s.stone e.1).units.filter fun u => u.1 != n }) s
  s.runners.phys.foldl (fun s e =>
    if e.2.busy && e.2.unit.any (fun u => u.1 == n) then s.setRunner e.1 { e.2 with busy := false, unit := none } else s) s

/-- The Bolter discards the output of a session's row in progress (R92). -/
def State.bolterDrop (n : Nat) (s : State) : State :=
  s.bolters.foldl (fun s e =>
    if (s.bolter e.1).busy ∧ (s.bolter e.1).ses = n then s.setBolter e.1 { s.bolter e.1 with drop := true } else s) s

/-- The resources of a session are released: buffers, session block, lane and flow (R56, R152, R219, R292). -/
def State.sesUnbind (n : Nat) (s : State) : State :=
  let d := (s.ses n).desc
  let s := { s with ckpts := s.ckpts.filter fun e => e.1 / 16 != n
                    runners := { s.runners with ckpts := s.runners.ckpts.filter (fun e => e.1 / 8 != n),
                                                again := s.runners.again.filter fun e => e.1 != n } }
  if d.isEmpty then s else ((s.refRelease n).laneClose (dLane d)).flowUnbind (dFlow d)

/-- The session is FREE: it keeps only what its window shows of the past. -/
def State.sesFree (n : Nat) (s : State) : State :=
  let s := s.sesUnbind n
  let x := s.ses n
  s.setSes n { Ses.reset with late := x.late, dbDrop := x.dbDrop, lastDur := x.lastDur, preset := x.preset,
                              frame := x.frame.map fun f => { f with segs := [], input := [], done := true } }

/-- The effects of ABORT (R57). -/
def State.sesKill (n : Nat) (s : State) : State :=
  let s := ((s.sesDropFrame n).stonesDrop n).bolterDrop n
  s.setSes n { s.ses n with st := .free, due := [], lateDue := [] }

/-- A refused command: REFUSED and CMD_REFUSED (R59, R76, R77); an unlisted code raises neither (R493). -/
def State.sesRefused (n code : Nat) (s : State) : State :=
  if code = 0 ∨ code = 8 then s
  else
    let s := s.raiseErr .sessions 0 3 (Cap.obj n)
    if n < s.part.encSessions then s.sesEvt n 3 code 0 0 else s

/-- A session command ends with a result code. -/
def State.sesEnd (b : CmdBy) (n cmd code : Nat) (s : State) : State :=
  (s.sesRefused n code).sesAnswer b Reg.sesResult n cmd code

/-! ## SETUP (R59 to R61, R109, R126, R152, R217) -/

/-- A slot holds an SRTP master key. -/
def State.isSrtp (s : State) (n : Nat) : Bool := (s.slot n).typ == 2

/-- The aperture of renderer `r`'s endpoint: base and size (R319). -/
def State.aperture (s : State) (r : Nat) : Option (Nat × Nat) :=
  (s.rendererLink r).map fun n =>
    let l := fld (s.reg (Reg.pcieAp n)) 5 0
    (s.reg64 (Reg.pcieApBaseLo n), 2 ^ (if 20 ≤ l ∧ l ≤ 36 then l else 20))

/-- The ingest window lies inside the aperture (R61 item 4). -/
def State.inAperture (s : State) (d : List Byte) : Bool :=
  match s.aperture (dRenderer d) with
  | none => true
  | some (b, n) => decide (b ≤ dIngest d) && decide (dIngest d + dSlots d * dStride d ≤ b + n)

/-- Two lists hold no number twice. -/
def noTwice (l : List Nat) : Bool := decide (l.dedup.length = l.length)

/-- The checks of a descriptor but those on its rate (R61, R109, R217, R286). `f` is the flow's description. -/
def State.sesDescFits (s : State) (n : Nat) (d t : List Byte) (f : Option FlowDesc) : Bool :=
  let g := dGclass d
  dCheckPicture d && dCheckInput d && dCheckCoding d && dCheckTransport d t &&
  noTwice (dStones d) && (dStones d).all (fun l => decide (l < s.part.stonesUse)) &&
  decide (2 ≤ dSlots d ∧ dSlots d ≤ 4) && s.inAperture d &&
  (!s.clsEn g || (s.clsW g == dN64 d && s.clsH g == ceilDiv (dHeight d) 64 && s.clsB g == (if dDepth d = 8 then 1 else 2))) &&
  f.isSome &&
  (let l := s.lane (dLane d); !l.isOpen || (!l.device && l.owner == n)) &&
  (match s.flow? (dFlow d) with
   | some y => y.owner == .session n
   | none => true) &&
  s.isSrtp (dTxKey d) && s.isSrtp (dRxKey d)

/-- BAD_DESC does not apply (R61, R109, R126, R152, R217, R286). -/
def State.sesDescOk (s : State) (n : Nat) (d t : List Byte) (f : Option FlowDesc) : Bool :=
  dCheckRate d (s.framePer d) && dCheckRefs d (s.framePer d) && s.sesDescFits n d t f

/-- Every unit and endpoint that the descriptor names is there (R61, R152, R442). -/
def State.sesPresent (s : State) (d : List Byte) : Bool :=
  decide (dBolter d < Fam.count s.part .bolter) && (s.rendererLink (dRenderer d)).isSome && s.clsEn (dGclass d) &&
  (dStones d).all fun l => (s.stoneOf l).isSome

/-- Every logical stone named has a runner bound to it (R191). -/
def State.sesRunners (s : State) (d : List Byte) : Bool :=
  (dStones d).all fun l =>
    match s.imageAt 1 l with
    | some i => encServes i.id (dCodec d) (dEntropy d)
    | none => false

/-- Binds the resources of a checked descriptor (R57, R152, R215, R219). SES_STATE.PRESET_NOW shows its PRESET until a frame starts
(DESIGN CHOICE, assumption 95). -/
def State.sesBind (n : Nat) (d t : List Byte) (f : FlowDesc) (s : State) : State :=
  let s := s.setSes n { Ses.reset with
    st := .ready, desc := d, preset := dPreset d
    gov := { Gov.reset with full := fullAtStart d, cNow := congStart d, cForce := congStart d }
    pkt := { Pkt.reset with tmpl := t, next := dSeq0 d, tx := s.srtpKey (dTxKey d), rx := s.srtpKey (dRxKey d) } }
  let s := s.slotUse [dTxKey d, dRxKey d]
  ((s.refBind n (dGclass d) (1 + dNshort d + dNlong d) true).laneOpen (dLane d) n (dMaxSegs d) false).flowBind (dFlow d) f
    (.session n)

/-- SETUP of a session with the descriptor at an address (R57 to R61). -/
def State.sesSetup (n addr : Nat) (s : State) : Nat × State :=
  if s.part.encSessions ≤ n then (2, s)
  else if (s.ses n).st ≠ .free ∧ (s.ses n).st ≠ .ready then (1, s)
  else
    match s.readBytes 0x122 0x0 addr 256 with
    | (none, s) => (3, s)
    | (some d, s) =>
      let (t, s) := s.readBytes 0x123 0x0 (s.reg64 Reg.pktTmplBaseLo + 128 * dTmpl d) 128
      let (f, s) := s.readFlow (dFlow d)
      match t, f with
      | some t, some f =>
        if !s.sesDescOk n d t (some f) then (3, s)
        else if !s.sesPresent d then (7, s)
        else if !s.sesRunners d then (5, s)
        else
          let s' := s.sesUnbind n
          if !s'.refRoom (dGclass d) (1 + dNshort d + dNlong d) true then (6, s)
          else if !s'.leatRoom (dMaxSegs d) then (4, s)
          else (0, s'.sesBind n d t f)
      | _, _ => (3, s)

/-- The descriptor address that a command brings (R60). -/
def State.cmdAddr (s : State) (b : CmdBy) (lo : Nat) : Nat :=
  match b with
  | .reg p => s.preg64 p lo / 64 * 64
  | .channel c => ((s.chan c).run.map (·.step.addr)).getD 0 / 64 * 64

/-- SES_SETUP. -/
def execSesSetup (b : CmdBy) (session : Nat) (s : State) : Result :=
  .next (if s.coreUp ∧ s.byStep b 4 1 session then
    let (c, s) := s.sesSetup session (s.cmdAddr b Reg.sesDescLo)
    s.sesEnd b session 1 c else s)

/-! ## START, STOP and ABORT -/

/-- START (R57, R61, R64, R74); lines that doorbells brought in READY stay held (R67); C starts anew and G at 0 (R140, R141). -/
def State.sesStart (n : Nat) (s : State) : Nat × State :=
  let x := s.ses n
  let d := x.desc
  if s.part.encSessions ≤ n then (2, s)
  else if x.st ≠ .ready ∨ !s.running then (1, s)
  else if s.framePer d < usNet (dDeadline d) then (3, s)
  else if !s.admits (d :: s.admitted) d then (4, s)
  else
    let s := s.setSes n { x with
      st := .running, late := 0, debt := 0, begun := false, count := 0, due := [], lateDue := [], next := 0
      frame := none, sinceKey := 0, ahead := none, preset := dPreset d
      gov := { x.gov with lastAt := s.tick, toAt := s.tick, cNow := congStart d, cForce := congStart d, pendAt := none, hold := 0, grad := 0, gradOld := 0 }
      pkt := { x.pkt with srAt := s.tick + msTicks (dSrMs d) } }
    (0, s.sesEvt n 1 0 0 0)

/-- SES_START. -/
def execSesStart (b : CmdBy) (session : Nat) (s : State) : Result :=
  .next (if s.coreUp ∧ s.byStep b 4 2 session then
    let (c, s) := s.sesStart session
    s.sesEnd b session 2 c else s)

/-- STOP (R57, R58): the rows of the last frame that lack lines are coded in floor mode at once. R58 takes from R72 how they are
coded; INGEST_SHORT and its error source stay the timeout's (DESIGN CHOICE, assumption 96). -/
def State.sesStop (n : Nat) (s : State) : Nat × State :=
  let x := s.ses n
  if s.part.encSessions ≤ n then (2, s)
  else
    match x.st with
    | .ready => (0, s.sesFree n)
    | .running | .held =>
      let s := s.setSes n { x with st := .stopping, due := [], lateDue := [] }
      (0, match (s.ses n).active with
        | some f => s.setFrame n { f with timedOut := true }
        | none => s)
    | _ => (1, s)

/-- SES_STOP. -/
def execSesStop (b : CmdBy) (session : Nat) (s : State) : Result :=
  .next (if s.coreUp ∧ s.byStep b 4 3 session then
    let (c, s) := s.sesStop session
    s.sesEnd b session 3 c else s)

/-- ABORT (R57). -/
def State.sesAbort (n : Nat) (s : State) : Nat × State :=
  if s.part.encSessions ≤ n then (2, s)
  else if (s.ses n).st = .free then (1, s)
  else (0, ((s.sesKill n).sesEvt n 7 0 0 0).sesFree n)

/-- SES_ABORT. -/
def execSesAbort (b : CmdBy) (session : Nat) (s : State) : Result :=
  .next (if s.coreUp ∧ s.byStep b 4 4 session then
    let (c, s) := s.sesAbort session
    s.sesEnd b session 4 c else s)

/-- A STOPPING session has nothing left: its last frame is complete, its lane and flow are empty, and no frame of it is in
the switch on its way out of the Sluice (R58). -/
def State.sesSpent (s : State) (n : Nat) : Bool :=
  let x := s.ses n
  let l := s.lane (dLane x.desc)
  x.st == .stopping && x.active.isNone && l.units.isEmpty && (s.laneFrags (dLane x.desc)).isEmpty && x.pkt.rtxWait.isEmpty &&
  ((s.flow? (dFlow x.desc)).map (·.pkts.isEmpty)).getD true

/-- SESSION_STOPPED. -/
def execSessionStopped (session : Nat) (s : State) : Result :=
  .next (if s.coreUp ∧ s.sesSpent session then
    ((s.setSes session { s.ses session with st := .free }).sesEvt session 2 0 0 0).sesFree session else s)

/-- An eviction (R445): the effects of ABORT, with EVICTED whatever EVENT_EN holds. -/
def State.sesEvict (n pgId : Nat) (s : State) : State :=
  if (s.ses n).st = .free then s
  else
    let s := s.sesKill n
    let p := s.sesHead n (s.ses n).frameNo 0 0 0 ++ leBytes 4 pgId
    (s.send .session (1024 + n) (.sesRec 0x0B 3 (padTo 40 p))).sesFree n

/-! ## The stripe doorbell (R66, R67) -/

/-- Lines held of a frame. -/
def Ses.held (x : Ses) (k : Nat) : Nat := Tbl.getD x.lines k 0

/-- A STRIPE_DB write of a renderer: a stripe message, or a discard (R67). -/
def State.stripe (r : Nat) (v : Word) (s : State) : State :=
  let n := fld v 8 0
  let lines := fld v 22 9
  let x := s.ses n
  let off := (fld v 30 23 + 256 - x.kRd % 256) % 256
  let k := x.kRd + off
  if x.st = .free ∨ x.st = .stopping ∨ dRenderer x.desc ≠ r ∨ flag v 31 ∨ dInH x.desc < lines ∨ dSlots x.desc ≤ off then
    let l := (s.rendererLink r).getD 0
    let s := s.raiseErr .sessions 0 0 (Cap.mem 0 (0x1C0 + l) 0x1)
    s.setSes n { x with dbDrop := sat32 (x.dbDrop + 1) }
  else if lines ≤ x.held k then s
  else (s.setSes n { x with lines := Tbl.set x.lines k lines }).send .stripe (1024 + n) (.stripe v)

/-- STRIPE_DB. -/
def execStripeDb (renderer : Nat) (value : Word) (s : State) : Result :=
  .next (if s.coreUp then s.stripe renderer value else s)

/-! ## Comparator matches (R70) -/

/-- The class of the next picture in order of display (R108), by the pictures since the last key picture: a key picture first and,
outside LOWDELAY, after every KEY_INTERVAL pictures; between anchors, BFRAMES B pictures. -/
def picClass (d : List Byte) (since : Nat) : PicCls :=
  if since = 0 ∨ (!dLow d ∧ dKeyInt d ≠ 0 ∧ dKeyInt d ≤ since) then .key
  else if since % (dBframes d + 1) = 0 then .p else .b

/-- A session counts a match of its trigger; each (DIVIDER + 1)th makes a frame due. -/
def Ses.match_ (x : Ses) (t : Nat) : Ses :=
  let c := if x.begun then x.count + 1 else 0
  let k := c / (dDivider x.desc + 1)
  let x := { x with begun := true, count := c, t0 := if x.begun then x.t0 else t + dPhase x.desc }
  if c % (dDivider x.desc + 1) = 0 ∧ x.st = .running then
    let cls := picClass x.desc x.sinceKey
    { x with due := x.due ++ [⟨k, t + dPhase x.desc, cls⟩], sinceKey := if cls = .key then 1 else x.sinceKey + 1 }
  else x

/-- COMPARATOR_MATCH (R70, R282 to R285). A match that passes while a session is HELD counts for nothing, not as M_0 either
(DESIGN CHOICE, assumption 93). -/
def State.comparator (n : Nat) (s : State) : State :=
  match Tbl.get? s.tb.next n with
  | none => s
  | some t =>
    if s.live ∧ s.cmpEn n then
      let s := s.cmpHit n t
      { s with sessions := s.sessions.map fun e =>
          if dTrig e.2.desc = n ∧ (e.2.st = .running ∨ e.2.st = .stopping) then (e.1, e.2.match_ t) else e }
    else s

/-- COMPARATOR_MATCH. -/
def execComparatorMatch (n : Nat) (s : State) : Result := .next (s.comparator n)

/-! ## The start of a frame (R71, R74, R108, R115, R128, R156, R162 to R166) -/

/-- The preset under R74 for a shortening in units of 2^-32 ns. -/
def presetFor (d : List Byte) (short : Nat) : Nat :=
  let p := dPreset d
  let ok := fun q => decide (short * rate20 p * rate20 q ≤ dW d * 20 * (rate20 q - rate20 p) * 2 ^ 32)
  if short = 0 then p
  else (((List.range p).filter fun q => decide (dPresetMin d ≤ q) && ok q).getLast?).getD (dPresetMin d)

/-- The frame that starts next (R71, R108): the oldest due, but a B picture waits for the anchor that follows it, which goes ahead. -/
def Ses.pick (x : Ses) : Option Due :=
  match x.due with
  | [] => none
  | e :: _ =>
    if e.cls ≠ .b ∨ (x.ahead.any fun a => decide (e.k < a.1)) then some e else x.due.find? fun e => e.cls != .b

/-- The refresh cycle of a picture that is neither a key nor a recovery picture (R115, R164). -/
def RefSes.cycleFor (x : RefSes) (d : List Byte) (k : Nat) : Option Cycle × Bool :=
  match x.cycle with
  | some c => (some c, false)
  | none =>
    if x.nextCyc ≤ k ∧ (dRefW d ≠ 0 ∨ x.force) then
      (some { i := 0, stalls := 0, width := if dRefW d = 0 then 1 else dRefW d, forced := dRefW d == 0, start := k, pics := [] }, true)
    else (none, false)

/-- The wave of a cycle's picture (R115). -/
def Cycle.wave (c : Cycle) (d : List Byte) : Nat × Nat := (c.i * c.width, min ((c.i + 1) * c.width) (dN64 d))

/-- The blocks that R166 intra-codes in the next picture: the first n_x that await it, outside the wave. -/
def State.recodeNow (s : State) (n : Nat) (wave : Option (Nat × Nat)) : List Nat :=
  let d := (s.ses n).desc
  let out := (s.rses n).pend.filter fun b =>
    match wave with
    | some (a, e) => !(decide (a ≤ b % max 1 (dN64 d)) && decide (b % max 1 (dN64 d) < e))
    | none => true
  out.take (s.refNx n)

/-- FRAME_START (R71): the frame's preset, class, references, wave, headers, target and cap are fixed. A key picture that starts while a
recovery is pending is the recovery picture (R162). -/
def State.beginFrame (n : Nat) (e : Due) (s : State) : State :=
  let x := s.ses n
  let d := x.desc
  let r := s.rses n
  let k := e.k
  let short := min x.debt (usNet (dShorten d))
  let p := presetFor d short
  let isRef := e.cls != .b
  let recov := r.recover && isRef && k != 0
  let cls := if recov then .p else e.cls
  let key := cls == .key
  let (cyc, first) := if key ∨ recov then (none, false) else r.cycleFor d k
  let wave := cyc.map (·.wave d)
  let recode := if key then [] else s.recodeNow n wave
  let refs := if key then [] else if recov then (s.anchor n).toList else s.refChoose n (refMost d p)
  let covered := fun (b : Nat) => match wave with
    | some (a, e) => decide (a ≤ b % max 1 (dN64 d)) && decide (b % max 1 (dN64 d) < e)
    | none => false
  let s := s.setRses n { r with
    recover := r.recover && !recov
    cycle := cyc
    force := r.force && !first
    nextCyc := if key ∨ recov then k + 1 else r.nextCyc
    pend := if key then [] else r.pend.filter fun b => !(recode.contains b || covered b) }
  let num := r.pics.length
  let long := isRef && longAt d k recov
  let slot := s.refSlot n long
  let leads := x.ahead.any fun a => a.2 && decide (k < a.1)
  let slice := s.sliceFor n num k cls isRef recov wave.isSome leads refs long slot
  let header := av1FrameOf d k p (if isRef then 2 ^ slot else 0) (s.av1Refs n refs recov) key wave.isSome recov
  let (buf, s) := s.refStart n k refs isRef (key || recov) recov
  let s := if isRef then s.refTell n num isRef long slot else s
  let params := key || first
  let sei := if first && dRecoverySei d && dCodec d != 3 then some (recoverySei d ((cyc.map (·.width)).getD 1)) else none
  let units := prefixUnits d cls params sei header
  let head := 8 * (prefixBytes units).length
  let f : Frame :=
    { k := k, tk := e.tk, tkTick := s.tickAt e.tk, ek := s.tick, short := short, preset := p, cls := cls, isRef := isRef, recovery := recov,
      wave := wave, clean := (wave.map (·.2)).getD 0, recode := recode, params := params, units := units, slice := slice,
      buf := buf.getD 0, refs := refs, target := 0, cap := 0, head := head, usedHard := (head : Int), usedSoft := (head : Int),
      sticky := false, ceilMult := s.ceilMult, dqRow := s.dqRow, rowMin := s.rowMin, firstFloor := none, nextRow := 0,
      timedOut := x.lateDue.contains k, readDone := false, segs := [], input := [], filler := 0, coded := false, done := false, dur := 0,
      dropped := false, floorCols := [] }
  let per := s.framePer d
  let f := { f with target := s.govTarget x.gov d f per, cap := x.gov.cap d per }
  s.setSes n { x with due := x.due.filter (· != e), lateDue := x.lateDue.erase k, next := max x.next (k + 1), frame := some f, preset := p
                      ahead := if isRef then some (k, key) else x.ahead }

/-- The pages whose FREEZE stops the frame starts of a session (R45, R75). -/
def State.framesGo (s : State) (n : Nat) : Bool :=
  let d := (s.ses n).desc
  s.accepts .sessions 0 && s.accepts .bolter (dBolter d) &&
  (dStones d).all fun l => match s.stoneOf l with
    | some p => s.accepts .stone p
    | none => true

/-- FRAME_START. -/
def execFrameStart (session : Nat) (s : State) : Result :=
  let x := s.ses session
  .next (match x.pick with
    | some e =>
      if x.st = .running ∧ x.active.isNone ∧ s.framesGo session ∧ s.running ∧ s.memServes ∧ (s.refSpare session).isSome then
        (s.reach (s.tickOf e.tk)).beginFrame session e else s
    | none => s)

/-! ## The completion of a frame (R73 to R75, R124) -/

/-- A RUNNING session without a frame in progress becomes HELD in DRAIN (R75). -/
def State.sesHold (n : Nat) (s : State) : State :=
  let x := s.ses n
  if x.st = .running ∧ x.active.isNone then (s.setSes n { x with st := .held }).sesEvt n 8 0 0 0 else s

/-- A HELD session becomes RUNNING again (R75). -/
def State.sesResume (n : Nat) (s : State) : State :=
  let x := s.ses n
  if x.st = .held then (s.setSes n { x with st := .running }).sesEvt n 9 0 0 0 else s

/-- The bits of an access unit: prefix, segments and filler (R124). -/
def Frame.auBits (f : Frame) : Nat := f.head + (f.segs.map (·.bits)).sum + f.filler

/-- F after a picture (R124). -/
def fullNext (d : List Byte) (full bits per : Nat) : Nat :=
  let f := full - bits * 65536 + bitsPer (dRate d) per
  if dRmode d = 0 then f else min (dBuf d * 65536) f

/-- The Governor's state after a picture: F, and from its normally coded rows Xp and the history (R124, R128, R137). -/
def Gov.after (g : Gov) (d : List Byte) (f : Frame) (per : Nat) : Gov :=
  let rows := (List.range (dNy d)).filter (f.rowNormal d)
  let t := rows.foldl (fun t r => Tbl.set t r (f.rowCplx r)) (g.xps f.cls)
  let g := g.setXps f.cls t
  let total := (f.segs.map (·.cplx)).sum
  { g with full := fullNext d g.full f.auBits per
           seen := if rows.isEmpty ∨ g.seen.contains f.cls then g.seen else f.cls :: g.seen
           hist := (total :: g.hist).take 32
           weights := (weight2 f.cls :: g.weights).take 31 }

/-- FRAME_COMPLETE (R73, R74): the runner has written the last byte of the last row unit. -/
def State.endFrame (n : Nat) (s : State) : State :=
  let x := s.ses n
  match x.active with
  | none => s
  | some f =>
    if !f.coded then s
    else
      let d := x.desc
      let dur := s.netTime - f.tk
      let debt := x.debt + dur - usNet (dDeadline d)
      let late := decide (usNet (dDeadline d) < dur)
      let heavy := decide (usNet (dDebtMax d) < debt)
      let s := s.setSes n { x with
        frame := some { f with done := true, dur := dur, input := [] }, debt := debt, lastDur := netUs dur
        late := if late then sat32 (x.late + 1) else x.late, gov := x.gov.after d f (s.framePer d) }
      let s := if late then s.sesEvt n 4 0 (netUs dur) 0 else s
      let s := if heavy then (s.raiseErr .sessions 0 2 (Cap.obj n)).sesEvt n 5 0 (netUs dur) 0 else s
      if s.dev.mode = .drain then s.sesHold n else s

/-- FRAME_COMPLETE. -/
def execFrameComplete (session : Nat) (s : State) : Result := .next (if s.coreUp then s.endFrame session else s)

/-- A session waits for lines of a frame that it has not stopped waiting for (R72). -/
def Ses.lacks (x : Ses) (k : Nat) : Bool := decide (x.held k < dInH x.desc)

/-- The first frame that lacks lines and is still waited for: the one in progress, or one triggered and not yet started. Its number,
its T_k, and whether it is in progress. -/
def Ses.waited (x : Ses) : Option (Nat × Nat × Bool) :=
  match x.active.filter fun f => !f.timedOut && x.lacks f.k with
  | some f => some (f.k, f.tk, true)
  | none => (x.due.find? fun e => !x.lateDue.contains e.k && x.lacks e.k).map fun e => (e.k, e.tk, false)

/-- INGEST_TIMEOUT (R72): frame k has not received all its lines by its limit, whether its predecessor has completed or not. -/
def State.ingestLate (n : Nat) (s : State) : State :=
  let x := s.ses n
  match x.waited with
  | none => s
  | some (k, tk, now) =>
    if s.coreUp then
      let lim := if dIngestTo x.desc = 0 then s.framePer x.desc else usNet (dIngestTo x.desc)
      let s := s.reach (s.tickOf (tk + lim))
      let s := s.setSes n (if now then { x with frame := x.frame.map fun f => { f with timedOut := true } }
        else { x with lateDue := x.lateDue ++ [k] })
      (s.raiseErr .sessions 0 1 (Cap.obj n)).sesEvent n 6 (bitOf (dEventEn x.desc) 6)
        (s.sesHeadOf n k (if now then x.shown.1 else x.preset) (s.tickAt tk) 0 0 (x.held k))
    else s

/-- INGEST_TIMEOUT. -/
def execIngestTimeout (session : Nat) (s : State) : Result := .next (s.ingestLate session)

end Sys2Proof.Machine
end

