-- ==== Sys2Proof/Machine/Bolter.lean ====
section
/-!
DEFINITION. Bolters: reading the ingest window (R79, R80, R93), the conversion chain (R82 to R89), when a row is ready and
which row starts (R90, R92), and the hand-over to the stones.
-/

namespace Sys2Proof.Machine

/-! ## Scaling coefficients (R88, R89), in units of 2^-60 -/

/-- One in 2^-60. -/
def fxOne : Int := 2 ^ 60
/-- π in 2^-60. -/
def fxPi : Int := 3622009729038561421

/-- The Taylor terms of sine from the term `t` of power `k`. -/
def sinTerms (x2 : Int) : Nat → Int → Nat → Int
  | 0, _, _ => 0
  | fuel + 1, t, k => t + sinTerms x2 fuel (-(t * x2 / fxOne) / (((k + 1) * (k + 2) : Nat) : Int)) (k + 2)

/-- sinc of a ÷ b, in 2^-60. -/
def sincFx (a : Int) (b : Nat) : Int :=
  if a = 0 then fxOne
  else
    let m : Int := 2 * (b : Int)
    let r := (a + (b : Int)) % m - (b : Int)
    let x := fxPi * r / (b : Int)
    let si := sinTerms (x * x / fxOne) 24 x 1
    si * fxOne * (b : Int) / (fxPi * a)

/-- h of R89 at tap `i` (-3 to 4) and phase `ph`, for input size `I` and output size `O`. -/
def tapH (I O ph : Nat) (i : Int) : Int :=
  let x : Int := 64 * i - (ph : Int)
  let (n, d) := if O < I then (O, I) else (1, 1)
  sincFx ((n : Int) * x) (64 * d) * sincFx x 256 / fxOne

/-- The taps of R88, from -3 to 4. -/
def taps : List Int := [-3, -2, -1, 0, 1, 2, 3, 4]

/-- Round half up of a quotient of integers, the divisor positive. -/
def roundDiv (a b : Int) : Int := (2 * a + b) / (2 * b)

/-- The coefficients c_φ of R89. -/
def scaleCoef (I O ph : Nat) : List Int :=
  let h := taps.map (tapH I O ph)
  let c := h.map fun v => roundDiv (256 * v) h.sum
  let mid := if ph < 32 then 3 else 4
  c.set mid (c.getD mid 0 + 256 - c.sum)

/-- Δ of R88. -/
def scaleStep (I O : Nat) : Int := roundDiv (65536 * (I : Int)) ((max 1 O : Nat) : Int)
/-- The base n and phase φ of output sample `y` (R88). -/
def scaleAt (I O y : Nat) : Int × Nat :=
  let st := scaleStep I O
  let p := (y : Int) * st + (st - 65536) / 2
  let ph := (roundDiv (p % 65536) 1024).toNat
  if ph = 64 then (p / 65536 + 1, 0) else (p / 65536, ph)

/-- A number limited to 0 to `m`. -/
def clampInt (x : Int) (m : Nat) : Nat := min m x.toNat

/-- One scaled sample from a line of samples (R88). -/
def scaleSample (I O y : Nat) (src : Nat → Nat) : Nat :=
  if I = O then src y
  else
    let (n, ph) := scaleAt I O y
    let v := ((taps.zip (scaleCoef I O ph)).map fun e => e.2 * ((src (clampInt (n + e.1) (I - 1)) : Nat) : Int)).sum
    clampInt (roundDiv v 256) 4095

/-! ## Stored samples (R79, R80, R93) -/

/-- The start of frame `k`'s slot. -/
def slotBase (d : List Byte) (k : Nat) : Nat := dIngest d + k % max 1 (dSlots d) * dStride d
/-- The start of the CbCr plane of a planar layout. -/
def chromaBase (d : List Byte) (k : Nat) : Nat := slotBase d k + dPitch d * dInH d
/-- A planar layout. -/
def planar (d : List Byte) : Bool := decide (8 ≤ dLayout d)

/-- The 64 bytes that stand for mid-grey, 2^(d−1) in every component (R93). -/
def greyUnit (d : List Byte) : List Byte :=
  let l := dLayout d
  let w : List Byte := if l = 2 ∨ l = 3 ∨ l = 5 then leBytes 4 (512 + 512 * 1024 + 512 * 1048576)
    else if l = 7 ∨ l = 9 then [0x00, 0x80, 0x00, 0x80] else [0x80, 0x80, 0x80, 0x80]
  (List.replicate 16 w).flatten

/-- The 64 bytes at a unit of a stored line: those of the line above where they cannot be read, mid-grey on line 0 (R93). -/
def State.ingestUnit (s : State) (d : List Byte) (base : Nat) : Nat → Nat → List Byte
  | 0, u => if s.lineGood (base + 64 * u) then s.mem.bytesAt (base + 64 * u) 64 else greyUnit d
  | y + 1, u =>
    let a := base + dPitch d * (y + 1) + 64 * u
    if s.lineGood a then s.mem.bytesAt a 64 else s.ingestUnit d base y u

/-- A byte of a stored line. -/
def State.ingestByte (s : State) (d : List Byte) (base y o : Nat) : Nat :=
  ((s.ingestUnit d base y (o / 64)).getD (o % 64) 0).toNat

/-- The 16-bit container at a byte offset, as its 10-bit value (R79). -/
def State.ingestC (s : State) (d : List Byte) (base y o : Nat) : Nat :=
  (s.ingestByte d base y o + 256 * s.ingestByte d base y (o + 1)) / 64

/-- The 32-bit word at a byte offset. -/
def State.ingestW (s : State) (d : List Byte) (base y o : Nat) : Nat :=
  s.ingestByte d base y o + 256 * s.ingestByte d base y (o + 1) + 65536 * s.ingestByte d base y (o + 2) +
    16777216 * s.ingestByte d base y (o + 3)

/-- A stored luma sample, or a component of a 4:4:4 layout in the order R, G, B or Y, Cb, Cr, at 12 bits (stage 1). -/
def State.rawFull (s : State) (d : List Byte) (k c x y : Nat) : Nat :=
  let l := dLayout d
  let b := slotBase d k
  let c' := if l = 1 ∨ l = 3 then 2 - c else c
  if l = 0 ∨ l = 1 ∨ l = 4 then 16 * s.ingestByte d b y (4 * x + c')
  else if l = 2 ∨ l = 3 ∨ l = 5 then 4 * bits (s.ingestW d b y (4 * x)) (10 * c' + 9) (10 * c')
  else if l = 6 then 16 * s.ingestByte d b y (2 * x)
  else if l = 7 then 4 * s.ingestC d b y (4 * x)
  else if l = 8 then 16 * s.ingestByte d b y x
  else 4 * s.ingestC d b y (2 * x)

/-- A stored chroma sample of a subsampled layout, `c` 1 or 2, at column pair `j` and chroma line `y`, at 12 bits. -/
def State.rawSub (s : State) (d : List Byte) (k c j y : Nat) : Nat :=
  let l := dLayout d
  if l = 6 then 16 * s.ingestByte d (slotBase d k) y (4 * j + 2 * c - 1)
  else if l = 7 then 4 * s.ingestC d (slotBase d k) y (8 * j + 4 * c - 2)
  else if l = 8 then 16 * s.ingestByte d (chromaBase d k) y (2 * j + c - 1)
  else 4 * s.ingestC d (chromaBase d k) y (4 * j + 2 * c - 2)

/-- Chroma at 4:4:4 (stage 2 of R82): along the line, then for 4:2:0 between the lines. The spec gives 4:2:0 no horizontal siting and
no order: it is cosited as 4:2:2 is, and each chroma line is filtered along, and rounded, before the filter between lines (DESIGN
CHOICE, assumption 99). The last line of a row may use the chroma line below it, for which R90 does not wait: what part DRAM holds
there is taken (DESIGN CHOICE, assumption 100). -/
def State.rawChroma (s : State) (d : List Byte) (k c x y : Nat) : Nat :=
  let w := dInW d / 2
  let h := dInH d / 2
  let line := fun (yy : Nat) =>
    if x % 2 = 0 then s.rawSub d k c (x / 2) yy
    else (s.rawSub d k c (x / 2) yy + s.rawSub d k c (min (w - 1) (x / 2 + 1)) yy + 1) / 2
  if planar d then
    let j := y / 2
    let o := if y % 2 = 0 then j - 1 else min (h - 1) (j + 1)
    (3 * line j + line o + 2) / 4
  else line y

/-! ## Colour (R83) -/

/-- Zero and span of a component at 12 bits: luma or RGB, or chroma. -/
def rangeOf (full chroma : Bool) : Nat × Nat :=
  if chroma then (if full then (2048, 4095) else (2048, 3584)) else if full then (0, 4095) else (256, 3504)

/-- The exact result of stage 3 in 1/b of a code, as a fraction, from three 12-bit values: component `c` of Y′, Cb′, Cr′. -/
def colourExact (d : List Byte) (c : Nat) (v : Nat → Nat) : Int × Nat :=
  let inFull := df d 0x0C 5 5 == 1
  let outFull := df d 0x0C 6 6 == 1
  let (oz, os) := rangeOf outFull (c != 0)
  if dLayout d ≤ 3 then
    let (iz, is_) := rangeOf inFull false
    let (kr, kb) : Nat × Nat := if df d 0x0C 4 4 = 1 then (2627, 593) else (2126, 722)
    let e := fun i => ((v i : Nat) : Int) - (iz : Nat)
    let y := (kr : Int) * e 0 + (10000 - (kr : Int) - (kb : Int)) * e 1 + (kb : Int) * e 2
    if c = 0 then (y * (os : Int) + (oz * 10000 * is_ : Nat), 10000 * is_)
    else
      let (x, kk) := if c = 1 then (e 2, kb) else (e 0, kr)
      ((10000 * x - y) * (os : Int) * 10000 + (oz * 10000 * is_ * (2 * (10000 - kk)) : Nat), 10000 * is_ * (2 * (10000 - kk)))
  else
    let (iz, is_) := rangeOf inFull (c != 0)
    ((((v c : Nat) : Int) - (iz : Nat)) * (os : Int) + (oz * is_ : Nat), is_)

/-- Stage 3 is bypassed (R86). -/
def colourOff (d : List Byte) : Bool := decide (4 ≤ dLayout d) && df d 0x0C 5 5 == df d 0x0C 6 6

/-- Stage 3: within 1 of the exact result rounded to nearest; which of the three is open. -/
def colour (d : List Byte) (c : Nat) (v : Nat → Nat) : Nat :=
  if colourOff d then v c
  else
    let (a, b) := colourExact d c v
    let e := if dLayout d ≤ 3 then Config.roundSlack (df d 0x0C 7 0) c (v 0) (v 1) (v 2) else Config.roundSlack (df d 0x0C 7 0) c (v c) 0 0
    clampInt (roundDiv a ((max 1 b : Nat) : Int) + ((e % 3 : Nat) : Int) - 1) 4095

/-! ## Orientation and the rest of the chain (R82, R85, R86) -/

/-- The stored position of an oriented point of a W × H plane (R85). -/
def orient (d : List Byte) (w h u v : Nat) : Nat × Nat :=
  let r := dRotate d
  let w' := if r % 2 = 1 then h else w
  let u := if df d 0x0C 18 18 = 1 then w' - 1 - u else u
  if r = 0 then (u, v) else if r = 1 then (v, h - 1 - u) else if r = 2 then (w - 1 - u, h - 1 - v) else (w - 1 - v, u)

/-- Stages 2 and 6 are bypassed (R86). -/
def chromaOff (d : List Byte) : Bool :=
  planar d && dRotate d % 2 == 0 && dInW d == dWidth d && dInH d == dHeight d

/-- A component at 4:4:4 after stage 3 at a stored position. -/
def State.full3 (s : State) (d : List Byte) (k c x y : Nat) : Nat :=
  colour d c fun i =>
    if i = 0 ∨ dLayout d ≤ 5 then s.rawFull d k i x y else s.rawChroma d k i x y

/-- A component at 4:4:4 after stage 5, at the coded size. -/
def State.full5 (s : State) (d : List Byte) (k c x y : Nat) : Nat :=
  let (w, h) := dOrient d
  scaleSample h (dHeight d) y fun v => scaleSample w (dWidth d) x fun u =>
    let (sx, sy) := orient d (dInW d) (dInH d) u v
    s.full3 d k c sx sy

/-- A chroma sample at 4:2:0 after stage 6: both filters summed and rounded once, half up, with no 12-bit sample between them (DESIGN
CHOICE, assumption 98). -/
def State.half6 (s : State) (d : List Byte) (k c x y : Nat) : Nat :=
  if chromaOff d then
    let (sx, sy) := orient d (dInW d / 2) (dInH d / 2) x y
    colour d c fun i => s.rawSub d k (max 1 i) sx sy
  else
    let row := fun (v : Nat) =>
      s.full5 d k c (2 * x - 1) v + 2 * s.full5 d k c (2 * x) v + s.full5 d k c (min (dWidth d - 1) (2 * x + 1)) v
    (row (2 * y) + row (min (dHeight d - 1) (2 * y + 1)) + 4) / 8

/-- Stage 7 of R82. -/
def depthOut (d : List Byte) (v : Nat) : Nat := min (2 ^ dDepth d - 1) ((v + 2 ^ (11 - dDepth d)) / 2 ^ (12 - dDepth d))

/-- The samples of a coding row, padded to whole blocks (R82). -/
def State.rowSamples (s : State) (d : List Byte) (k r : Nat) : RowPix :=
  let b := dBlk d
  let w := dNx d * b
  let plane := fun (w h y0 mw mh : Nat) (f : Nat → Nat → Nat) =>
    (List.range h).flatMap fun y => (List.range w).map fun x => depthOut d (f (min mw x) (min mh (y0 + y)))
  { y := plane w b (b * r) (dWidth d - 1) (dHeight d - 1) (s.full5 d k 0)
    cb := plane (w / 2) (b / 2) (b / 2 * r) (dWidth d / 2 - 1) (dHeight d / 2 - 1) (s.half6 d k 1)
    cr := plane (w / 2) (b / 2) (b / 2 * r) (dWidth d / 2 - 1) (dHeight d / 2 - 1) (s.half6 d k 2) }

/-! ## Rows (R90, R92) -/

/-- The input lines that a row needs held (R90). -/
def linesNeeded (d : List Byte) (r : Nat) : Nat :=
  let last := min (dHeight d) (dBlk d * (r + 1)) - 1
  if dRotate d ≠ 0 then dInH d
  else if dInH d = dHeight d then last + 1
  else min (dInH d) ((scaleAt (dInH d) (dHeight d) last).1 + 5).toNat

/-- The stored lines that a row reads. -/
def linesRead (d : List Byte) (r : Nat) : Nat × Nat :=
  if dRotate d ≠ 0 then (0, dInH d)
  else if dInH d = dHeight d then (dBlk d * r, linesNeeded d r)
  else ((scaleAt (dInH d) (dHeight d) (dBlk d * r)).1 - 3 |>.toNat, linesNeeded d r)

/-- A target completion time in network time (R63). -/
def Frame.dueAt (f : Frame) (d : List Byte) : Int := ((f.tk + usNet (dDeadline d) : Nat) : Int) - (f.short : Nat)

/-- Every stone of the session's columns has room for another of its rows (R92); a row leaves its place when its segment has been
coded (DESIGN CHOICE, assumption 101). -/
def Frame.roomFor (f : Frame) (d : List Byte) : Bool :=
  (List.range (dCols d)).all fun c =>
    decide ((f.segs.filter fun g => g.col == c && (g.st == .atBolter || g.st == .queued || g.st == .coding)).length < 2)

/-- A session's next row can start on its Bolter: whether in floor mode for want of lines (R72, R90, R92). -/
def Ses.nextRow (x : Ses) : Option (Frame × Bool) :=
  match x.active with
  | none => none
  | some f =>
    let d := x.desc
    let ready := decide (linesNeeded d f.nextRow ≤ x.held f.k)
    if f.nextRow < dNy d ∧ (ready ∨ f.timedOut) ∧ f.roomFor d then some (f, !ready) else none

/-- The session whose row Bolter `b` starts next: lowest target completion time, then lowest index (R92). -/
def State.bolterPick (s : State) (b : Nat) : Option (Nat × Frame × Bool) :=
  (s.sessions.filterMap fun e =>
    if dBolter e.2.desc = b then (e.2.nextRow).map fun r => (e.1, r) else none).foldl
    (fun best e => match best with
      | none => some e
      | some m => if e.2.1.dueAt (s.ses e.1).desc < m.2.1.dueAt (s.ses m.1).desc then some e else best) none

/-- The chroma lines of a planar layout that a row reads: those of its luma lines, and where stage 2 is in force the ones beside them
that its filter takes (R82, R86). -/
def chromaRead (d : List Byte) (r : Nat) : Nat × Nat :=
  let (lo, hi) := linesRead d r
  if chromaOff d then (lo / 2, ceilDiv hi 2)
  else ((lo - 1) / 2, min (dInH d / 2) (hi / 2 + 1))

/-- Reads the stored lines of a row from part DRAM; a unit that fails is replaced (R93). -/
def State.ingestRead (b : Nat) (d : List Byte) (k r : Nat) (s : State) : State :=
  let (lo, hi) := linesRead d r
  let units := ceilDiv (lineBytes d) 64
  let luma := (List.range (hi - lo)).map fun i => slotBase d k + dPitch d * (lo + i)
  let (cl, ch) := chromaRead d r
  let chroma := if planar d then (List.range (ch - cl)).map fun i => chromaBase d k + dPitch d * (cl + i) else []
  ((luma ++ chroma).flatMap fun a => (List.range units).map fun u => a + 64 * u).foldl (fun s a =>
    match s.readLine (0x100 + b) 0x0 a with
    | (some _, s) => s
    | (none, s) => (s.bump (Reg.bolterRderr b)).raiseErr .bolter b 0 (Cap.mem a (0x100 + b) 0x0)) s

/-- A Bolter works. -/
def State.bolterOn (s : State) (b : Nat) : Bool := s.works .bolter b && decide (b < 16)

/-- A row of a session's frame is read from part DRAM and computed (R82, R92). -/
def State.rowCompute (b n r : Nat) (s : State) : State :=
  let d := (s.ses n).desc
  match (s.ses n).frame with
  | none => s
  | some f =>
    let s := s.ingestRead b d f.k r
    let pix := s.rowSamples d f.k r
    match (s.ses n).frame with
    | some f => s.setFrame n { f with input := Tbl.set f.input r pix }
    | none => s

/-- BOLTER_ROW_START (R92, R132): the row is released, and read unless it codes in floor mode for want of lines. -/
def State.rowStart (b : Nat) (s : State) : State :=
  if s.bolterOn b ∧ (s.bolter b).busy = false then
    match s.bolterPick b with
    | none => s
    | some (n, f, short) =>
      let r := f.nextRow
      let s := (s.rowRelease n r short).setBolter b { busy := true, ses := n, row := r, drop := false }
      if short then s else s.rowCompute b n r
  else s

/-- The row in progress is read again and computed again: an uncorrectable line-buffer error (R93) or a reset of the page (R495). -/
def State.rowAgain (b : Nat) (s : State) : State :=
  let x := s.bolter b
  if x.busy && !x.drop then
    match (s.ses x.ses).active with
    | some f => if (Tbl.get? f.input x.row).isSome then s.rowCompute b x.ses x.row else s
    | none => s
  else s

/-- BOLTER_ROW_START. -/
def execBolterRowStart (b : Nat) (s : State) : Result := .next (s.rowStart b)

/-- The read count of a session goes to RD_MIRROR (R69). -/
def State.rdMirror (n : Nat) (s : State) : State :=
  let x := s.ses n
  if dRdMirror x.desc = 0 then s else s.post (dRenderer x.desc + 1) (dRdMirror x.desc) (leBytes 4 x.kRd)

/-- k_rd once the frames of a list have been read past it. -/
def readOver (l : List Nat) : Nat → Nat → Nat
  | 0, k => k
  | fuel + 1, k => if l.contains k then readOver l fuel (k + 1) else k

/-- The Bolter has read the last line of a frame: k_rd advances to it, and past it where an anchor was read before its B pictures
(R69, R108; assumption 106). -/
def State.readDone (n : Nat) (s : State) : State :=
  let x := s.ses n
  match x.frame with
  | none => s
  | some f =>
    let l := f.k :: x.readOn
    let k := readOver l l.length x.kRd
    let s := s.setSes n { x with kRd := k, readOn := l.filter fun j => decide (k ≤ j), frame := some { f with readDone := true }
                                 lines := x.lines.filter fun e => decide (k ≤ e.1) && e.1 != f.k }
    if k = x.kRd then s else s.rdMirror n

/-- BOLTER_ROW_DONE (R69, R92): the row is delivered, and its blocks stand at the stones; the output of a row that ABORT has reached is
discarded, and not counted as delivered. -/
def State.rowDone (b : Nat) (s : State) : State :=
  let x := s.bolter b
  if s.bolterOn b ∧ x.busy then
    let s := s.setBolter b { x with busy := false, drop := false }
    match x.drop, (s.ses x.ses).active with
    | false, some f =>
      if f.segs.any (fun g => g.row == x.row && g.st == .atBolter) then
        let s := (s.wrap (Reg.bolterRows b) 1).setFrame x.ses { f with segs := f.segs.map fun g =>
          if g.row = x.row ∧ g.st = .atBolter then { g with st := .queued } else g }
        if x.row + 1 = dNy (s.ses x.ses).desc then s.readDone x.ses else s
      else s
    | _, _ => s
  else s

/-- BOLTER_ROW_DONE. -/
def execBolterRowDone (b : Nat) (s : State) : Result := .next (s.rowDone b)

end Sys2Proof.Machine
end

