-- ==== Sys2Proof/Machine/Events.lean ====
section
/-!
DEFINITION. The event queue (R49 to R55), the CP event controllers' PEND bits (R364), and the commands of both that
need no other block.
-/

namespace Sys2Proof.Machine

/-- EVQ_CTL. -/
def State.evqCtl (s : State) : Word := s.reg Reg.evqCtl

/-- The number of slots of the ring, 2^SIZE_LOG2 (R49). -/
def State.evqSize (s : State) : Nat := 2 ^ fld s.evqCtl 8 4

/-- Records in the ring (R49). -/
def State.evqUsed (s : State) : Nat := (s.evq.prod + 2 ^ 17 - s.evq.cons) % 2 ^ 17

/-- The ring is full (R49). -/
def State.evqFull (s : State) : Bool := s.evqUsed == s.evqSize

/-- The memory that holds the ring can be written (R307). -/
def State.evqMemUp (s : State) : Bool := if flag s.evqCtl 1 then s.coreUp else s.spaceUp 0

/-- Pages marked for re-posting, in page order (R54). -/
def State.reposts (s : State) : List Nat := (s.pages.filter fun e => e.2.repost.isSome).map (·.1)

/-- Messages merge until the OVERFLOW record and the re-posted page records have been written (R54). -/
def State.evqMerging (s : State) : Bool := !s.evq.lost.isEmpty || !s.reposts.isEmpty

/-- A record can be written: EN is 1, the ring is neither full nor suspended, and its memory can be written (R54). -/
def State.evqCanWrite (s : State) : Bool :=
  flag s.evqCtl 0 && !s.evq.suspended && !s.evqFull && s.evqMemUp

/-- The 64 bytes of an event record (R50). -/
def eventRecord (n source kind typ cls merged idx time : Nat) (payload : List Byte) : List Byte :=
  leBytes 4 (source % 4096 + 2 ^ 12 * kind + 2 ^ 16 * (typ % 256) + 2 ^ 24 * cls + 2 ^ 31 * (idx / 2 ^ n % 2)) ++
  leBytes 4 idx ++ leBytes 8 time ++ leBytes 2 (sat merged 0xFFFF) ++ List.replicate 6 0 ++ padTo 40 payload

/-- Notifies that records have been written: at once for a fault record by FVECTOR, or by IBI 0x01 (R52). NOTIFY alone chooses, so a
ring in part DRAM with NOTIFY 0 notifies by MSI-X (DESIGN CHOICE, assumption 88). -/
def State.evqNotify (fault : Bool) (s : State) : State :=
  let s := { s with evq := { s.evq with unnotified := 0 } }
  if flag s.evqCtl 2 then s.raiseIbi 0x01 s.evq.prod
  else s.msix (if fault then fld s.evqCtl 21 16 else fld s.evqCtl 15 10)

/-- Writes one record, then the new producer index to the mirror, in one ordered stream (R51), and notifies as R52
gives. -/
def State.putRecord (source kind typ cls merged time : Nat) (payload : List Byte) (s : State) : State :=
  let e := s.evq
  let r := eventRecord (fld s.evqCtl 8 4) source kind typ cls merged e.prod time payload
  let a := s.reg64 Reg.evqBaseLo + 64 * (e.prod % s.evqSize)
  let p := (e.prod + 1) % 2 ^ 17
  let s := if flag s.evqCtl 1 then s.writeLine 0x128 0x1 a r
    else (s.post 0 a r).post 0 (s.reg64 Reg.evqMirrorLo) (leBytes 4 p)
  let e := { e with prod := p, unnotified := e.unnotified + 1,
                    unnotifiedAt := if e.unnotified = 0 then s.tick else e.unnotifiedAt }
  let s := { s with evq := e }
  let s := if s.evqFull then { s with evq := { s.evq with fullAt := some s.tick } } else s
  if cls ≥ 2 then s.evqNotify true
  else if e.unnotified ≥ max 1 (fld (s.reg Reg.evqNotifyCoal) 31 16) then s.evqNotify false
  else s

/-- The copies of a page's registers that a KIND 3 record carries (R50). -/
def State.pagePayload (s : State) (f : Fam) (n : Nat) : List Byte :=
  let h := s.pg (ordOf f n)
  let id := f.info.typ * 2 ^ 24 + (if f.count .nrt9680 > 1 then n else 0) * 2 ^ 16 + 0x100
  leBytes 4 id ++ leBytes 4 h.int.toNat ++ leBytes 4 h.err.toNat ++ leBytes 8 h.capAddr.toNat ++
  leBytes 4 (2 ^ 20 * h.capMaster.toNat + 2 ^ 16 * h.capAcc.toNat + h.merged) ++ leBytes 8 h.capTime

/-- A message that would have made a record merges: its KIND is counted, and a page is marked with its highest class
(R54); the first keeps its time (R50). -/
def State.mergeRecord (source kind cls time : Nat) (s : State) : State :=
  let e := s.evq
  let s := { s with evq := { e with lost := Tbl.set e.lost kind (sat32 (Tbl.getD e.lost kind 0 + 1))
                                    lostAt := if e.lost = [] then time else e.lostAt } }
  if kind = 3 then
    let o := source - 2048
    let h := s.pg o
    s.setPg o { h with repost := some (match h.repost with
      | none => ⟨cls, 1, time⟩
      | some r => { r with cls := max r.cls cls, count := sat (r.count + 1) 0xFFFF }) }
  else s

/-- A message makes its record, or merges (R54). -/
def State.record (source kind typ cls time : Nat) (payload : List Byte) (s : State) : State :=
  if s.evqCanWrite && !s.evqMerging then s.putRecord source kind typ cls 1 time payload
  else s.mergeRecord source kind cls time

/-- The OVERFLOW record: EVQ_SUM, the five EVQ_LOST counts and the number of pages marked (R54). -/
def State.overflowPayload (s : State) : List Byte :=
  let l := (List.range 5).map fun k => Tbl.getD s.evq.lost k 0
  leBytes 4 ((l.zipIdx.map fun e => if e.1 = 0 then 0 else 2 ^ e.2).sum) ++
  (l.flatMap (leBytes 4)) ++ leBytes 4 s.reposts.length

/-- One marked page's record, taken from its registers now (R54). -/
def State.repost (o : Nat) (s : State) : State :=
  match (s.pg o).repost, pageAt s.part o with
  | some r, some (f, n) =>
    if s.evqCanWrite then
      (s.putRecord (2048 + o) 3 0 r.cls r.count r.time (s.pagePayload f n)).setPg o { s.pg o with repost := none }
    else s
  | _, _ => s

/-- EVQ_OVERFLOW_WRITE (R54): once at least 2^n / 8 slots are free, the OVERFLOW record and one record for each marked
page. -/
def State.evqOverflow (s : State) : State :=
  if s.evqMerging ∧ s.evqCanWrite ∧ s.evqSize ≤ 8 * (s.evqSize - s.evqUsed) then
    let marked := s.reposts
    let s := if s.evq.lost.isEmpty then s else
      let t := sat ((s.evq.lost.map (·.2)).sum) 0xFFFF
      let s' := s.putRecord 0 0xF 0 0 t s.evq.lostAt s.overflowPayload
      { s' with evq := { s'.evq with lost := [] } }
    marked.foldl (fun s o => s.repost o) s
  else s

/-- EVQ_OVERFLOW_WRITE. -/
def execEvqOverflowWrite (s : State) : Result := .next s.evqOverflow

/-- A write to EVQ_CONS or EVQ_CONS_DB (R53): a value ahead of the producer, or one that moves the consumer back, is
ignored and sets BAD_CONS. -/
def State.evqCons (v : Nat) (cap : Cap) (s : State) : State :=
  let v := v % 2 ^ 17
  if (s.evq.prod + 2 ^ 17 - v) % 2 ^ 17 ≤ s.evqUsed then
    let s := { s with evq := { s.evq with cons := v } }
    if s.evqFull then s else { s with evq := { s.evq with fullAt := none } }
  else s.raiseErr .evq 0 0 cap

/-- The capture of a doorbell write on the host endpoint (R492): the byte address accessed is its offset in BAR0 (DESIGN CHOICE,
assumption 87). -/
def State.dbCap (s : State) (off : Nat) : Cap := Cap.mem off (0x1C0 + s.hostLink.getD 0) 0x1

/-- EVQ_CONS_WRITE, over a register path or, with none, by the doorbell page. -/
def execEvqConsWrite (p : Option Path) (value : Word) (s : State) : Result :=
  .next (match p with
    | some p => if s.takes p then s.evqCons value.toNat (Cap.reg p Reg.evqCons) else s
    | none => if s.coreUp then s.evqCons value.toNat (s.dbCap 0x100) else s)

/-- A write to EVQ_CTL (R55): one that changes LOC or SIZE_LOG2 while EN is 1 is discarded with CFG; a change of EN from
0 to 1 clears SUSPENDED; a SIZE_LOG2 outside 6 to 16 stores 6. -/
def State.evqCtlWrite (p : Path) (v : Word) (s : State) : State :=
  let n := fld v 8 4
  let v := (v &&& 0x3FFC07#32) ||| word ((if 6 ≤ n ∧ n ≤ 16 then n else 6) * 16)
  let old := s.evqCtl
  if flag old 0 ∧ (flag old 1 ≠ flag v 1 ∨ fld old 8 4 ≠ fld v 8 4) then s.raiseErr .evq 0 2 (Cap.reg p Reg.evqCtl)
  else
    let s := s.setReg Reg.evqCtl v
    if flag v 0 ∧ ¬ flag old 0 then { s with evq := { s.evq with suspended := false } } else s

/-- EVQ_CTL_WRITE. -/
def execEvqCtlWrite (p : Path) (value : Word) (s : State) : Result :=
  .next (if s.takes p then s.evqCtlWrite p value else s)

/-- EVQ_NOTIFY_TIMEOUT (R52): TIME has passed since the first record not yet notified. -/
def State.evqNotifyTimeout (s : State) : State :=
  let t := fld (s.reg Reg.evqNotifyCoal) 15 0
  if s.evq.unnotified ≠ 0 ∧ t ≠ 0 ∧ s.coreUp then (s.reach (s.evq.unnotifiedAt + usTicks t)).evqNotify false else s

/-- EVQ_NOTIFY_TIMEOUT. -/
def execEvqNotifyTimeout (s : State) : Result := .next s.evqNotifyTimeout

/-- EVQ_LAG_EXPIRY: the ring has stayed full for EVQ_LAG_LIMIT (R55). -/
def State.evqLag (s : State) : State :=
  match s.evq.fullAt with
  | some t =>
    if flag s.evqCtl 0 ∧ s.live then
      let s := s.reach (t + usTicks (s.reg Reg.evqLagLimit).toNat)
      { s with evq := { s.evq with fullAt := none } }.raiseErr .evq 0 1 Cap.none
    else s
  | none => s

/-- EVQ_LAG_EXPIRY. -/
def execEvqLagExpiry (s : State) : Result := .next s.evqLag

/-- INT_COAL_TIME_EXPIRY (R43): INT_COAL.TIME has passed since the first gathered cause. -/
def State.intCoalExpiry (o : Nat) (s : State) : State :=
  match pageAt s.part o with
  | none => s
  | some (f, n) =>
    let h := s.pg o
    let t := fld (s.reg (baseOf f n + 0x3C)) 15 0
    if h.gathered ≠ 0 ∧ t ≠ 0 ∧ s.live then (s.reach (h.gatherAt + usTicks t)).sendPage f n h.gatherClass else s

/-- INT_COAL_TIME_EXPIRY. -/
def execIntCoalTimeExpiry (page : Nat) (s : State) : Result := .next (s.intCoalExpiry page)

/-- EVR_INJECT (R369): only a software source makes a message; any other value sets BAD_DB. -/
def State.evrInject (p : Path) (v : Word) (s : State) : State :=
  if 3072 ≤ v.toNat ∧ v.toNat < 4096 then s.send .inject v.toNat .soft
  else s.raiseErr .millrace 0 3 (Cap.reg p Reg.evrInject)

/-- EVR_INJECT. -/
def execEvrInject (p : Path) (value : Word) (s : State) : Result := .next (if s.takes p then s.evrInject p value else s)

/-- SRC_DB (R48): a software source from the host doorbell page. -/
def State.srcDb (v : Word) (s : State) : State :=
  if 3072 ≤ v.toNat ∧ v.toNat < 4096 then s.send .srcDb v.toNat .soft
  else (s.bump Reg.mrDbDrop).raiseErr .millrace 0 3 (s.dbCap 0x200)

/-- SRC_DB. -/
def execSrcDb (value : Word) (s : State) : Result := .next (if s.coreUp then s.srcDb value else s)

/-! ## The CP event controllers (R364) -/

/-- PEND, MASK or AUTO of a source in a group table whose groups reset to `d`. -/
def groupBit (t : Tbl Word) (d : Word) (src : Nat) : Bool := flag (Tbl.getD t (src / 32) d) (src % 32)

/-- Sets or clears a source's bit in a group table. -/
def setGroupBit (t : Tbl Word) (d : Word) (src : Nat) (v : Bool) : Tbl Word :=
  let w := Tbl.getD t (src / 32) d
  let m := word (2 ^ (src % 32))
  Tbl.set t (src / 32) (if v then w ||| m else w &&& ~~~m)

/-- All sources masked: the reset of MASK (R367). -/
def allOnes : Word := 0xFFFFFFFF

/-- MASK of a source. -/
def Eic.masked (e : Eic) (src : Nat) : Bool := groupBit e.mask allOnes src
/-- PEND of a source. -/
def Eic.pended (e : Eic) (src : Nat) : Bool := groupBit e.pend 0 src

/-- A message sets its PEND bit, and counts toward WFM when it is unmasked (R364). -/
def Eic.apply (e : Eic) (src now : Nat) : Eic :=
  let e' := { e with pend := setGroupBit e.pend 0 src true }
  if e.masked src then e' else { e' with count := e.count + 1, since := if e.count = 0 then now else e.since }

/-- A message for a controller: queued while a hold is in force, else applied (R364). -/
def Eic.message (e : Eic) (src now : Nat) : Eic :=
  if e.hold.isSome then { e with queue := e.queue ++ [src] } else e.apply src now

/-- A hold ends, and its queue is applied in order (R364). -/
def Eic.release (e : Eic) (now : Nat) : Eic :=
  e.queue.foldl (fun e src => e.apply src now) { e with hold := none, queue := [] }

/-- The message of a source sets its PEND bit in the controller of every CP (R363). -/
def State.pendAll (src : Nat) (s : State) : State :=
  (List.range s.part.cpsPhys).foldl
    (fun s n => s.setCp n { s.cp n with eic := (s.cp n).eic.message src s.tick }) s

/-- The router's delivery stage waits: a hold queue is full (R364). -/
def State.routerBlocked (s : State) : Bool :=
  (List.range s.part.cpsPhys).any fun n => (s.cp n).eic.hold.isSome && decide (16 ≤ (s.cp n).eic.queue.length)

/-- The lowest source with PEND 1 and MASK 0 (R364). -/
def Eic.lowest (e : Eic) : Option Nat :=
  e.pend.findSome? fun g =>
    let w := g.2 &&& ~~~(Tbl.getD e.mask g.1 allOnes)
    ((List.range 32).find? fun k => flag w k).map (32 * g.1 + ·)

/-- EIC_HOLD_EXPIRY (R364): a hold ends by itself after CP_EIC_HOLD_MAX FCLK and sets HOLD_EXP. -/
def State.holdExpiry (n : Nat) (s : State) : State :=
  match (s.cp n).eic.hold with
  | none => s
  | some t =>
    if s.coreUp then
      let s := s.reach (t + fclkTicks (max 1 (fld (s.reg (Reg.cpEicHoldMax n)) 7 0)))
      (s.setCp n { s.cp n with eic := (s.cp n).eic.release s.tick }).raiseErr .cp n 6 Cap.none
    else s

/-- EIC_HOLD_EXPIRY. -/
def execEicHoldExpiry (n : Nat) (s : State) : Result := .next (s.holdExpiry n)

/-- The actions of CP_EIC_CMD (R367), each on one bit of one source, indivisibly (R366). -/
def State.eicCmd (n src act : Nat) (s : State) : State :=
  let c := s.cp n
  let e := c.eic
  let put := fun e => s.setCp n { c with eic := e }
  if act = 1 then put { e with pend := setGroupBit e.pend 0 src true }
  else if act = 2 then put { e with pend := setGroupBit e.pend 0 src false }
  else if act = 3 then put { e with mask := setGroupBit e.mask allOnes src true }
  else if act = 4 then put { e with mask := setGroupBit e.mask allOnes src false }
  else s

/-- The page of CP `n` answers: it exists, and the part takes writes. -/
def State.cpPage (s : State) (n : Nat) : Bool := s.coreUp && decide (n < s.part.cpsPhys)

/-- EIC_SET_PEND. -/
def execEicSetPend (p : Path) (n source : Nat) (s : State) : Result :=
  .next (if s.via p ∧ s.cpPage n ∧ source < 4096 then s.eicCmd n source 1 else s)
/-- EIC_CLR_PEND. -/
def execEicClrPend (p : Path) (n source : Nat) (s : State) : Result :=
  .next (if s.via p ∧ s.cpPage n ∧ source < 4096 then s.eicCmd n source 2 else s)
/-- EIC_MASK. -/
def execEicMask (p : Path) (n source : Nat) (s : State) : Result :=
  .next (if s.via p ∧ s.cpPage n ∧ source < 4096 then s.eicCmd n source 3 else s)
/-- EIC_UNMASK. -/
def execEicUnmask (p : Path) (n source : Nat) (s : State) : Result :=
  .next (if s.via p ∧ s.cpPage n ∧ source < 4096 then s.eicCmd n source 4 else s)

end Sys2Proof.Machine
end

