-- ==== Sys2Proof/Machine/Channels.lean ====
section
/-!
DEFINITION. Channels and DMA engines: channel commands (R320 to R322), program-space reads, status records and channel
events (R343 to R345), and the transfers of the engines (R370 to R381).
-/

namespace Sys2Proof.Machine

/-- Stores a channel's step in progress. -/
def State.setRun (c : Nat) (r : Option StepRun) (s : State) : State := s.setChan c { s.chan c with run := r }

/-- The physical CP that carries a logical CP (R347). -/
def State.physOf (s : State) (l : Nat) : Option Nat :=
  (List.range s.part.cpsPhys).find? fun n => (s.cp n).role == .usable && (s.cp n).logical == l

/-- CHAN_CFG.CP of a channel. -/
def Chan.lcp (x : Chan) : Nat := fld x.cfg 4 1
/-- CHAN_CFG.DMA of a channel. -/
def Chan.dma (x : Chan) : Nat := fld x.cfg 9 5
/-- CHAN_CFG.OWNER of a channel. -/
def Chan.owner (x : Chan) : Nat := fld x.cfg 15 10
/-- CHAN_CFG.PROG_LOC is part DRAM. -/
def Chan.progDram (x : Chan) : Bool := flag x.cfg 16
/-- CHAN_CFG.SR_LOC is part DRAM. -/
def Chan.srDram (x : Chan) : Bool := flag x.cfg 17
/-- CHAN_CFG.SR_LOG2. -/
def Chan.srLog2 (x : Chan) : Nat := fld x.cfg 21 18

/-- The master ID of the CP that runs a channel (R471). -/
def State.cpMaster (s : State) (c : Nat) : Nat := 0x140 + (s.physOf (s.chan c).lcp).getD 0

/-- What a read by a block answers: it must wait for outside memory, it failed, or it brought bytes. -/
inductive Got where
  | wait
  | fail
  | got (bytes : List Byte)
  deriving DecidableEq, Repr

/-- A read of an outside memory: consumed bytes need a new completion (R307, R494). -/
def State.extReadIf (up : Bool) (space a n : Nat) (s : State) : Got × State :=
  if !up then (.fail, s)
  else
    match s.extBytes space a n with
    | none => (.wait, s)
    | some none => (.fail, s.extDrop space a n)
    | some (some l) => (.got l, s.extDrop space a n)

/-- A read of outside memory, which needs its link. -/
def State.extRead (space a n : Nat) (s : State) : Got × State := s.extReadIf (s.spaceUp space) space a n

/-- A read of a channel's program space (R328). -/
def State.progRead (c a n : Nat) (s : State) : Got × State :=
  if (s.chan c).progDram then
    match s.readBytes (s.cpMaster c) 0x2 a n with
    | (some l, s) => (.got l, s)
    | (none, s) => (.fail, s)
  else s.extRead 0 a n

/-! ## Status records and channel events (R343 to R345) -/

/-- The 16 bytes of a status record (R343). -/
def statusRecord (c op result done tag detail retries idx s2 : Nat) (held last faulted : Bool) : List Byte :=
  leBytes 2 c ++ [byte op, byte result] ++ leBytes 4 done ++ leBytes 2 tag ++ leBytes 2 detail ++
  [byte (sat retries 255), byte (idx / 2 ^ s2 % 2 + 2 * b2n held + 4 * b2n last + 8 * b2n faulted)] ++ leBytes 2 idx

/-- Posts a status record in the channel's ring, over the oldest (R343, R344). -/
def State.postStatus (c : Nat) (rec_ : List Byte) (s : State) : State :=
  let x := s.chan c
  let a := x.srBase + 16 * (x.srProd % 2 ^ x.srLog2)
  let s := if x.srDram then s.writeBytes (s.cpMaster c) 0x1 a rec_ else s.post 0 a rec_
  s.setChan c { s.chan c with srProd := (x.srProd + 1) % 2 ^ 32 }

/-- Raises a KIND 0 event of a channel: the status record, the step address and the channel's state (R345). -/
def State.chanEvent (c typ cls : Nat) (rec_ : List Byte) (s : State) : State :=
  s.send .chan c (.chanRec typ cls (rec_ ++ leBytes 8 (s.chan c).pc ++ [byte (s.chan c).st.code]))

/-- The buffers of a channel's step and chain are released, and its waiting request is withdrawn (R322, R332). -/
def State.dropBufs (c : Nat) (s : State) : State :=
  let x := s.chan c
  let out := x.run.bind (·.out)
  let s := (s.hopCancelAll (.chan c)).setChan c { x with inBuf := none, hopWait := false, run := x.run.map fun r => { r with out := none } }
  (s.hopRelease x.inBuf).hopRelease out

/-- A channel becomes IDLE with a STOPPED status record, LAST set (R321, R322). -/
def State.stopped (c : Nat) (s : State) : State :=
  let x := s.chan c
  let (op, tag) := match x.run with
    | some r => (r.step.op, r.step.key)
    | none => (x.lastOp, x.lastTag)
  let r := statusRecord c op 0x01 ((x.run.map (·.done)).getD 0) tag 0 x.retries x.srProd x.srLog2 false true false
  let s := s.dropBufs c
  let s := s.setChan c { s.chan c with st := .idle, run := none, result := 1, nextPc := none, retries := 0 }
  let s := { s with waits := s.waits.filter (fun e => e.2 != c), regload := s.regload.filter (· != c) }
  s.postStatus c r

/-- A step failed with no retry left: FAULTED, with its status record, MR_FAULT_MAP, CHAN_FAULT and the FAULT event; the
PC keeps the failing step (R341, R343, R345). -/
def State.chanFault (c : Nat) (e : StepEnd) (s : State) : State :=
  let x := s.chan c
  let (op, tag) := match x.run with
    | some r => (r.step.op, r.step.key)
    | none => (0, 0)
  let r := statusRecord c op e.result e.done tag e.detail x.retries x.srProd x.srLog2 false false true
  let s := s.dropBufs c
  let s := s.setChan c { s.chan c with st := .faulted, run := none, result := e.result, nextPc := none }
  let s := { s with waits := s.waits.filter (fun w => w.2 != c), regload := s.regload.filter (· != c) }
  let s := s.postStatus c r
  let m := Reg.mrFaultMap (c / 32)
  let s := s.setReg m (s.reg m ||| word (2 ^ (c % 32)))
  let s := s.raiseErr .millrace 0 5 (Cap.mem x.pc (s.cpMaster c) 0xF)
  s.chanEvent c 0x02 1 r

/-! ## DMA shadows -/

/-- The owner of an engine's sets is channel `c`. -/
def DmaOwner.isChan (o : DmaOwner) (c : Nat) : Bool := o == .channel c

/-- A write of a shadow word; CTL with ARM at 1 arms the set (R371). -/
def State.dmaShadow (e idx : Nat) (w : Word) (o : DmaOwner) (s : State) : State :=
  let d := s.dma e
  let d := { d with sh := Tbl.set d.sh idx w }
  s.setDma e (if idx = 5 ∧ flag w 19 then { d with armed := true, shOwner := o } else d)

/-- Loads and arms a whole shadow set, as a REP OUT does (R371). -/
def State.dmaArm (e : Nat) (x : DmaSet) (s : State) : State :=
  let s := [(0, loWord x.src), (1, hiWord x.src), (2, loWord x.dst), (3, hiWord x.dst), (4, word x.count),
            (6, word x.tag)].foldl (fun s w => s.dmaShadow e w.1 w.2 x.owner) s
  s.dmaShadow e 5 (word (x.ctl ||| 2 ^ 19)) x.owner

/-- The transfer that the shadow words describe. -/
def Dma.shadowSet (d : Dma) : DmaSet :=
  let w := fun k => Tbl.getD d.sh k (0 : Word)
  { src := pair64 (w 0) (w 1), dst := pair64 (w 2) (w 3), count := (w 4).toNat, ctl := (w 5).toNat,
    tag := fld (w 6) 15 0, owner := d.shOwner }

/-- A channel's step hears of its transfer's end: OK moves it on, any other code ends it with DMA_ERR (R342, R377);
STOPPED is the stop's own. -/
def State.dmaTell (o : DmaOwner) (code done : Nat) (s : State) : State :=
  match o with
  | .pipe _ => s
  | .channel c =>
    match (s.chan c).run with
    | none => s
    | some r =>
      if code = 0 then s.setRun c (some { r with phase := .moved, done := r.done + done })
      else if code = 7 ∨ r.ending.isSome then s.setRun c (some { r with phase := .moved, done := r.done + done })
      else s.setRun c (some { r with phase := .moved, fin := some (r.fin.getD ⟨0x0A, code, r.done + done⟩) })

/-- The armed shadow is cleared and reported as NOT_RUN (R379, R380). -/
def State.dmaNotRun (e : Nat) (s : State) : State :=
  let d := s.dma e
  if d.armed then (s.setDma e { d with armed := false }).dmaTell d.shOwner 8 0 else s

/-- A STOP ends the stopped channel's transfer at the next 64-byte boundary, and clears the shadow only where it holds a
transfer of that channel (R380). -/
def State.dmaStop (c : Nat) (s : State) : State :=
  let e := (s.chan c).dma
  let d := s.dma e
  let cur := match d.cur with
    | some x => x.owner.isChan c
    | none => false
  let s := if cur then s.setDma e { d with ending := some 7 } else s
  if d.armed && d.shOwner.isChan c then s.dmaNotRun e else s

/-! ## Channel commands (R321, R322) -/

/-- A discarded channel command (R48, R321, R346). -/
def State.chanDiscard (src : Nat) (cap : Cap) (s : State) : State :=
  (s.bump Reg.mrDbDrop).raiseErr .millrace 0 src cap

/-- The capture of a channel command's discard (R492). -/
def State.chanCap (s : State) (b : ChanBy) : Cap :=
  match b with
  | .i3c => Cap.reg .i3c Reg.mrChanCmd
  | .regload => Cap.reg .regload Reg.mrChanCmd
  | .doorbell => s.dbCap 0
  | .signal => Cap.none

/-- The NVMe commands of a channel that no submission queue holds yet: they are never issued once its step is stopped (R322). -/
def State.nvmeUnsent (s : State) (c : Nat) : Nat :=
  (s.nvmes.map fun e => (e.2.cmds.filter fun k => k.2.chan == c && !k.2.sent).length).sum

/-- STOP of an ACTIVE channel: no further step is dispatched, and the step in progress ends as R322 gives. -/
def State.stopActive (c res : Nat) (s : State) : State :=
  match (s.chan c).run with
  | none => if res = 1 then s.stopped c else s
  | some r =>
    let left := r.left - s.nvmeUnsent c
    let phase := if r.phase = .nvme ∧ left = 0 then StepPhase.moved else r.phase
    let s : State := { s with nvmes := s.nvmes.map fun e =>
      (e.1, { e.2 with cmds := e.2.cmds.filter fun k => !(k.2.chan == c && !k.2.sent) }) }
    (s.setRun c (some { r with ending := some res, left := left, phase := phase })).dmaStop c

/-- The three commands of R321 on a channel that exists. -/
def State.chanAct (act : ChanAct) (c : Nat) (s : State) : State :=
  let x := s.chan c
  let refuse := s.chanDiscard 4 (Cap.obj c)
  if !flag x.cfg 0 then refuse
  else
    match act, x.st with
    | .start, .idle =>
      s.setChan c { x with st := .active, pc := x.prog, latch := false, chainPc := x.prog, retries := 0, run := none,
                           nextPc := none, inBuf := none }
    | .resume, .held =>
      match x.nextPc with
      | some p => s.setChan c { x with st := .active, pc := p, chainPc := p, nextPc := none }
      | none => s.setChan c { x with st := .idle }
    | .resume, .active => s.setChan c { x with latch := true }
    | .resume, .waiting => s.setChan c { x with latch := true }
    | .stop, .active => s.stopActive c 1
    | .stop, .waiting => s.stopped c
    | .stop, .held => s.stopped c
    | .stop, .faulted => s.setChan c { x with st := .idle }
    | _, _ => refuse

/-- The source of a channel command can bring one now: a register path only while it carries accesses (R15); a doorbell write has
been taken by its endpoint, and a SIGNAL step has run (assumption 89). -/
def State.chanVia (s : State) (b : ChanBy) : Bool :=
  match b with
  | .i3c => s.via .i3c
  | .regload => s.via .regload
  | .doorbell | .signal => true

/-- A channel command from any of its sources (R48, R321, R336, R346). Its source message passes through the router, which counts
it and sets its PEND bit (R363). -/
def State.chanCmd (act : ChanAct) (b : ChanBy) (c : Nat) (s : State) : State :=
  if !s.coreUp || !s.chanVia b then s
  else if s.part.channels ≤ c then s.chanDiscard 3 (s.chanCap b)
  else (s.chanAct act c).send (if b = .signal then .signal else .chan) c (.chanCmd act b)

/-- CHAN_START. -/
def execChanStart (b : ChanBy) (c : Nat) (s : State) : Result := .next (s.chanCmd .start b c)
/-- CHAN_RESUME. -/
def execChanResume (b : ChanBy) (c : Nat) (s : State) : Result := .next (s.chanCmd .resume b c)
/-- CHAN_STOP. -/
def execChanStop (b : ChanBy) (c : Nat) (s : State) : Result := .next (s.chanCmd .stop b c)

/-- The action code of R48. -/
def chanAction (n : Nat) : Option ChanAct :=
  if n = 1 then some .start else if n = 2 then some .resume else if n = 3 then some .stop else none

/-! ## Transfers (R373 to R381) -/

/-- Cuts a PCIe read into requests: none crosses 4 KiB or exceeds Max Read Request Size (R375). -/
def cutRead (mrrs : Nat) : Nat → Nat → Nat → List (Nat × Nat)
  | 0, _, _ => []
  | fuel + 1, a, len =>
    if len = 0 then [] else
    let l := min len (min (max 1 mrrs) (4096 - a % 4096))
    (a, l) :: cutRead mrrs fuel (a + l) (len - l)

/-- Cuts the body of a PCIe write at every multiple of Max Payload Size (R375). -/
def cutBody (mps : Nat) : Nat → Nat → Nat → List (Nat × Nat)
  | 0, _, _ => []
  | fuel + 1, a, len =>
    if len = 0 then [] else
    let l := min len (mps - a % mps)
    (a, l) :: cutBody mps fuel (a + l) (len - l)

/-- Cuts a PCIe write into head, body and tail; a part of length 0 is not sent (R375). -/
def cutWrite (mps a len : Nat) : List (Nat × Nat) :=
  let h := min len ((64 - a % 64) % 64)
  let e := (a + len) / 64 * 64
  let b := e - (a + h)
  let t := len - h - b
  (if h = 0 then [] else [(a, h)]) ++ cutBody (max 64 mps) (b + 1) (a + h) b ++ (if t = 0 then [] else [(a + h + b, t)])

/-- What walking a scatter list gives: it must wait, or its pieces and whether they cover what was asked (R334,
R376). -/
inductive Pieces where
  | wait
  | list (l : List (Nat × Nat)) (ok : Bool)
  deriving DecidableEq, Repr

/-- Walks a scatter list in a channel's program space for `need` bytes (R334, R376). -/
def State.walkList (c : Nat) : Nat → Nat → Nat → State → Pieces × Bool × State
  | 0, _, need, s => (.list [] (need == 0), false, s)
  | fuel + 1, a, need, s =>
    if need = 0 then (.list [] true, false, s)
    else
      match s.progRead c a 16 with
      | (.wait, s) => (.wait, false, s)
      | (.fail, s) => (.list [] false, true, s)
      | (.got l, s) =>
        let p := leAt l 0 8
        let fl := leAt l 12 4
        if bitOf fl 1 then s.walkList c fuel p need
        else
          let n := min (leAt l 8 4) need
          if bitOf fl 0 then (.list (if n = 0 then [] else [(p, n)]) (n == need), false, s)
          else
            match s.walkList c fuel (a + 16) (need - n) with
            | (.wait, b, s) => (.wait, b, s)
            | (.list t ok, b, s) => (.list ((if n = 0 then [] else [(p, n)]) ++ t) ok, b, s)

/-- Entries that one walk looks at most: a list of the largest transfer, with room for its links (assumption 21). -/
def listFuel : Nat := 1048576

/-- How a stream of source bytes came: it must wait, or the good bytes and the code of the first failure (R377). -/
inductive Stream where
  | wait
  | bytes (l : List Byte) (code : Nat)
  deriving DecidableEq, Repr

/-- Reads DRAM pieces up to the first line that fails; a piece off a line boundary ends with ALIGN (R374). -/
def State.srcDram (e : Nat) : List (Nat × Nat) → State → Stream × State
  | [], s => (.bytes [] 0, s)
  | (a, n) :: t, s =>
    if a % 64 ≠ 0 ∨ n % 64 ≠ 0 then (.bytes [] 4, s)
    else
      let (l, ok, s) := s.readLines (0x180 + e) 0x3 a (n / 64)
      if !ok then (.bytes l 3, s)
      else
        match s.srcDram e t with
        | (.wait, s) => (.wait, s)
        | (.bytes l' c, s) => (.bytes (l ++ l') c, s)

/-- Reads PCIe requests in order; an errored answer ends with ERR_TAIL where it is the last request and with ERR_CPL
otherwise (R377, R378). -/
def State.srcExt (space : Nat) : List (Nat × Nat) → State → Stream × State
  | [], s => (.bytes [] 0, s)
  | (a, n) :: t, s =>
    match s.extReadIf (s.spaceOpen space) space a n with
    | (.wait, s) => (.wait, s)
    | (.fail, s) => (.bytes [] (if t.isEmpty && s.spaceOpen space then 1 else 2), s)
    | (.got l, s) =>
      match s.srcExt space t with
      | (.wait, s) => (.wait, s)
      | (.bytes l' c, s) => (.bytes (l ++ l') c, s)

/-- The bytes that the owning step has staged at an internal FIFO. -/
def State.fifoData (s : State) (o : DmaOwner) : List Byte :=
  match o with
  | .channel c => ((s.chan c).run.map (·.data)).getD []
  | .pipe _ => []

/-- Stages bytes at an internal FIFO for the owning step. -/
def State.fifoPut (o : DmaOwner) (l : List Byte) (s : State) : State :=
  match o with
  | .channel c =>
    match (s.chan c).run with
    | some r => s.setRun c (some { r with data := l })
    | none => s
  | .pipe _ => s

/-- The source side of a transfer. -/
def State.dmaSource (e : Nat) (x : DmaSet) (ps : List (Nat × Nat)) (s : State) : Stream × State :=
  let sp := bits x.ctl 3 0
  if sp = 0 then s.srcDram e ps
  else if sp = 10 then (.bytes (padTo x.count (s.fifoData x.owner)) 0, s)
  else
    let m := ((s.openLink (sp - 1)).map fun n => (s.link n).mrrs).getD 512
    s.srcExt (sp - 1) (ps.flatMap fun p => cutRead m (p.2 + 1) p.1 p.2)

/-- Writes DRAM pieces in whole lines up to the end of the bytes; a piece off a line boundary ends with ALIGN, a line
refused at MEMARB with ERR_CPL (R374, R377). The count of bytes written, and the code. -/
def State.dstDram (e : Nat) : List (Nat × Nat) → List Byte → State → Nat × Nat × State
  | [], _, s => (0, 0, s)
  | (a, n) :: t, l, s =>
    if a % 64 ≠ 0 ∨ n % 64 ≠ 0 then (0, 4, s)
    else
      let k := min n l.length / 64 * 64
      let fit := min k ((s.dramSize - a) / 64 * 64)
      let s := s.writeLines (0x180 + e) 0x4 a (l.take fit)
      if fit < k then (fit, 2, s.accessErr (0x180 + e) 0x4 (a + fit))
      else if k < n then (k, 0, s)
      else
        let (d, c, s) := s.dstDram e t (l.drop n)
        (k + d, c, s)

/-- Writes pieces through a PCIe endpoint as posted writes (R375). -/
def State.dstExt (space mps : Nat) : List (Nat × Nat) → List Byte → State → Nat × Nat × State
  | [], _, s => (0, 0, s)
  | (a, n) :: t, l, s =>
    if !s.spaceOpen space then (0, 2, s)
    else
      let k := min n l.length
      let s := (cutWrite mps a k).foldl (fun s p => s.emit (.write space p.1 (slice l (p.1 - a) p.2))) s
      if k < n then (k, 0, s)
      else
        let (d, c, s) := s.dstExt space mps t (l.drop n)
        (k + d, c, s)

/-- The destination side of a transfer. -/
def State.dmaDest (e : Nat) (x : DmaSet) (ps : List (Nat × Nat)) (l : List Byte) (s : State) : Nat × Nat × State :=
  let sp := bits x.ctl 7 4
  if sp = 0 then s.dstDram e ps l
  else if sp = 10 then (l.length, 0, s.fifoPut x.owner l)
  else
    let m := ((s.openLink (sp - 1)).map fun n => (s.link n).mps).getD 128
    s.dstExt (sp - 1) m ps l

/-- A set that ends with BAD_CTL (R373). -/
def DmaSet.bad (x : DmaSet) : Bool :=
  let sp := bits x.ctl 3 0
  let dp := bits x.ctl 7 4
  let f := bits x.ctl 15 8
  decide (10 < sp) || decide (10 < dp) || bits x.ctl 31 20 != 0 || x.count == 0 ||
  (sp == 10 && !(f == 0x01 || f == 0x04)) || (dp == 10 && !(f == 0x00 || f == 0x02 || f == 0x03)) ||
  (sp == 10 && decide (4096 ≤ x.src)) || (dp == 10 && decide (4096 ≤ x.dst))

/-- A set without a scatter list on a DRAM side that breaks R374. -/
def DmaSet.misaligned (x : DmaSet) : Bool :=
  let side := fun (sp a : Nat) (list : Bool) => sp == 0 && !list && (a % 64 != 0 || x.count % 64 != 0)
  side (bits x.ctl 3 0) x.src (bitOf x.ctl 16) || side (bits x.ctl 7 4) x.dst (bitOf x.ctl 17)

/-- The quad domains of an endpoint that has been asked to power down (R380, R424). -/
def State.spaceOff (s : State) (sp : Nat) : Bool :=
  if sp = 0 ∨ sp = 10 then !s.clk.core || s.clk.drains.any fun d => d.dom == .core
  else
    match s.openLink (sp - 1) with
    | none => false
    | some n => (s.linkQuads n).any fun q =>
        s.clk.quadsOff.contains q || s.clk.drains.any fun d => d.dom == .quad q

/-- The pieces of one side: its scatter list, or the one range. -/
def State.sidePieces (x : DmaSet) (list : Bool) (a : Nat) (s : State) : Pieces × State :=
  match list, x.owner with
  | true, .channel c => let (p, _, s) := s.walkList c listFuel a x.count; (p, s)
  | _, _ => (.list [(a, x.count)] true, s)

/-- Runs a transfer to its end: DONE and the end code, or nothing while outside memory has not answered (R373 to
R378). -/
def State.dmaMove (e : Nat) (x : DmaSet) (s : State) : Option (Nat × Nat × State) :=
  if x.bad then some (0, 9, s)
  else if x.misaligned then some (0, 4, s)
  else
    match s.sidePieces x (bitOf x.ctl 16) x.src with
    | (.wait, _) => none
    | (.list sl sok, s) =>
      match s.sidePieces x (bitOf x.ctl 17) x.dst with
      | (.wait, _) => none
      | (.list dl dok, s) =>
        match s.dmaSource e x sl with
        | (.wait, _) => none
        | (.bytes l c, s) =>
          let (d, c', s) := s.dmaDest e x dl l
          let c := if c' ≠ 0 then c' else if c ≠ 0 then c else if !sok || !dok then 5 else 0
          some (d, c, s)

/-- The errors that an end code sets in the engine's page (R374, R390). -/
def State.dmaErr (e : Nat) (x : DmaSet) (code done : Nat) (s : State) : State :=
  let a := x.src + done
  if code = 4 then s.raiseErr .dma e 1 (Cap.mem (if bits x.ctl 3 0 = 0 ∧ x.src % 64 ≠ 0 then x.src else x.dst) (0x180 + e)
    (if bits x.ctl 3 0 = 0 ∧ x.src % 64 ≠ 0 then 0x3 else 0x4))
  else if code = 1 ∨ code = 2 then s.raiseErr .dma e 2 (Cap.mem a (0x180 + e) 0x3)
  else if code = 3 then s.raiseErr .dma e 3 (Cap.mem a (0x180 + e) 0x3)
  else s

/-- A transfer ends with a code: the counters, the owner, HALT_ON_ERR, and the engine free for the armed shadow (R372,
R377, R379). -/
def State.dmaEnd (e : Nat) (x : DmaSet) (code done : Nat) (s : State) : State :=
  let d := s.dma e
  let s := s.setDma e { d with cur := none, ending := none, lastCode := code, lastTag := x.tag, lastDone := done,
                               lastOwner := x.owner }
  let s := (s.wrap (Reg.dmaXfers e) 1).add64 (Reg.dmaBytesLo e) done
  let s := if code = 0 then s else s.bump (Reg.dmaFails e)
  let s := (s.dmaErr e x code done).dmaTell x.owner code done
  if code ≠ 0 ∧ bitOf x.ctl 18 then s.dmaNotRun e else s

/-- The requests that a transfer makes of outside memory, shown as outputs when it starts. -/
def State.dmaAsk (x : DmaSet) (s : State) : State :=
  let sp := bits x.ctl 3 0
  if 1 ≤ sp ∧ sp ≤ 9 ∧ !bitOf x.ctl 16 then
    match s.linkOfSpace (sp - 1) with
    | some n =>
      if s.canMaster n then
        (cutRead (s.link n).mrrs (x.count + 1) x.src x.count).foldl (fun s p => s.emit (.read (sp - 1) p.1 p.2)) s
      else s
    | none => s
  else s

/-- When the work that a transfer serves began: the dispatch of its step; a delivery's is under way (R45). -/
def State.stepSince (s : State) (o : DmaOwner) : Nat :=
  match o with
  | .channel c => ((s.chan c).run.map (·.at_)).getD 0
  | .pipe _ => 0

/-- DMA_TRANSFER_START (R372): an armed shadow becomes current once the engine is free; a transfer toward a domain that
is powering down ends at once with DOMAIN_OFF (R380). -/
def State.dmaStart (e : Nat) (s : State) : State :=
  let d := s.dma e
  if s.serves .dma e (s.stepSince d.shOwner) ∧ d.armed ∧ d.cur.isNone ∧ !d.retired then
    let x := d.shadowSet
    let s := s.setDma e { d with armed := false, cur := some x, ending := none }
    if s.spaceOff (bits x.ctl 3 0) ∨ s.spaceOff (bits x.ctl 7 4) then s.dmaEnd e x 6 0 else s.dmaAsk x
  else s

/-- DMA_TRANSFER_START. -/
def execDmaTransferStart (e : Nat) (s : State) : Result := .next (s.dmaStart e)

/-- How far a stopped transfer came: a 64-byte boundary of its destination, which one the spec leaves open (R380). -/
def State.dmaStopPoint (s : State) (x : DmaSet) : Nat :=
  let head := (64 - x.dst % 64) % 64
  if bitOf x.ctl 17 then s.freeBelow (x.count / 64 + 1) * 64 else head + s.freeBelow ((x.count - head) / 64 + 1) * 64

/-- DMA_TRANSFER_END (R377, R380): the current transfer ends when every request has been answered; a stopped one at a
boundary of its destination, moving the bytes before it. -/
def State.dmaFinish (e : Nat) (s : State) : State :=
  let d := s.dma e
  match d.cur with
  | none => s
  | some x =>
    if !s.memServes || !s.works .dma e then s
    else
      match d.ending with
      | some code =>
        let n := min (s.dmaStopPoint x) x.count
        let s := s.spend
        if n = 0 then s.dmaEnd e x code 0
        else
          match s.dmaMove e { x with count := n } with
          | some (done, c, s) => s.dmaEnd e x (if c = 0 then code else c) done
          | none => s.dmaEnd e x code 0
      | none =>
        match s.dmaMove e x with
        | some (done, c, s) => s.dmaEnd e x c done
        | none => s

end Sys2Proof.Machine
end

