-- ==== Sys2Proof/Machine/Flags.lean ====
section
/-!
DEFINITION. Results and flags of the arithmetic of channel processors and pawls (R350, R360), for a width of `w` bits.
-/

namespace Sys2Proof.Machine

/-- The flags Z, N, C, V. -/
structure Flags where
  z : Bool
  n : Bool
  c : Bool
  v : Bool
  deriving DecidableEq, Repr

/-- A sum with carry in: the result and all four flags, C the carry out (R350). -/
def addWith {w : Nat} (a b : BitVec w) (cin : Bool) : BitVec w × Flags :=
  let t := a.toNat + b.toNat + b2n cin
  let r := BitVec.ofNat w t
  (r, { z := r == 0, n := r.msb, c := decide (2 ^ w ≤ t), v := a.msb == b.msb && r.msb != a.msb })

/-- A difference as the sum of a, NOT b and 1 (R350). -/
def subWith {w : Nat} (a b : BitVec w) : BitVec w × Flags := addWith a (~~~b) true

/-- A logic result sets Z and N and leaves C and V (R350). -/
def logicFlags {w : Nat} (f : Flags) (r : BitVec w) : Flags := { f with z := r == 0, n := r.msb }

/-- A shift of `k` by a kind (0 SHL, 1 SHR, 2 SAR, 3 ROR), with the last bit shifted out where `k` is not 0 (R350). -/
def shiftBy (kind k : Nat) (a : Word) : Word × Option Bool :=
  if k = 0 then (a, none)
  else if kind = 0 then (a <<< k, some (a.getLsbD (32 - k)))
  else if kind = 1 then (a >>> k, some (a.getLsbD (k - 1)))
  else if kind = 2 then (a.sshiftRight k, some (a.getLsbD (k - 1)))
  else (a.rotateRight k, some (a.getLsbD (k - 1)))

/-- The bits of a byte of a number, exclusive-ored. -/
def parityOf (k n : Nat) : Nat := (List.range k).foldl (fun a i => a + n / 2 ^ i % 2) 0 % 2

/-- Count of ones of a word. -/
def popCount (a : Word) : Nat := (List.range 32).foldl (fun s i => s + b2n (a.getLsbD i)) 0

/-- Leading zeros of a word, 32 for 0 (R350). -/
def leadZeros (a : Word) : Nat := 32 - ((List.range 32).foldl (fun s i => if a.getLsbD i then i + 1 else s) 0)

/-- The low `k` bits of a number in reverse order. -/
def revBits (k n : Nat) : Nat := (List.range k).foldl (fun s i => s * 2 + n / 2 ^ i % 2) 0

/-- The four bytes of a word under a map of byte values, byte `i` going to place `place i`. -/
def mapBytes (f : Nat → Nat) (place : Nat → Nat) (a : Word) : Word :=
  word ((List.range 4).foldl (fun s i => s + f (a.toNat / 256 ^ i % 256) * 256 ^ place i) 0)

end Sys2Proof.Machine
end

