-- ==== Sys2Proof/Machine/Operands.lean ====
section
/-!
DEFINITION. The operand forms of channel-processor and pawl words: fields, immediates with their prefixes, and the
instruction that a word stands for (R349, R351, R360).
-/

namespace Sys2Proof.Machine

/-- An immediate of `w` field bits behind its prefixes of `pw` bits each, first prefix first (R351, R360). -/
def immOf (pw w : Nat) (ks : List Nat) (field : Nat) : Nat := (ks.foldl (fun a k => a * 2 ^ pw + k) 0) * 2 ^ w + field

/-- A signed immediate takes its sign from its highest combined bit (R351). -/
def immSigned (pw w : Nat) (ks : List Nat) (field : Nat) : Int :=
  signed (w + pw * ks.length) (immOf pw w ks field)

/-- The instructions of a channel processor (R349). A word that no row of the table implements is `reserved`. -/
inductive CpIns where
  | nop | ret | rett | wfm
  | xcall (w : Nat)
  | rep
  | imm (k : Nat)
  | movi (d i : Nat)
  | addi (d i : Nat)
  | cmpi (d i : Nat)
  | alu (d s fn : Nat)
  | shf (d s fn : Nat)
  | shi (d kind n : Nat)
  | ld (w p off : Nat)
  | st (w p off : Nat)
  | ldb (w p off : Nat)
  | stb (w p off : Nat)
  | movp (w p : Nat) (byte store : Bool)
  | pmov (p w fn : Nat)
  | paddi (p i : Nat)
  | branch (cond off : Nat)
  | call (off : Nat)
  | jr (w : Nat) (link : Bool)
  | crc (d p : Nat) (ccitt : Bool) (size : Nat)
  | bit (d s fn : Nat)
  | inp (w port : Nat)
  | outp (w port : Nat)
  | reserved
  deriving DecidableEq, Repr

/-- The instruction of a CP word (R349, R350). Conditions 0 to 6 are always, Z, not Z, C, not C, N, not N. -/
def cpDecode (x : BitVec 14) : CpIns :=
  let n := x.toNat
  let f := fun hi lo => bits n hi lo
  let op := f 13 9
  if op = 0x00 then
    let fn := f 5 0
    if fn = 0 then .nop else if fn = 1 then .ret else if fn = 2 then .rett else if fn = 3 then .wfm
    else if fn = 4 then .xcall (f 8 6) else .reserved
  else if op = 0x01 then (if f 8 0 = 0 then .rep else .reserved)
  else if op = 0x02 then .imm (f 8 0)
  else if op = 0x03 then .movi (f 8 6) (f 5 0)
  else if op = 0x04 then .addi (f 8 6) (f 5 0)
  else if op = 0x05 then .cmpi (f 8 6) (f 5 0)
  else if op = 0x06 then .alu (f 8 6) (f 5 3) (f 2 0)
  else if op = 0x07 then .shf (f 8 6) (f 5 3) (f 2 0)
  else if op = 0x08 then .shi (f 8 6) (f 5 4) (f 3 0)
  else if op = 0x09 then .ld (f 8 6) (f 5 4) (f 3 0)
  else if op = 0x0A then .st (f 8 6) (f 5 4) (f 3 0)
  else if op = 0x0B then .ldb (f 8 6) (f 5 4) (f 3 0)
  else if op = 0x0C then .stb (f 8 6) (f 5 4) (f 3 0)
  else if op = 0x0D then (if f 1 0 = 0 then .movp (f 8 6) (f 5 4) (bitOf n 3) (bitOf n 2) else .reserved)
  else if op = 0x0E then (if f 0 0 = 0 ∧ f 3 1 ≠ 7 then .pmov (f 8 7) (f 6 4) (f 3 1) else .reserved)
  else if op = 0x0F then .paddi (f 8 7) (f 6 0)
  else if op ≤ 0x16 then .branch (op - 0x10) (f 8 0)
  else if op = 0x17 then .call (f 8 0)
  else if op = 0x18 then (if f 5 0 = 0 then .jr (f 8 6) false else if f 5 0 = 1 then .jr (f 8 6) true else .reserved)
  else if op = 0x19 then (if f 0 0 = 0 ∧ f 2 1 ≠ 3 then .crc (f 8 6) (f 5 4) (bitOf n 3) (f 2 1) else .reserved)
  else if op = 0x1A then (if f 2 0 ≤ 4 then .bit (f 8 6) (f 5 3) (f 2 0) else .reserved)
  else if op = 0x1B then .inp (f 8 6) (f 5 0)
  else if op = 0x1C then .outp (f 8 6) (f 5 0)
  else .reserved

/-- The instruction has a field that takes immediate prefixes (R349, R351). -/
def CpIns.takesImm : CpIns → Bool
  | .movi .. | .addi .. | .cmpi .. | .ld .. | .st .. | .ldb .. | .stb .. | .paddi .. | .branch .. | .call .. => true
  | _ => false

/-- The instruction may follow REP (R352). -/
def CpIns.takesRep : CpIns → Bool
  | .alu .. | .shf .. | .shi .. | .bit .. | .crc .. | .movp .. | .pmov .. | .addi .. | .paddi .. | .inp .. | .outp .. =>
    true
  | _ => false

/-- The instructions of a pawl (R360). -/
inductive PawlIns where
  | nop | ret | rett | wfe | twait
  | ldi (v i : Nat)
  | pfx (k : Nat)
  | alu (d s fn : Nat)
  | addi (v i : Nat)
  | inp (v port : Nat)
  | outp (v port : Nat)
  | branch (cond off : Nat)
  | call (off : Nat)
  | sev (target : Nat)
  | tset (v fn : Nat)
  | ev (v fn : Nat)
  | reserved
  deriving DecidableEq, Repr

/-- The instruction of a pawl word (R360). Conditions 0 to 2 are always, Z, not Z. -/
def pawlDecode (x : BitVec 12) : PawlIns :=
  let n := x.toNat
  let f := fun hi lo => bits n hi lo
  let op := f 11 8
  if op = 0x0 then
    let fn := f 7 0
    if fn = 0 then .nop else if fn = 1 then .ret else if fn = 2 then .rett else if fn = 3 then .wfe
    else if fn = 4 then .twait else .reserved
  else if op = 0x1 then .ldi (f 7 6) (f 5 0)
  else if op = 0x2 then .pfx (f 7 0)
  else if op = 0x3 then (if f 3 0 ≤ 8 then .alu (f 7 6) (f 5 4) (f 3 0) else .reserved)
  else if op = 0x4 then .addi (f 7 6) (f 5 0)
  else if op = 0x5 then .inp (f 7 6) (f 5 0)
  else if op = 0x6 then .outp (f 7 6) (f 5 0)
  else if op ≤ 0x9 then .branch (op - 7) (f 7 0)
  else if op = 0xA then .call (f 7 0)
  else if op = 0xB then (if f 7 5 = 0 ∧ (f 4 0 ≤ 23 ∨ f 4 0 = 31) then .sev (f 4 0) else .reserved)
  else if op = 0xC then (if f 3 0 = 0 then .tset (f 7 6) (f 5 4) else .reserved)
  else if op = 0xD then (if f 3 0 = 0 then .ev (f 7 6) (f 5 4) else .reserved)
  else .reserved

/-- The pawl instruction has a field that takes prefixes (R360). -/
def PawlIns.takesPfx : PawlIns → Bool
  | .ldi .. | .addi .. | .branch .. | .call .. => true
  | _ => false

end Sys2Proof.Machine
end

