-- ==== Sys2Proof/Machine/CpOps.lean ====
section
/-!
DEFINITION. Channel processors: registers, data memory, traps, ports, the extension call, and what each instruction does
(R347 to R356, R364).
-/

namespace Sys2Proof.Machine

/-- Wk of a CP. -/
def Cp.wr (c : Cp) (k : Nat) : Word := Tbl.getD c.w k 0
/-- Writes Wk. -/
def Cp.setW (c : Cp) (k : Nat) (v : Word) : Cp := { c with w := Tbl.set c.w k v }
/-- Pk of a CP. -/
def Cp.ptr (c : Cp) (k : Nat) : Word := Tbl.getD c.p k 0
/-- Writes Pk. -/
def Cp.setP (c : Cp) (k : Nat) (v : Word) : Cp := { c with p := Tbl.set c.p k v }

/-- FL.X (R348). -/
def Cp.x (c : Cp) : Bool := c.fl.getLsbD 4
/-- FL.T (R348). -/
def Cp.t (c : Cp) : Bool := c.fl.getLsbD 5
/-- A flag byte with one bit set or cleared. -/
def setFl (f : BitVec 8) (k : Nat) (v : Bool) : BitVec 8 :=
  if v then f ||| BitVec.ofNat 8 (2 ^ k) else f &&& ~~~(BitVec.ofNat 8 (2 ^ k))
/-- The arithmetic flags of a CP. -/
def Cp.flags (c : Cp) : Flags :=
  { z := c.fl.getLsbD 0, n := c.fl.getLsbD 1, c := c.fl.getLsbD 2, v := c.fl.getLsbD 3 }
/-- Stores the arithmetic flags, keeping X and T. -/
def Cp.setFlags (c : Cp) (f : Flags) : Cp :=
  { c with fl := (c.fl &&& 0xF0#8) ||| BitVec.ofNat 8 (b2n f.z + 2 * b2n f.n + 4 * b2n f.c + 8 * b2n f.v) }

/-- The program word at an address; words not loaded read 0x3FFF (R357). -/
def Cp.wordAt (c : Cp) (a : Nat) : BitVec 14 := Tbl.getD c.prog a 0x3FFF
/-- A byte of data memory; data not loaded reads zero (R357). -/
def Cp.byteAt (c : Cp) (a : Nat) : Byte := Tbl.getD c.data (a % 65536) 0
/-- A 32-bit word of data memory, little-endian. -/
def Cp.wordOf (c : Cp) (a : Nat) : Nat := leNat ((List.range 4).map fun i => c.byteAt (a + i))
/-- Stores bytes in data memory. -/
def Cp.store (c : Cp) (a : Nat) (l : List Byte) : Cp :=
  { c with data := l.zipIdx.foldl (fun d e => Tbl.put d ((a + e.2) % 65536) e.1 (0 : Byte)) c.data }

/-- A data address that an access may use: P[31:16] zero, and in X inside the extension region (R348, R355). -/
def Cp.addrOk (c : Cp) (p : Word) (a : Nat) : Bool := decide (p.toNat < 65536) && (!c.x || decide (0xC000 ≤ a))

/-- The trap causes of R353. -/
inductive CpCause where
  | rsvd | prefix_ | addr | port | stack | wdog | memerr
  deriving DecidableEq, Repr

/-- TCAUSE, which is also the vector word (R353). -/
def CpCause.code : CpCause → Nat
  | .rsvd => 1 | .prefix_ => 2 | .addr => 3 | .port => 4 | .stack => 5 | .wdog => 6 | .memerr => 7

/-- What one instruction or one iteration of it does inside the CP: a new CP at the next PC, a trap, or a wait. -/
inductive CpRes where
  | ok (c : Cp)
  | trap (k : CpCause)
  | wait
  deriving DecidableEq, Repr

/-- The channels of a physical CP that have a step in progress. -/
def State.stepsOn (s : State) (n : Nat) : List Nat :=
  (s.chans.filter fun e => e.2.run.isSome && s.physOf e.2.lcp == some n).map (·.1)

/-- A step in progress is given its end. -/
def State.endStep (c : Nat) (e : StepEnd) (s : State) : State :=
  match (s.chan c).run with
  | some r => if r.fin.isNone then s.setRun c (some { r with fin := some e }) else s
  | none => s

/-- A CP starts at word 0 with nothing on its stack and no prefix (R353, R358, R495); its flags are clear and its other registers stay
(DESIGN CHOICE, assumption 133). -/
def Cp.restart (c : Cp) : Cp :=
  { c with pc := 0, fl := 0, stack := [], imms := [], rep := false, latch := none, first := none, sleep := false, call := none }

/-- A double trap (R353): the CP restarts, every step in progress on it ends with FETCH, and DTRAP is set. -/
def State.cpDouble (n : Nat) (s : State) : State :=
  let s := (s.stepsOn n).foldl (fun s c => s.endStep c ⟨0x09, 0, 0⟩) s
  (s.setCp n (s.cp n).restart).raiseErr .cp n 3 Cap.none

/-- The trap state: TPC at the instruction's first word, TNEXT after it, FL in TFL (R353). -/
def Cp.trapAt (c : Cp) (k : CpCause) (left : Nat) : Cp :=
  { c with tpc := c.first.getD c.pc, tnext := (c.pc + 1) % 16384, tfl := c.fl, tcause := k.code, trep := left,
           imms := [], rep := false, latch := none, first := none }

/-- A trap (R353, R356): in X, RSVD and PREFIX go to the emulation entry; while T is 1 it is a double trap; otherwise T
is set, X cleared, and the CP goes to the cause's vector. -/
def State.cpTrap (n : Nat) (k : CpCause) (left : Nat) (s : State) : State :=
  let c := s.cp n
  let emu := (c.wordAt 12416).toNat
  let s := s.bump (Reg.cpTraps n)
  if c.x ∧ (k = .rsvd ∨ k = .prefix_) then
    let c' := c.trapAt k left
    if emu ≠ 0 ∧ c.ext ∧ c.stack.length < 16 then
      s.setCp n { c' with stack := (c'.tnext, false) :: c.stack, pc := emu }
    else
      let s := s.setCp n { c' with stack := [], fl := setFl c.fl 4 false, pc := 0, call := none }
      match c.call with
      | some x => s.endStep x.chan ⟨0x17, 0xFFFE, 0⟩
      | none => s
  else if c.t then s.cpDouble n
  else
    let c' := c.trapAt k left
    s.setCp n { c' with fl := setFl (setFl c.fl 5 true) 4 false, pc := k.code }

/-- The instruction is done: its prefixes are used up, and the CP goes on at `pc`. -/
def Cp.goto (c : Cp) (pc : Nat) : Cp := { c with pc := pc % 16384, imms := [], rep := false, latch := none, first := none }

/-- On to the next word. -/
def Cp.adv (c : Cp) : Cp := c.goto (c.pc + 1)

/-- A branch target (R349): the signed offset from the word's own address plus 1. -/
def Cp.target (c : Cp) (off : Nat) : Nat := ((c.pc + 1 + immSigned 9 9 c.imms off) % 16384).toNat

/-- The condition of a branch (R349). -/
def Cp.cond (c : Cp) (k : Nat) : Bool :=
  let f := c.flags
  if k = 0 then true else if k = 1 then f.z else if k = 2 then !f.z else if k = 3 then f.c else if k = 4 then !f.c
  else if k = 5 then f.n else !f.n

/-- ALU functions (R350). -/
def Cp.alu (c : Cp) (d s fn : Nat) : Cp :=
  let a := c.wr d
  let b := c.wr s
  let logic := fun (r : Word) => (c.setW d r).setFlags (logicFlags c.flags r)
  if fn = 0 then logic b
  else if fn = 1 then let r := addWith a b false; (c.setW d r.1).setFlags r.2
  else if fn = 2 then let r := subWith a b; (c.setW d r.1).setFlags r.2
  else if fn = 3 then let r := addWith a b c.flags.c; (c.setW d r.1).setFlags r.2
  else if fn = 4 then logic (a &&& b)
  else if fn = 5 then logic (a ||| b)
  else if fn = 6 then logic (a ^^^ b)
  else c.setFlags (subWith a b).2

/-- A shift of Wd, C taking the last bit shifted out (R350). -/
def Cp.shift (c : Cp) (d kind k : Nat) : Cp :=
  let r := shiftBy kind k (c.wr d)
  let c' := c.setW d r.1
  match r.2 with
  | some b => c'.setFlags { c.flags with c := b }
  | none => c'

/-- SHF functions (R350). -/
def Cp.shf (c : Cp) (d s fn : Nat) : Cp :=
  let b := c.wr s
  if fn ≤ 3 then c.shift d fn (fld b 4 0)
  else if fn = 4 then c.setW d (~~~b)
  else if fn = 5 then c.setW d (0 - b)
  else if fn = 6 then c.setW d (word (leadZeros b))
  else c.setW d (mapBytes id (3 - ·) b)

/-- BIT functions (R350). -/
def Cp.bit (c : Cp) (d s fn : Nat) : Cp :=
  let b := c.wr s
  let r :=
    if fn = 0 then word (parityOf 32 b.toNat)
    else if fn = 1 then word ((List.range 4).foldl (fun a k => a + parityOf 8 (b.toNat / 256 ^ k % 256) * 2 ^ k) 0)
    else if fn = 2 then mapBytes (revBits 8) id b
    else if fn = 3 then word (revBits 32 b.toNat)
    else word (popCount b)
  c.setW d r

/-- CRC over 1, 2 or 4 bytes at Pp, which advances (R350). -/
def Cp.crc (c : Cp) (d p : Nat) (ccitt : Bool) (size : Nat) : CpRes :=
  let a := c.ptr p
  let n := 2 ^ size
  if !(c.addrOk a a.toNat) || !(c.addrOk a ((a.toNat + n - 1) % 65536)) then .trap .addr
  else
    let l := (List.range n).map fun i => c.byteAt (a.toNat + i)
    let v := (c.wr d).toNat
    let r := if ccitt then l.foldl (crcMsbByte 0x1021) (v % 65536) else l.foldl (crcRefByte 0x82F63B78) v
    .ok ((c.setW d (word r)).setP p (word (a.toNat + n)))

/-- A load or store of a word or byte at a data address (R349, R353). -/
def Cp.mem (c : Cp) (w : Nat) (base : Word) (a : Nat) (byteWide store : Bool) : CpRes :=
  if !c.addrOk base a || (!byteWide && a % 4 != 0) then .trap .addr
  else if store then .ok (c.store a (leBytes (if byteWide then 1 else 4) (c.wr w).toNat))
  else .ok (c.setW w (word (if byteWide then (c.byteAt a).toNat else c.wordOf a)))

/-- The data address of LD, ST, LDB and STB: P[15:0] and the scaled offset (R349). -/
def Cp.ea (c : Cp) (p off scale : Nat) : Nat := ((c.ptr p).toNat + scale * immOf 9 4 c.imms off) % 65536

/-- MOVP: an access at Pp, which then advances by the width (R349). -/
def Cp.movp (c : Cp) (w p : Nat) (byteWide store : Bool) : CpRes :=
  let a := c.ptr p
  match c.mem w a a.toNat byteWide store with
  | .ok c' => .ok (c'.setP p (a + word (if byteWide then 1 else 4)))
  | r => r

/-- PMOV functions (R349). -/
def Cp.pmov (c : Cp) (p w fn : Nat) : Cp :=
  if fn = 0 then c.setP p (c.wr w)
  else if fn = 1 then c.setW w (c.ptr p)
  else if fn = 2 then c.setP p (c.ptr p + c.wr w)
  else if fn = 3 then { c with rc := BitVec.ofNat 16 (c.wr w).toNat }
  else if fn = 4 then c.setW w (word c.rc.toNat)
  else if fn = 5 then { c with fl := (c.fl &&& 0x30#8) ||| (BitVec.ofNat 8 (c.wr w).toNat &&& 0x0F#8) }
  else c.setW w (word c.fl.toNat)

/-- One iteration of an instruction that neither moves the PC nor touches a port (R349, R350). -/
def Cp.iter (c : Cp) (i : CpIns) : CpRes :=
  match i with
  | .movi d k => .ok (c.setW d (word (immOf 9 6 c.imms k)))
  | .addi d k => let r := addWith (c.wr d) (BitVec.ofInt 32 (immSigned 9 6 c.imms k)) false; .ok ((c.setW d r.1).setFlags r.2)
  | .cmpi d k => .ok (c.setFlags (subWith (c.wr d) (BitVec.ofInt 32 (immSigned 9 6 c.imms k))).2)
  | .alu d s fn => .ok (c.alu d s fn)
  | .shf d s fn => .ok (c.shf d s fn)
  | .shi d kind n => .ok (c.shift d kind n)
  | .ld w p off => c.mem w (c.ptr p) (c.ea p off 4) false false
  | .st w p off => c.mem w (c.ptr p) (c.ea p off 4) false true
  | .ldb w p off => c.mem w (c.ptr p) (c.ea p off 1) true false
  | .stb w p off => c.mem w (c.ptr p) (c.ea p off 1) true true
  | .movp w p b st => c.movp w p b st
  | .pmov p w fn => .ok (c.pmov p w fn)
  | .paddi p k => .ok (c.setP p (c.ptr p + BitVec.ofInt 32 (immSigned 9 7 c.imms k)))
  | .crc d p t size => c.crc d p t size
  | .bit d s fn => .ok (c.bit d s fn)
  | _ => .ok c

/-! ## Ports (R354) -/

/-- The engine whose shadow the ports DMA_IDX and DMA_DATA reach: that of the channel whose call or step the CP runs. -/
def State.cpChan (s : State) (n : Nat) : Option Nat :=
  match (s.cp n).call with
  | some x => some x.chan
  | none => (s.stepsOn n).head?

/-- TAKE (R364): the lowest pending unmasked source, cleared, and masked again where AUTO is set; else 0x8000_0000 and
Z. -/
def Cp.take (c : Cp) (w : Nat) : Cp :=
  match c.eic.lowest with
  | some src =>
    let e := { c.eic with pend := setGroupBit c.eic.pend 0 src false }
    let e := if groupBit e.auto 0 src then { e with mask := setGroupBit e.mask allOnes src true } else e
    ({ c with eic := e }.setW w (word src)).setFlags { c.flags with z := false }
  | none => (c.setW w 0x80000000#32).setFlags { c.flags with z := true }

/-- The group that port EIC_SEL shows. -/
def Eic.group (t : Tbl Word) (g : Nat) (d : Word) : Word := Tbl.getD t g d

/-- IN (R354). A vendor port's content is the vendor image's own and left open. -/
def State.cpIn (s : State) (n : Nat) (c : Cp) (w port : Nat) : CpRes :=
  let put := fun (v : Nat) => CpRes.ok (c.setW w (word v))
  if port = 0x00 then put c.tpc
  else if port = 0x01 then put c.tnext
  else if port = 0x02 then put c.tcause
  else if port = 0x03 then put (c.wordAt ((c.tnext + 16383) % 16384)).toNat
  else if port = 0x04 then put c.trep
  else if port = 0x08 then .ok (c.take w)
  else if port = 0x09 then put c.eic.sel
  else if port = 0x0A then put (Eic.group c.eic.pend c.eic.sel 0).toNat
  else if port = 0x0B then put (Eic.group c.eic.mask c.eic.sel allOnes).toNat
  else if port = 0x10 then .ok ({ c with timeHi := hiWord s.tick }.setW w (loWord s.tick))
  else if port = 0x11 then put c.timeHi.toNat
  else if port = 0x12 then put (n + c.logical * 256)
  else if 0x20 ≤ port ∧ ¬ c.x then put (s.freeBelow (2 ^ 32))
  else .trap .port

/-- OUT (R354): what it changes inside the CP, or a trap, or a wait on a busy port. -/
def State.cpOutReg (s : State) (n : Nat) (c : Cp) (w port : Nat) : CpRes :=
  let v := c.wr w
  if port = 0x01 then .ok { c with tnext := fld v 13 0 }
  else if port = 0x09 then .ok { c with eic := { c.eic with sel := fld v 6 0 } }
  else if port = 0x0A then .ok { c with eic := { c.eic with pend := Tbl.set c.eic.pend c.eic.sel v } }
  else if port = 0x0B then .ok { c with eic := { c.eic with mask := Tbl.set c.eic.mask c.eic.sel v } }
  else if port = 0x0E then (if s.inputFull .cpSend ∧ 3072 ≤ v.toNat ∧ v.toNat < 4096 then .wait else .ok c)
  else if port = 0x0C then .ok c
  else if port = 0x0D then .ok { c with eic := if flag v 0 then (if c.eic.hold.isSome then c.eic else { c.eic with hold := some s.tick })
                                               else c.eic.release s.tick }
  else if port = 0x18 then if v.toNat ≤ 6 then .ok { c with dmaIdx := v.toNat } else .trap .port
  else if port = 0x19 then
    match s.cpChan n with
    | none => .ok c
    | some ch =>
      if 6 < c.dmaIdx then .trap .port
      else if (s.dma (s.chan ch).dma).armed then .wait
      else .ok { c with dmaIdx := c.dmaIdx + 1 }
  else if 0x20 ≤ port ∧ ¬ c.x then .ok c
  else .trap .port

/-- OUT: what it changes outside the CP's own registers (R354, R367, R369, R371). -/
def State.cpOutEffect (n port : Nat) (v : Word) (idx : Nat) (ch : Option Nat) (s : State) : State :=
  if port = 0x0C then s.eicCmd n (fld v 11 0) (fld v 15 12)
  else if port = 0x0E then
    if 3072 ≤ v.toNat ∧ v.toNat < 4096 then s.send .cpSend v.toNat .soft
    else s.raiseErr .millrace 0 3 Cap.none
  else if port = 0x19 then
    match ch with
    | some c => s.dmaShadow (s.chan c).dma idx v (.channel c)
    | none => s
  else s

/-! ## Instructions -/

/-- One iteration of any instruction but those that move the PC. -/
def State.cpIter (n : Nat) (i : CpIns) (s : State) : CpRes × State :=
  let c := s.cp n
  match i with
  | .inp w port =>
    match s.cpIn n c w port with
    | .ok c' => (.ok c', (if 0x20 ≤ port then s.spend else s).setCp n c')
    | r => (r, s)
  | .outp w port =>
    match s.cpOutReg n c w port with
    | .ok c' => (.ok c', (s.setCp n c').cpOutEffect n port (c.wr w) c.dmaIdx (s.cpChan n))
    | r => (r, s)
  | i =>
    match c.iter i with
    | .ok c' => (.ok c', s.setCp n c')
    | r => (r, s)

/-- An instruction repeated `k` times; a trap in an iteration leaves the count with it included in TREP, and a wait
leaves it in the iteration latch (R352). -/
def State.cpLoop (n : Nat) (i : CpIns) : Nat → State → State
  | 0, s => s.setCp n (s.cp n).adv
  | k + 1, s =>
    match s.cpIter n i with
    | (.ok _, s) => s.cpLoop n i k
    | (.trap t, s) => s.cpTrap n t (k + 1)
    | (.wait, s) => s.setCp n { s.cp n with latch := some (k + 1) }

/-- RET (R349, R353, R355, R356): the top entry goes to the PC; an X-marked one clears X and ends the extension call. -/
def State.cpRet (n : Nat) (s : State) : State :=
  let c := s.cp n
  match c.stack with
  | [] => s.cpTrap n .stack 0
  | (a, mark) :: t =>
    let c' := ({ c with stack := t }).goto a
    if mark then
      let s := s.setCp n { c' with fl := setFl c.fl 4 false, call := none }
      match c.call with
      | none => s
      | some x =>
        let code := fld (c.wr 0) 15 0
        s.endStep x.chan ⟨if code = 0 then 0x00 else 0x17, code, (c.wr 1).toNat⟩
    else s.setCp n c'

/-- Pushes a return address, or traps with STACK when 16 entries are held (R348, R353). -/
def State.cpPush (n ret : Nat) (mark : Bool) (go : Cp → Cp) (s : State) : State :=
  let c := s.cp n
  if 16 ≤ c.stack.length then s.cpTrap n .stack 0 else s.setCp n (go { c with stack := (ret % 16384, mark) :: c.stack })

/-- WFM's condition (R364): COUNT messages since WFM was left, or TIME since the first of them. -/
def State.wfmReady (s : State) (n : Nat) : Bool :=
  let e := (s.cp n).eic
  let r := s.reg (Reg.cpEicCoal n)
  decide (max 1 (fld r 31 16) ≤ e.count) ||
  (e.count != 0 && fld r 15 0 != 0 && decide (e.since + usTicks (fld r 15 0) ≤ s.tick))

/-- The CP leaves WFM (R364, R367). -/
def State.wfmLeave (n : Nat) (s : State) : State :=
  let c := s.cp n
  (s.setCp n ({ c with sleep := false, eic := { c.eic with count := 0 } }.adv)).wrap (Reg.cpWakes n) 1

/-- What the instruction at the PC does (R349 to R356). -/
def State.cpStep (n : Nat) (i : CpIns) (s : State) : State :=
  let c := s.cp n
  if c.x ∧ c.pc < 12288 then s.cpTrap n .addr 0
  else
    match i with
    | .imm k =>
      if 2 ≤ c.imms.length then s.cpTrap n .prefix_ 0
      else s.setCp n { c with imms := c.imms ++ [k], first := some (c.first.getD c.pc), pc := (c.pc + 1) % 16384 }
    | .rep =>
      if c.rep ∨ c.imms ≠ [] then s.cpTrap n .prefix_ 0
      else s.setCp n { c with rep := true, first := some c.pc, pc := (c.pc + 1) % 16384 }
    | i =>
      if i = .reserved then s.cpTrap n .rsvd 0
      else if (c.imms ≠ [] ∧ !i.takesImm) ∨ (c.rep ∧ !i.takesRep) then s.cpTrap n .prefix_ 0
      else
        match i with
        | .nop => s.setCp n c.adv
        | .ret => s.cpRet n
        | .rett => s.setCp n ({ c with fl := c.tfl }.goto c.tnext)
        | .wfm => if s.wfmReady n then s.wfmLeave n else s.setCp n { c with sleep := true }
        | .xcall w =>
          s.cpPush n (c.pc + 1) true (fun c' => ({ c' with fl := setFl c'.fl 4 true }).goto (fld (c.wr w) 13 0))
        | .branch k off => s.setCp n (if c.cond k then c.goto (c.target off) else c.adv)
        | .call off => s.cpPush n (c.pc + 1) false (fun c' => c'.goto (c.target off))
        | .jr w link =>
          let a := fld (c.wr w) 13 0
          if link then s.cpPush n (c.pc + 1) false (fun c' => c'.goto a) else s.setCp n (c.goto a)
        | i => s.cpLoop n i (c.latch.getD (if c.rep then c.rc.toNat else 1))

/-- A CP runs: its image runs, it is not in WFM, its page is not in reset, and it carries a logical CP. -/
def State.cpActive (s : State) (n : Nat) : Bool :=
  let c := s.cp n
  s.coreUp && s.clk.fclk && decide (n < s.part.cpsPhys) && c.running && !c.sleep && c.role == .usable && !c.failed &&
  !(s.pg (ordOf .cp n)).resetting

/-- The CP executes the word at its PC, if that is an instruction that `want` admits (assumption 5). -/
def State.cpExec (want : CpIns → Bool) (n : Nat) (s : State) : State :=
  let i := cpDecode ((s.cp n).wordAt (s.cp n).pc)
  if s.cpActive n ∧ want i then s.cpStep n i else s

end Sys2Proof.Machine
end

