-- ==== Sys2Proof/Machine/Images.lean ====
section
/-!
DEFINITION. Signed images in part DRAM: the header, the checks of R461 and the codes of a load (R203, R204, R357).
-/

namespace Sys2Proof.Machine

/-- The master of image and library-slot reads (R492). -/
def imgMaster : Nat := 0x12B

/-- The key that KEY_ID names admits an image: ZPK every one, a fused CPK those of `custOk` (R461). -/
def State.keyAdmits (s : State) (keyId : Nat) (custOk : Bool) : Bool :=
  keyId == 1 || (keyId == 2 && custOk && s.ibr.cpk.isSome)

/-- A failed image check counts in IBR_IMG_FAIL and sets IMG_SIG (R461, R464). -/
def State.imgFail (a : Nat) (s : State) : State :=
  (s.bump Reg.ibrImgFail).raiseErr .ibreham 0 5 (Cap.mem a imgMaster 0x0)

/-- The codes that RUN_LIB_STAT, CP_IMG_STAT and PAWL_IMG_STAT share (R204, R367, R368). -/
def imgMagic : Nat := 1
/-- BAD_SIG. -/
def imgSig : Nat := 2
/-- BAD_DIGEST. -/
def imgDigest : Nat := 3
/-- TOO_LARGE. -/
def imgLarge : Nat := 5

/-- The signing key that KEY_ID names (R461). -/
def State.imgKey (s : State) (keyId : Nat) : List Byte := if keyId = 1 then s.ibr.zpk else s.ibr.cpk.getD []

/-- The checks of R461 on a header and a body: a wrong digest, a signature that does not verify, a key that does not admit
the image. -/
def State.imgCheck (s : State) (h b : List Byte) (custOk : Bool) : Nat :=
  let k := leAt h 0xD0 4
  if Config.sha384 b ≠ slice h 0x40 48 then imgDigest
  else if s.keyAdmits k custOk = false ∨ Config.ecdsaVerify (s.imgKey k) (h.take 0x70) (slice h 0x70 96) = false then imgSig
  else 0

/-- An image load ends with a failed check: R461's count where it was one of its checks. -/
def State.imgBad (a code : Nat) (s : State) : State :=
  if code = imgSig ∨ code = imgDigest then s.imgFail a else s

/-- What a CP or pawl image load brings: its code, and on OK the header and the body (R357, R405, R461). `typ` is the
TYPE asked for, `words` and `lines` the most it may hold; a header of another TYPE is BAD_MAGIC. -/
def State.imgRead (a typ words lines : Nat) (s : State) : Nat × List Byte × List Byte × State :=
  match s.readBytes imgMaster 0x0 a 256 with
  | (none, s) => (imgDigest, [], [], s)
  | (some h, s) =>
    if leAt h 0 4 ≠ 0x5A504331 ∨ leAt h 4 1 ≠ typ then (imgMagic, [], [], s)
    else
      let w := leAt h 8 2
      let d := leAt h 10 2
      if words < w ∨ lines < d then (imgLarge, [], [], s)
      else
        match s.readBytes imgMaster 0x0 (a + 0x100) (2 * w + 64 * d) with
        | (none, s) => (imgDigest, [], [], s)
        | (some b, s) => (s.imgCheck h b (typ == 2), h, b, s)

/-- Bytes of a runner image (R203), and of a CP or pawl image (R357), by its header. -/
def runnerImgLen (h : List Byte) : Nat := 256 + 18 * bits (leAt h 8 4) 13 0
/-- Bytes of a CP or pawl image. -/
def cpImgLen (h : List Byte) : Nat := 256 + 2 * leAt h 8 2 + 64 * leAt h 10 2

/-- Cuts images that stand back to back; none where the bytes do not come out even (R429). -/
def splitImgs (len : List Byte → Nat) : Nat → List Byte → Option (List (List Byte))
  | _, [] => some []
  | 0, _ => none
  | fuel + 1, l =>
    if l.length < 256 ∨ l.length < len l then none else (splitImgs len fuel (l.drop (len l))).map (l.take (len l) :: ·)

/-- The checks of a whole runner image (R203, R204, R461). -/
def State.runnerImgCheck (s : State) (img : List Byte) : Nat :=
  let w := bits (leAt img 8 4) 13 0
  if leAt img 0 4 ≠ 0x5A524E31 then imgMagic
  else if w = 0 ∨ 8192 < w then imgLarge
  else s.imgCheck (img.take 256) (img.drop 256) (decide (0x80 ≤ leAt img 4 1))

/-- The checks of a whole CP or pawl image of a TYPE (R357, R461). -/
def State.cpImgCheck (s : State) (typ words lines : Nat) (img : List Byte) : Nat :=
  if leAt img 0 4 ≠ 0x5A504331 ∨ leAt img 4 1 ≠ typ then imgMagic
  else if words < leAt img 8 2 ∨ lines < leAt img 10 2 then imgLarge
  else s.imgCheck (img.take 256) (img.drop 256) (typ == 2)

/-- The codes of the images of Ledger sections 2, 3 and 4 (R429); a section that does not cut into images has code 1. -/
def State.secImgs (s : State) (typ : Nat) (sec : List Byte) : List Nat :=
  if typ = 2 then
    match splitImgs runnerImgLen 16 sec with
    | none => [imgMagic]
    | some l => l.map s.runnerImgCheck
  else if typ = 3 then
    match splitImgs cpImgLen 2 sec with
    | some [] => []
    | some [a] => [s.cpImgCheck 1 12288 768 a]
    | some [a, b] => [s.cpImgCheck 1 12288 768 a, s.cpImgCheck 2 4096 252 b]
    | _ => [imgMagic]
  else if typ = 4 then
    match splitImgs cpImgLen 1 sec with
    | some [] => []
    | some [a] => [s.cpImgCheck 3 4096 0 a]
    | _ => [imgMagic]
  else []

/-- Program words of `bits` bits from an image body, from word `base`. -/
def imgWords (k base n : Nat) (body : List Byte) : Tbl (BitVec k) :=
  (List.range n).map fun i => (base + i, BitVec.ofNat k (leAt body (2 * i) 2))

/-- Data bytes from an image body, from data address `base`; zero bytes are not listed. -/
def imgData (base : Nat) (bytes : List Byte) : Tbl Byte :=
  (bytes.zipIdx.filter fun e => e.1 != 0).map fun e => (base + e.2, e.1)

end Sys2Proof.Machine
end

