-- ==== Sys2Proof/Machine/Cp.lean ====
section
/-!
DEFINITION. The rows of the channel processors: every instruction of R349 and R350, leaving WFM, the extension watchdog,
and images (R355 to R359, R364, R367).
-/

namespace Sys2Proof.Machine

/-- CP_NOP. -/
def execCpNop (n : Nat) (s : State) : Result :=
  .next (s.cpExec (fun i => match i with | .nop => true | _ => false) n)
/-- CP_RET. -/
def execCpRet (n : Nat) (s : State) : Result :=
  .next (s.cpExec (fun i => match i with | .ret => true | _ => false) n)
/-- CP_RETT. -/
def execCpRett (n : Nat) (s : State) : Result :=
  .next (s.cpExec (fun i => match i with | .rett => true | _ => false) n)
/-- CP_WFM. -/
def execCpWfm (n : Nat) (s : State) : Result :=
  .next (s.cpExec (fun i => match i with | .wfm => true | _ => false) n)
/-- CP_XCALL. -/
def execCpXcall (n : Nat) (s : State) : Result :=
  .next (s.cpExec (fun i => match i with | .xcall _ => true | _ => false) n)
/-- CP_REP. -/
def execCpRep (n : Nat) (s : State) : Result :=
  .next (s.cpExec (fun i => match i with | .rep => true | _ => false) n)
/-- CP_IMM. -/
def execCpImm (n : Nat) (s : State) : Result :=
  .next (s.cpExec (fun i => match i with | .imm _ => true | _ => false) n)
/-- CP_MOVI. -/
def execCpMovi (n : Nat) (s : State) : Result :=
  .next (s.cpExec (fun i => match i with | .movi _ _ => true | _ => false) n)
/-- CP_ADDI. -/
def execCpAddi (n : Nat) (s : State) : Result :=
  .next (s.cpExec (fun i => match i with | .addi _ _ => true | _ => false) n)
/-- CP_CMPI. -/
def execCpCmpi (n : Nat) (s : State) : Result :=
  .next (s.cpExec (fun i => match i with | .cmpi _ _ => true | _ => false) n)
/-- CP_ALU. -/
def execCpAlu (n : Nat) (s : State) : Result :=
  .next (s.cpExec (fun i => match i with | .alu _ _ _ => true | _ => false) n)
/-- CP_SHF. -/
def execCpShf (n : Nat) (s : State) : Result :=
  .next (s.cpExec (fun i => match i with | .shf _ _ _ => true | _ => false) n)
/-- CP_SHI. -/
def execCpShi (n : Nat) (s : State) : Result :=
  .next (s.cpExec (fun i => match i with | .shi _ _ _ => true | _ => false) n)
/-- CP_LD. -/
def execCpLd (n : Nat) (s : State) : Result :=
  .next (s.cpExec (fun i => match i with | .ld _ _ _ => true | _ => false) n)
/-- CP_ST. -/
def execCpSt (n : Nat) (s : State) : Result :=
  .next (s.cpExec (fun i => match i with | .st _ _ _ => true | _ => false) n)
/-- CP_LDB. -/
def execCpLdb (n : Nat) (s : State) : Result :=
  .next (s.cpExec (fun i => match i with | .ldb _ _ _ => true | _ => false) n)
/-- CP_STB. -/
def execCpStb (n : Nat) (s : State) : Result :=
  .next (s.cpExec (fun i => match i with | .stb _ _ _ => true | _ => false) n)
/-- CP_MOVP. -/
def execCpMovp (n : Nat) (s : State) : Result :=
  .next (s.cpExec (fun i => match i with | .movp _ _ _ _ => true | _ => false) n)
/-- CP_PMOV. -/
def execCpPmov (n : Nat) (s : State) : Result :=
  .next (s.cpExec (fun i => match i with | .pmov _ _ _ => true | _ => false) n)
/-- CP_PADDI. -/
def execCpPaddi (n : Nat) (s : State) : Result :=
  .next (s.cpExec (fun i => match i with | .paddi _ _ => true | _ => false) n)
/-- CP_JMP. -/
def execCpJmp (n : Nat) (s : State) : Result :=
  .next (s.cpExec (fun i => match i with | .branch 0 _ => true | _ => false) n)
/-- CP_BZ. -/
def execCpBz (n : Nat) (s : State) : Result :=
  .next (s.cpExec (fun i => match i with | .branch 1 _ => true | _ => false) n)
/-- CP_BNZ. -/
def execCpBnz (n : Nat) (s : State) : Result :=
  .next (s.cpExec (fun i => match i with | .branch 2 _ => true | _ => false) n)
/-- CP_BC. -/
def execCpBc (n : Nat) (s : State) : Result :=
  .next (s.cpExec (fun i => match i with | .branch 3 _ => true | _ => false) n)
/-- CP_BNC. -/
def execCpBnc (n : Nat) (s : State) : Result :=
  .next (s.cpExec (fun i => match i with | .branch 4 _ => true | _ => false) n)
/-- CP_BN. -/
def execCpBn (n : Nat) (s : State) : Result :=
  .next (s.cpExec (fun i => match i with | .branch 5 _ => true | _ => false) n)
/-- CP_BNN. -/
def execCpBnn (n : Nat) (s : State) : Result :=
  .next (s.cpExec (fun i => match i with | .branch 6 _ => true | _ => false) n)
/-- CP_CALL. -/
def execCpCall (n : Nat) (s : State) : Result :=
  .next (s.cpExec (fun i => match i with | .call _ => true | _ => false) n)
/-- CP_JR. -/
def execCpJr (n : Nat) (s : State) : Result :=
  .next (s.cpExec (fun i => match i with | .jr _ _ => true | _ => false) n)
/-- CP_CRC. -/
def execCpCrc (n : Nat) (s : State) : Result :=
  .next (s.cpExec (fun i => match i with | .crc _ _ _ _ => true | _ => false) n)
/-- CP_BIT. -/
def execCpBit (n : Nat) (s : State) : Result :=
  .next (s.cpExec (fun i => match i with | .bit _ _ _ => true | _ => false) n)
/-- CP_IN. -/
def execCpIn (n : Nat) (s : State) : Result :=
  .next (s.cpExec (fun i => match i with | .inp _ _ => true | _ => false) n)
/-- CP_OUT. -/
def execCpOut (n : Nat) (s : State) : Result :=
  .next (s.cpExec (fun i => match i with | .outp _ _ => true | _ => false) n)
/-- CP_RESERVED_OPCODE. -/
def execCpReservedOpcode (n : Nat) (s : State) : Result :=
  .next (s.cpExec (fun i => match i with | .reserved => true | _ => false) n)

/-! ## Leaving WFM and the extension watchdog -/

/-- The instant at which CP_EIC_COAL.TIME ends WFM, where messages have come and a time bound is set (R364). -/
def State.wfmTimeout (s : State) (n : Nat) : Option Nat :=
  let e := (s.cp n).eic
  let t := fld (s.reg (Reg.cpEicCoal n)) 15 0
  if e.count ≠ 0 ∧ t ≠ 0 then some (e.since + usTicks t) else none

/-- WFM continues (R364): on COUNT messages, or when TIME has passed since the first of them. -/
def State.cpWake (n : Nat) (s : State) : State :=
  let c := s.cp n
  if s.coreUp ∧ c.sleep ∧ !(s.pg (ordOf .cp n)).resetting then
    if s.wfmReady n then s.wfmLeave n
    else
      match s.wfmTimeout n with
      | some t => (s.reach t).wfmLeave n
      | none => s
  else s

/-- CP_WFM_WAKE. -/
def execCpWfmWake (n : Nat) (s : State) : Result := .next (s.cpWake n)

/-- A call has run longer than CP_EXT_LIMIT_US (R355): trap WDOG, and the step ends with EXT and DETAIL 0xFFFF. -/
def State.cpExtExpire (n : Nat) (s : State) : State :=
  match (s.cp n).call with
  | none => s
  | some x =>
    if s.coreUp then
      let s := s.reach (x.since + usTicks (max 1 (fld (s.reg (Reg.cpExtLimitUs n)) 15 0)))
      let s := (s.setCp n { s.cp n with call := none, sleep := false }).endStep x.chan ⟨0x17, 0xFFFF, 0⟩
      (s.raiseErr .cp n 4 Cap.none).cpTrap n .wdog 0
    else s

/-- CP_EXT_WATCHDOG. -/
def execCpExtWatchdog (n : Nat) (s : State) : Result := .next (s.cpExtExpire n)

/-! ## Images -/

/-- CP_IMG_ADDR (R367). -/
def State.cpImgAddr (s : State) (n : Nat) : Nat := s.reg64 (Reg.cpImgAddrLo n) / 64 * 64

/-- A CP_IMG_CMD ends at once with a RESULT. -/
def State.cpImgEnd (n res : Nat) (s : State) : State := s.setCp n { s.cp n with img := none, imgRes := res }

/-- A CP_IMG_CMD on an answering page with no command in progress. -/
def State.cpImgCmd (p : Path) (n : Nat) (f : State → State) (s : State) : State :=
  if s.via p ∧ s.cpPage n ∧ (s.cp n).img.isNone then f s else s

/-- LOAD (R357, R367): NOT_SPARE on a page that is not SPARE, else BUSY. -/
def execCpImgLoad (p : Path) (n : Nat) (s : State) : Result :=
  .next (s.cpImgCmd p n fun s =>
    if (s.cp n).role ≠ .spare then s.cpImgEnd n 4 else s.setCp n { s.cp n with img := some (1, 0), imgRes := 0 })

/-- LOAD_EXT (R357, R367): NOT_SPARE, BAD_STATE before LOAD, else BUSY. -/
def execCpImgLoadExt (p : Path) (n : Nat) (s : State) : Result :=
  .next (s.cpImgCmd p n fun s =>
    if (s.cp n).role ≠ .spare then s.cpImgEnd n 4
    else if (s.cp n).running = false then s.cpImgEnd n 6
    else s.setCp n { s.cp n with img := some (2, 0), imgRes := 0 })

/-- MOVE (R359): NOT_SPARE, BAD_STATE for a spare with no image or a logical CP the part has not, else BUSY while the
move waits. -/
def execCpImgMove (p : Path) (n logical : Nat) (s : State) : Result :=
  .next (s.cpImgCmd p n fun s =>
    if (s.cp n).role ≠ .spare then s.cpImgEnd n 4
    else if (s.cp n).running = false ∨ s.part.cpsUse ≤ logical then s.cpImgEnd n 6
    else s.setCp n { s.cp n with img := some (3, logical), imgRes := 0 })

/-- A MOVE waits to bind this logical CP: none of its steps is dispatched (R359). -/
def State.moveWaits (s : State) (l : Nat) : Bool :=
  (List.range s.part.cpsPhys).any fun n => (s.cp n).img == some (3, l)

/-- Binds a logical CP to a physical one, which starts at word 0; an extension image runs word 12,417 before its next
call (R356, R358, R359). -/
def State.cpBind (l n : Nat) (s : State) : State :=
  let c := s.cp n
  s.setCp n { c.restart with role := .usable, logical := l, extInit := c.ext }

/-- CP_MOVE_BIND (R359): with no step of `l` in progress the part binds `l` to the spare, and the old CP is SPARE. -/
def State.cpMove (n : Nat) (s : State) : State :=
  match (s.cp n).img with
  | some (3, l) =>
    let busy := (s.chans.any fun e => e.2.run.isSome && e.2.lcp == l)
    if !s.cpPage n || busy then s
    else
      let s := match s.physOf l with
        | some o => s.setCp o { (s.cp o).restart with role := .spare, logical := 0 }
        | none => s
      (s.cpBind l n).cpImgEnd n 0
  | _ => s

/-- CP_MOVE_BIND. -/
def execCpMoveBind (n : Nat) (s : State) : Result := .next (s.cpMove n)

/-- A CP takes a base image: every word of both memories is written (R348, R357). -/
def Cp.takeBase (c : Cp) (h b : List Byte) : Cp :=
  let w := leAt h 8 2
  { c.restart with
    prog := imgWords 14 0 w b, data := imgData 0 (b.drop (2 * w)), running := true, ext := false, extInit := false
    version := leAt h 5 2, baseDig := slice h 0x40 48, extDig := [] }

/-- A CP takes an extension image in its regions (R355, R357). -/
def Cp.takeExt (c : Cp) (h b : List Byte) : Cp :=
  let w := leAt h 8 2
  { c with
    prog := (c.prog.filter fun e => e.1 < 12288) ++ imgWords 14 12288 w b
    data := (c.data.filter fun e => e.1 < 0xC000) ++ imgData 0xC000 (b.drop (2 * w))
    ext := true, extInit := true, extDig := slice h 0x40 48 }

/-- A CP left without the image it was to load (R357). -/
def Cp.dropImage (c : Cp) (base : Bool) : Cp :=
  if base then { c.restart with prog := [], data := [], running := false, ext := false, extInit := false, version := 0,
                                baseDig := [], extDig := [] }
  else { c with prog := c.prog.filter (fun e => e.1 < 12288), data := c.data.filter (fun e => e.1 < 0xC000),
                ext := false, extInit := false, extDig := [] }

/-- CP_IMG_LOAD_DONE (R357, R358, R461): the image is read and checked, and the page's CP takes it or is left without
one, with LOAD_ERR. -/
def State.cpLoadDone (n : Nat) (s : State) : State :=
  let go := fun (typ words lines : Nat) =>
    let a := s.cpImgAddr n
    match s.imgRead a typ words lines with
    | (code, h, b, s) =>
      let c := s.cp n
      if code = 0 then (s.setCp n (if typ = 1 then c.takeBase h b else c.takeExt h b)).cpImgEnd n 0
      else
        ((((s.setCp n (c.dropImage (typ == 1))).cpImgEnd n code).imgBad a code).raiseErr .cp n 5
          (Cap.mem a imgMaster 0x0))
  if !s.cpPage n || !s.memServes then s
  else
    match (s.cp n).img with
    | some (1, _) => go 1 12288 768
    | some (2, _) => go 2 4096 252
    | _ => s

/-- CP_IMG_LOAD_DONE. -/
def execCpImgLoadDone (n : Nat) (s : State) : Result := .next (s.cpLoadDone n)

end Sys2Proof.Machine
end

