-- ==== Sys2Proof/Machine/Packetizer.lean ====
section
/-!
DEFINITION. The packetizer: payloads of a row unit (R225, R226), headers (R216, R227), SRTP and SRTCP (R229 to R231), sender
reports (R233), the feedback intake (R232) and retransmission (R234).
-/

namespace Sys2Proof.Machine

/-! ## Headers and seals (R216, R229) -/

/-- Bytes put over a list at an offset. -/
def setBytes (l : List Byte) (off : Nat) (v : List Byte) : List Byte := l.take off ++ v ++ l.drop (off + v.length)

/-- The 16-bit ones' complement sum of network-order words. -/
def onesSum (l : List Byte) : Nat :=
  let n := ((List.range (ceilDiv l.length 2)).map fun i => beNat (padTo 2 (slice l (2 * i) 2))).sum
  let n := n % 65536 + n / 65536
  n % 65536 + n / 65536

/-- An Internet checksum field; `z` stands for a computed 0 in UDP. -/
def checksum (l : List Byte) (z : Nat) : Nat :=
  let c := 65535 - onesSum l
  if c = 0 then z else c

/-- A frame, without FCS, that carries a UDP payload under a session's template (R216). -/
def buildFrame (t : List Byte) (id : Nat) (payload : List Byte) : List Byte :=
  let h := tHeader t
  let ip := tIp t
  let ul := beBytes 2 (8 + payload.length)
  if tV6 t then
    let h := setBytes (setBytes h (ip + 4) ul) (ip + 44) (ul ++ [0, 0])
    let pseudo := slice h (ip + 8) 32 ++ beBytes 4 (8 + payload.length) ++ [0, 0, 0, 17]
    setBytes h (ip + 46) (beBytes 2 (checksum (pseudo ++ h.drop (ip + 40) ++ payload) 65535)) ++ payload
  else
    let h := setBytes (setBytes h (ip + 2) (beBytes 2 (28 + payload.length))) (ip + 4) (beBytes 2 id)
    let h := setBytes h (ip + 10) [0, 0]
    let h := setBytes h (ip + 10) (beBytes 2 (checksum (slice h ip 20) 0))
    let h := setBytes h (ip + 24) (ul ++ [0, 0])
    let pseudo := slice h (ip + 12) 8 ++ [0, 17] ++ ul
    let c := if df t 0 10 10 = 1 then checksum (pseudo ++ h.drop (ip + 20) ++ payload) 65535 else 0
    setBytes h (ip + 26) (beBytes 2 c) ++ payload

/-- A session key or salt by its label: 0 and 2 for SRTP, 3 and 5 for SRTCP (R229). -/
def srtpDerive (k : SrtpKey) (label len : Nat) : List Byte := Config.srtpKdf k.key (k.salt ++ [0, 0]) label len

/-- XOR of two byte strings. -/
def xorBytes (a b : List Byte) : List Byte := (a.zip b).map fun e => e.1 ^^^ e.2

/-- The SRTP packet of an RTP header and payload at a packet index (R229). -/
def srtpSeal (k : SrtpKey) (ssrc idx : Nat) (hdr body : List Byte) : List Byte :=
  let iv := xorBytes ([0, 0] ++ beBytes 4 ssrc ++ beBytes 6 idx) (srtpDerive k 2 12)
  hdr ++ gcmSealed (srtpDerive k 0 32) iv hdr body

/-- The IV of an SRTCP packet. -/
def srtcpIv (k : SrtpKey) (ssrc idx : Nat) : List Byte :=
  xorBytes ([0, 0] ++ beBytes 4 ssrc ++ [0, 0] ++ beBytes 4 idx) (srtpDerive k 5 12)

/-- The SRTCP packet of a compound packet at an SRTCP index (R229). -/
def srtcpSeal (k : SrtpKey) (ssrc idx : Nat) (l : List Byte) : List Byte :=
  let e := beBytes 4 (2 ^ 31 + idx)
  l.take 8 ++ gcmSealed (srtpDerive k 3 32) (srtcpIv k ssrc idx) (l.take 8 ++ e) (l.drop 8) ++ e

/-- Opens an incoming SRTCP packet: its index and its compound packet. -/
def srtcpOpen (k : SrtpKey) (p : List Byte) : Option (Nat × List Byte) :=
  let n := p.length
  let e := p.drop (n - 4)
  let body := (p.take (n - 4)).drop 8
  if n < 28 ∨ beNat e < 2 ^ 31 then none
  else
    let idx := beNat e % 2 ^ 31
    (gcmOpened (srtpDerive k 3 32) (srtcpIv k (beAt p 4 4) idx) (p.take 8 ++ e) (body.take (body.length - 16))
      (body.drop (body.length - 16))).map fun l => (idx, p.take 8 ++ l)

/-! ## Units of a row unit (R224, R225) -/

/-- Where the next start code begins. -/
def nextCode : List Byte → Nat
  | [] => 0
  | b :: t => if (b :: t).take 4 = [0x00, 0x00, 0x00, 0x01] then 0 else 1 + nextCode t

/-- NAL units of a byte stream, without start codes. -/
def splitNals : Nat → List Byte → List (List Byte)
  | 0, _ => []
  | fuel + 1, l =>
    if l.take 4 = [0x00, 0x00, 0x00, 0x01] then
      let t := l.drop 4
      let n := nextCode t
      t.take n :: splitNals fuel (t.drop n)
    else []

/-- A LEB128 number at the start of a list, and its length. -/
def readLeb : Nat → List Byte → Nat × Nat
  | 0, _ => (0, 0)
  | _, [] => (0, 0)
  | fuel + 1, b :: t =>
    if b.toNat < 128 then (b.toNat, 1) else let (v, n) := readLeb fuel t; (b.toNat % 128 + 128 * v, n + 1)

/-- OBUs of a row unit as RTP elements: obu_size fields removed, temporal delimiters dropped (R225). -/
def splitObus : Nat → List Byte → List (List Byte)
  | 0, _ => []
  | _, [] => []
  | fuel + 1, h :: t =>
    let x := h.toNat / 4 % 2
    let ext := t.take x
    let (v, n) := readLeb 8 (t.drop x)
    let body := slice t (x + n) v
    let rest := splitObus fuel (t.drop (x + n + v))
    if h.toNat / 8 % 16 = 2 then rest else (byte (h.toNat - h.toNat / 2 % 2 * 2) :: ext ++ body) :: rest

/-- What a packet takes: its payload, the whole units it consumes, and the new place in the unit that then comes first. -/
structure Piece where
  payload : List Byte
  units   : Nat
  pos     : Nat

/-- The headers of a fragment of a NAL unit (R225). -/
def fuHead (codec : Nat) (u : List Byte) (start last : Bool) : List Byte :=
  let b0 := (u.getD 0 0).toNat
  let se := 128 * b2n start + 64 * b2n last
  if codec = 1 then [byte (b0 / 32 * 32 + 28), byte (se + b0 % 32)]
  else [byte (b0 / 128 * 128 + 49 * 2 + b0 % 2), u.getD 1 0, byte (se + b0 / 2 % 64)]

/-- The aggregation header of several NAL units. -/
def apHead (codec : Nat) (us : List (List Byte)) : List Byte :=
  let b0 := fun (u : List Byte) => (u.getD 0 0).toNat
  if codec = 1 then
    [byte (maxOf (us.map fun u => b0 u / 128 * 128) + maxOf (us.map fun u => b0 u / 32 % 4) * 32 + 24)]
  else
    let id := fun (u : List Byte) => b0 u % 2 * 32 + (u.getD 1 0).toNat / 8
    let low := fun (l : List Nat) => (l.min?).getD 0
    let i := low (us.map id)
    [byte (48 * 2 + i / 32), byte (i % 32 * 8 + low (us.map fun u => (u.getD 1 0).toNat % 8))]

/-- How many leading units go together in one packet of the room, `extra` bytes for each and `head` for all; at least one. -/
def gatherCount (room head : Nat) (extra : List Byte → Nat) : List (List Byte) → Nat
  | [] => 0
  | us =>
    let fit := fun k => decide (head + ((us.take k).map fun u => extra u + u.length).sum ≤ room)
    max 1 (((List.range (us.length + 1)).filter fun k => decide (2 ≤ k) && fit k).getLastD 1)

/-- A packet of these units still has room for another one, of its header and a byte at least (R225, R226). -/
def nalMore (room h : Nat) (us : List (List Byte)) : Bool :=
  decide (h + (us.map fun u => 2 + u.length).sum + 2 + h + 1 ≤ room)

/-- The next packet of an AVC or HEVC row unit: none while what it holds is not yet determined (R225, R226). -/
def nalPiece (codec room pos : Nat) (full : Bool) (us : List (List Byte)) : Option Piece :=
  match us with
  | [] => none
  | u :: _ =>
    let h := if codec = 1 then 1 else 2
    if room < u.length then
      let data := u.drop h
      let left := data.length - pos
      let n := min left (room - h - 1)
      let last := n == left
      some { payload := fuHead codec u (pos == 0) last ++ slice data pos n, units := b2n last, pos := if last then 0 else pos + n }
    else
      let k := gatherCount room h (fun _ => 2) (us.takeWhile fun v => decide (v.length ≤ room))
      if k = us.length ∧ !full ∧ nalMore room h us then none
      else if k = 1 then some { payload := u, units := 1, pos := 0 }
      else some { payload := apHead codec (us.take k) ++ (us.take k).flatMap fun v => beBytes 2 v.length ++ v, units := k, pos := 0 }

/-- The next packet of a complete AV1 row unit (R225); `n` is 1 in the first packet of a temporal unit with a sequence
header. -/
def obuPiece (room pos : Nat) (n : Bool) (us : List (List Byte)) : Option Piece :=
  match us with
  | [] => none
  | u :: _ =>
    let head := fun (z y w : Bool) => byte (128 * b2n z + 64 * b2n y + 16 * b2n w + 8 * b2n n)
    if pos ≠ 0 ∨ room - 1 < u.length then
      let left := u.length - pos
      let k := min left (room - 1)
      let last := k == left
      some { payload := head (pos != 0) (!last) true :: slice u pos k, units := b2n last, pos := if last then 0 else pos + k }
    else
      let k := gatherCount room 1 (fun v => (leb128 8 v.length).length) us
      if k = 1 then some { payload := head false false true :: u, units := 1, pos := 0 }
      else some { payload := head false false false :: (us.take k).flatMap fun v => leb128 8 v.length ++ v, units := k, pos := 0 }

/-! ## Building packets (R226 to R231) -/

/-- A flow takes a packet: at most four in all, at most two of them new (R292), and the switch has cells for it. -/
def State.flowTakes (s : State) (f : Nat) (new : Bool) (frame : List Byte) : Bool :=
  match s.flow? f with
  | none => false
  | some x =>
    decide (x.pkts.length < 4) && (!new || decide ((x.pkts.filter fun p => !p.rtx && p.seq != 2 ^ 48).length < 2)) &&
    s.cellsFor srcSluice (frameCells frame)

/-- The next IPv4 identification of a session (R216). -/
def State.nextIpId (n : Nat) (s : State) : Nat × State :=
  let x := (s.ses n).pkt
  (x.ipId, s.setPkt n { x with ipId := (x.ipId + 1) % 65536 })

/-- ts_k of R227. -/
def rtpStamp (d : List Byte) (t0 t : Nat) : Nat := (dTs0 d + (t - t0) * 90000 / (2 ^ 32 * 10 ^ 9)) % 2 ^ 32

/-- The new TX slot takes over at the switch index (R231). -/
def Pkt.switchTx (x : Pkt) : Pkt :=
  match x.armed with
  | some (sw, tx, _) => if sw ≤ x.next ∧ x.txDone = false then { x with tx := tx, txDone := true } else x
  | none => x

/-- Retransmissions that wait are built while the flow takes them (R234, R292). -/
def State.rtxBuild (n : Nat) : Nat → State → State
  | 0, s => s
  | fuel + 1, s =>
    let x := s.ses n
    match x.pkt.rtxWait with
    | [] => s
    | i :: t =>
      match Tbl.get? x.pkt.index i with
      | none => (s.setPkt n { x.pkt with rtxWait := t }).rtxBuild n fuel
      | some e =>
        let frame := buildFrame x.pkt.tmpl x.pkt.ipId e.srtp
        if s.flowTakes (dFlow x.desc) false frame then
          let s := s.setPkt n { x.pkt with rtxWait := t }
          let (_, s) := s.nextIpId n
          (s.flowPut (dFlow x.desc) ⟨frame, true, i⟩ true).rtxBuild n fuel
        else s

/-- The unit at the head of a session's lane, its units in their stored order, and the next packet of it. -/
def State.nextPiece (s : State) (n : Nat) : Option (RowUnit × List (List Byte) × Piece) := do
  let x := s.ses n
  let l := s.lane (dLane x.desc)
  let u ← l.units.head?
  let c := dCodec x.desc
  let room := dRoom x.desc (tV6 x.pkt.tmpl)
  let us := if c = 3 then splitObus u.bytes.length u.bytes else splitNals u.bytes.length u.bytes
  let first := match x.pkt.picFirst with
    | some (_, k) => k != u.frame
    | none => true
  let p ← if c = 3 then (if u.full then obuPiece room l.pos (first && u.params) us else none) else nalPiece c room l.pos u.full us
  some (u, us, p)

/-- The stored bytes of the leading units of a row unit. -/
def unitBytes (codec : Nat) (all : List Byte) (us : List (List Byte)) (k : Nat) : Nat :=
  if codec = 3 then
    (if k = us.length then all.length else all.length - (splitTail all k).length)
  else ((us.take k).map fun u => u.length + 4).sum
where
  /-- What is left of OBUs after `k` elements. -/
  splitTail : List Byte → Nat → List Byte
    | l, 0 => l
    | [], _ => []
    | h :: t, k + 1 =>
      let x := h.toNat / 4 % 2
      let (v, n) := readLeb 8 (t.drop x)
      let rest := t.drop (x + n + v)
      if h.toNat / 8 % 16 = 2 then
        let h' := rest.headD 0
        let t' := rest.drop 1
        let x' := h'.toNat / 4 % 2
        let (v', n') := readLeb 8 (t'.drop x')
        splitTail (t'.drop (x' + n' + v')) k
      else splitTail rest k

/-- The stored bytes of a unit that fragments up to a place have taken: what stands before its payload, and the payload (R224,
R225). -/
def headTaken (codec : Nat) (u : List Byte) (pos : Nat) : Nat :=
  (if codec = 1 then 5 else if codec = 2 then 6 else (leb128 8 (u.length - 1)).length) + pos

/-- One new packet of a session: sealed, numbered, indexed and put in its flow (R225 to R229). -/
def State.buildPacket (n : Nat) (s : State) : State :=
  match s.nextPiece n with
  | none => s
  | some (u, us, p) =>
    let x := s.ses n
    let d := x.desc
    let l := dLane d
    let y := s.lane l
    let k := x.pkt.switchTx
    let idx := k.next
    let whole := p.units == us.length
    let marker := whole && u.full && u.last
    let hdr := [0x80, byte (128 * b2n marker + dPt d)] ++ beBytes 2 (idx % 65536) ++ beBytes 4 (rtpStamp d x.t0 u.tk) ++
      beBytes 4 (dSsrc d)
    let srtp := srtpSeal k.tx (dSsrc d) idx hdr p.payload
    let frame := buildFrame k.tmpl k.ipId srtp
    if 2 ^ 48 ≤ idx ∨ !s.flowTakes (dFlow d) true frame then s
    else
      let first := match k.picFirst with
        | some (i, f) => if f = u.frame then i else idx
        | none => idx
      let e : PktIdx := { frame := u.frame, place := y.read, srtp := srtp, sent := none, rtx := 0, rtxAt := 0, held := true,
                          octets := p.payload.length, first := first, last := marker }
      let s := (s.setPkt n { k with next := idx + 1, ipId := (k.ipId + 1) % 65536, picFirst := some (first, u.frame)
                                    index := Tbl.erase k.index (idx - 4096) }).setIndex n idx e
      let gone := if p.units = 0 then 0 else unitBytes (dCodec d) u.bytes us p.units
      let u' := { u with bytes := u.bytes.drop gone, since := s.tick }
      let units := if whole ∧ u.full then y.units.tail else u' :: y.units.tail
      let taken := if p.pos = 0 then 0 else headTaken (dCodec d) (us.headD []) p.pos
      let hi := y.read + gone + taken - y.taken
      let s := s.setLane l { y with units := units, pos := p.pos, taken := taken, read := hi, pkts := (y.pkts + 1) % 2 ^ 32, stale := false
                                    hist := y.hist ++ [⟨idx, y.read, hi, s.tick⟩] }
      ((s.flowPut (dFlow d) ⟨frame, false, idx⟩ false).laneFit l).oldFree n

/-- PACKETIZE: retransmissions that wait, then the next packet of linked bytes. -/
def State.packetize (n : Nat) (s : State) : State := (s.rtxBuild n (s.ses n).pkt.rtxWait.length).buildPacket n

/-- The packetizer works for a session. -/
def State.pktOn (s : State) (n : Nat) : Bool :=
  s.works .packetizer 0 && (s.ses n).st != .free

/-- PACKETIZE. -/
def execPacketize (session : Nat) (s : State) : Result :=
  .next (if s.pktOn session ∧ s.memServes then s.packetize session else s)

/-- PKT_REKEY_CMD (R231): arms a change of the session that PKT_SEL names, replacing an armed one; a slot that holds no SRTP
key arms nothing. -/
def State.rekey (p : Path) (v : Word) (s : State) : State :=
  let n := fld (s.preg p Reg.pktSel) 8 0
  let tx := fld v 11 0
  let rx := fld v 27 16
  let x := (s.ses n).pkt
  if flag v 31 ∧ (s.ses n).st ≠ .free ∧ (s.slot tx).typ = 2 ∧ (s.slot rx).typ = 2 then
    let sw := (s.preg p Reg.pktRekeyIdxLo).toNat + 2 ^ 32 * fld (s.preg p Reg.pktRekeyIdxHi) 15 0
    (s.setPkt n { x with armed := some (sw, s.srtpKey tx, s.srtpKey rx), txDone := false, rxDone := false, oldFree := false
                         old := (x.old ++ [x.tx.slot, x.rx.slot]).dedup }).slotUse [tx, rx]
  else s

/-- PKT_REKEY_CMD. -/
def execPktRekeyCmd (p : Path) (value : Word) (s : State) : Result := .next (if s.coreTakes p then s.rekey p value else s)

/-! ## Sender reports (R233) -/

/-- Seconds of the NTP era and its 32-bit fraction of a network time (R233). -/
def State.ntp (s : State) (t : Nat) : Nat × Nat :=
  ((netSec t + 2208988800 - fld (s.reg Reg.pktUtcOffset) 15 0) % 2 ^ 32, netNs t * 2 ^ 32 / 10 ^ 9)

/-- The compound packet of a sender report (R233). Before the first picture's trigger there is no T_0, and the RTP timestamp is a free
value (assumption 8). -/
def State.senderReport (s : State) (n : Nat) : List Byte :=
  let x := s.ses n
  let d := x.desc
  let (sec, frac) := s.ntp s.netTime
  let c := tCname x.pkt.tmpl
  let item := [0x01, byte c] ++ slice x.pkt.tmpl 0x60 c
  let item := padTo (item.length / 4 * 4 + 4) item
  [0x80, 0xC8, 0x00, 0x06] ++ beBytes 4 (dSsrc d) ++ beBytes 4 sec ++ beBytes 4 frac ++
  beBytes 4 (if x.begun then rtpStamp d x.t0 s.netTime else Config.freeNat s.free) ++
  beBytes 4 x.pkt.packets ++ beBytes 4 x.pkt.octets ++
  [0x81, 0xCA] ++ beBytes 2 (1 + item.length / 4) ++ beBytes 4 (dSsrc d) ++ item

/-- SR_INTERVAL_EXPIRY: a sender report, or KEY_EXHAUST once the index would pass 2^31 − 1 (R230, R233). -/
def State.srExpiry (n : Nat) (s : State) : State :=
  let x := s.ses n
  let d := x.desc
  if dSrMs d = 0 ∨ x.st = .ready ∨ !s.pktOn n then s
  else if 2 ^ 31 ≤ x.pkt.srtcp then
    if x.pkt.exhausted then s
    else ((s.setPkt n { x.pkt with exhausted := true }).raiseErr .packetizer 0 5 (Cap.obj n)).pktEvt n 5 x.pkt.next 0
  else
    let s := s.reach x.pkt.srAt
    let k := (s.ses n).pkt
    let pkt := srtcpSeal k.tx (dSsrc d) k.srtcp (s.senderReport n)
    let frame := buildFrame k.tmpl k.ipId pkt
    if s.flowTakes (dFlow d) false frame then
      (s.spend.setPkt n { k with srtcp := k.srtcp + 1, ipId := (k.ipId + 1) % 65536, srAt := k.srAt + msTicks (dSrMs d) }).flowPut
        (dFlow d) ⟨frame, false, 2 ^ 48⟩ false
    else s

/-- SR_INTERVAL_EXPIRY. -/
def execSrIntervalExpiry (session : Nat) (s : State) : Result := .next (s.srExpiry session)

/-! ## The feedback intake (R232, R234) -/

/-- The 48-bit index of a sequence number, none where it is not yet numbered. -/
def seqIndex (next seq : Nat) : Option Nat :=
  let back := (next + 65536 - 1 - seq) % 65536
  if 32768 ≤ back ∨ next ≤ back then none else some (next - 1 - back)

/-- One number of a generic NACK (R234): whether it is a miss, as one whose index entry cannot be read is too (R405). -/
def State.nackOne (n idx : Nat) (s : State) : Bool × State :=
  let x := (s.ses n).pkt
  let d := (s.ses n).desc
  match Tbl.get? x.index idx with
  | none => (true, s)
  | some e =>
    if e.sent.isNone ∨ dRtxMax d ≤ e.rtx ∨ (e.rtx ≠ 0 ∧ s.tick < e.rtxAt + msTicks (dRtxHold d)) then (false, s)
    else if !e.held then (true, s)
    else
      match s.readBytes 0x123 0x0 (s.indexAt n idx) 16 with
      | (none, s) => (true, s)
      | (some _, s) =>
        let s := (s.setPkt n { x with rtxWait := x.rtxWait ++ [idx], rtx := sat32 (x.rtx + 1) }).setIndex n idx
          { e with rtx := e.rtx + 1, rtxAt := s.tick }
        (false, s.rtxBuild n (x.rtxWait.length + 1))

/-- A generic NACK: to the reference pool, then retransmission (R161, R234). -/
def State.nack (n : Nat) (seqs : List Nat) (s : State) : State :=
  let next := (s.ses n).pkt.next
  let idx := seqs.filterMap (seqIndex next)
  let s := s.refMissing n (idx.filter fun i => ((Tbl.get? (s.ses n).pkt.index i).bind (·.sent)).isSome)
  let (m, s) := idx.foldl (fun (a : List Nat × State) i => let (b, s) := a.2.nackOne n i; (if b then a.1 ++ [i] else a.1, s)) ([], s)
  if m.isEmpty then s
  else
    let x := (s.ses n).pkt
    ((s.setPkt n { x with miss := sat32 (x.miss + m.length) }).raiseErr .packetizer 0 4 (Cap.obj n)).pktEvt n 0 (m.headD 0) m.length

/-- The sequence numbers of NACK entries of four bytes. -/
def nackSeqs : List Byte → List Nat
  | a :: b :: c :: d :: t =>
    let pid := beNat [a, b]
    let blp := beNat [c, d]
    pid :: ((List.range 16).filter (bitOf blp)).map (fun i => (pid + i + 1) % 65536) ++ nackSeqs t
  | _ => []

/-- A report block for the session's SSRC (R232); `at_` is the arrival tick. -/
def State.reportBlock (n at_ : Nat) (l : List Byte) (s : State) : State :=
  if beAt l 0 4 ≠ dSsrc (s.ses n).desc then s
  else
    let x := (s.ses n).pkt
    let (sec, frac) := s.ntp (s.netTime - (s.tick - at_) * s.tb.rate)
    let a := sec % 65536 * 65536 + frac / 65536
    let lsr := beAt l 16 4
    let rtt := (a + 2 * 2 ^ 32 - lsr - beAt l 20 4) % 2 ^ 32
    s.setPkt n { x with rr := beAt l 4 1 + beAt l 5 3 * 256, jitter := beAt l 12 4
                        rtt := if lsr = 0 then x.rtt else rtt * 10 ^ 6 / 65536 }

/-- Report blocks from a list, up to `k`. -/
def State.reportBlocks (n at_ : Nat) : Nat → List Byte → State → State
  | 0, _, s => s
  | k + 1, l, s => if l.length < 24 then s else (s.reportBlock n at_ (l.take 24)).reportBlocks n at_ k (l.drop 24)

/-- The report blocks of a congestion control feedback packet: SSRC and results. -/
def ccfbBlocks : Nat → List Byte → List (Nat × List FbPkt)
  | 0, _ => []
  | fuel + 1, l =>
    if l.length < 8 then []
    else
      let k := beAt l 6 2
      let size := 8 + ceilDiv k 2 * 4
      let res := (List.range k).map fun i =>
        let v := beAt l (8 + 2 * i) 2
        ({ seq := (beAt l 4 2 + i) % 65536, got := bitOf v 15, ce := bitOf v 15 && bits v 14 13 == 3, ato := bits v 12 0 } : FbPkt)
      (beAt l 0 4, if l.length < size then [] else res) :: ccfbBlocks fuel (l.drop size)

/-- An RFC 8888 report: to the Governor and to the pool (R140, R159, R161). -/
def State.ccfb (n at_ : Nat) (l : List Byte) (s : State) : State :=
  let body := slice l 8 (l.length - 12)
  let pk := ((ccfbBlocks body.length body).filter fun b => b.1 == dSsrc (s.ses n).desc).flatMap (·.2)
  if pk.isEmpty then s
  else
    let x := s.ses n
    let s := s.setGov n { x.gov with reports := x.gov.reports ++ [⟨beAt l (l.length - 4) 4, pk, at_⟩] }
    let next := x.pkt.next
    let idx := fun (p : FbPkt) => seqIndex next p.seq
    let s := s.refGot n ((pk.filter (·.got)).filterMap idx)
    s.refMissing n ((pk.filter fun p => !p.got).filterMap idx)

/-- One RTCP packet of a session (R232). -/
def State.rtcpOne (n at_ : Nat) (l : List Byte) (s : State) : State :=
  let pt := beAt l 1 1
  let fmt := beAt l 0 1 % 32
  let mine := beAt l 8 4 == dSsrc (s.ses n).desc
  if pt = 201 then s.reportBlocks n at_ fmt (l.drop 8)
  else if pt = 200 then s.reportBlocks n at_ fmt (l.drop 28)
  else if pt = 205 ∧ fmt = 1 ∧ mine then s.nack n (nackSeqs (l.drop 12))
  else if pt = 206 ∧ fmt = 1 ∧ mine then s.refPli n
  else if pt = 205 ∧ fmt = 11 then s.ccfb n at_ l
  else if (pt = 205 ∨ pt = 206) ∧ fmt = 1 then s
  else s.setPkt n { (s.ses n).pkt with fbSkip := sat32 ((s.ses n).pkt.fbSkip + 1) }

/-- The length of an RTCP packet is consistent with what it says it holds. -/
def rtcpSound (l : List Byte) : Bool :=
  let pt := beAt l 1 1
  let rc := beAt l 0 1 % 32
  if pt = 200 then decide (28 + 24 * rc ≤ l.length)
  else if pt = 201 then decide (8 + 24 * rc ≤ l.length)
  else if pt = 205 ∨ pt = 206 then decide (12 ≤ l.length)
  else true

/-- The packets of a compound packet, in order; a length that is inconsistent ends the parse (R232). -/
def State.rtcpAll (n at_ : Nat) : Nat → List Byte → State → State
  | 0, _, s => s
  | fuel + 1, l, s =>
    let k := (beAt l 2 2 + 1) * 4
    if l.length < 4 ∨ l.length < k ∨ beAt l 0 1 / 64 ≠ 2 ∨ rtcpSound (l.take k) = false then s
    else (s.rtcpOne n at_ (l.take k)).rtcpAll n at_ fuel (l.drop k)

/-- An SRTCP packet under the current RX slot or, with a change armed, the new one, which it makes current (R231). -/
def Pkt.openFb (x : Pkt) (p : List Byte) : Option (Nat × List Byte) × Pkt :=
  match srtcpOpen x.rx p with
  | some r => (some r, x)
  | none =>
    match x.armed with
    | some (_, _, rx) =>
      match (if x.rxDone then none else srtcpOpen rx p) with
      | some r => (some r, { x with rx := rx, rxDone := true })
      | none => (none, x)
    | none => (none, x)

/-- FEEDBACK_PACKET (R232): the next packet that the switch has steered to the session. -/
def State.feedback (n : Nat) (s : State) : State :=
  let x := (s.ses n).pkt
  match x.fb with
  | [] => s
  | (p, at_) :: t =>
    let x := { x with fb := t }
    let drop := fun (x : Pkt) => { x with fbDrop := sat32 (x.fbDrop + 1) }
    let pt := beAt p 1 1
    if pt < 192 ∨ 223 < pt then s.setPkt n (drop x)
    else
      match x.openFb p with
      | (none, x) =>
        let s := (s.setPkt n { drop x with authBad := x.authBad + 1 }).raiseErr .packetizer 0 3 (Cap.obj n)
        if x.authBad = 0 then s.pktEvt n 4 x.next 1 else s
      | (some (i, l), x) =>
        let x := { x with authBad := 0 }
        let top := maxOf x.seen
        -- a window of 64 indexes up to the newest accepted (DEDUCED, assumption 114)
        if x.seen.contains i ∨ (!x.seen.isEmpty ∧ i + 64 ≤ top) then s.setPkt n (drop x)
        else
          let s := s.setPkt n { x with seen := (i :: x.seen).filter fun j => decide (max i top < j + 64) }
          (s.rtcpAll n at_ l.length l).oldFree n

/-- FEEDBACK_PACKET. -/
def execFeedbackPacket (session : Nat) (s : State) : Result := .next (if s.pktOn session then s.feedback session else s)

end Sys2Proof.Machine
end

