-- ==== Sys2Proof/Machine/StoneCheck.lean ====
section
/-!
DEFINITION. What a stone may decide for a block (R95, R98 to R101, R105 to R107, R115, R116, R166): the partitions, intra modes,
references, motion, transforms and coding elements of a preset and a codec. Decisions outside these bounds are none that a stone takes.
-/

namespace Sys2Proof.Machine

/-! ## Partitions (R101, R105 to R107) -/

/-- Two prediction units have no sample in common. -/
def unitsApart (a b : PredUnit) : Bool :=
  decide (a.x + a.w ≤ b.x) || decide (b.x + b.w ≤ a.x) || decide (a.y + a.h ≤ b.y) || decide (b.y + b.h ≤ a.y)

/-- Units that fill a block of side `b` once. -/
def unitsFill (b : Nat) (l : List PredUnit) : Bool :=
  l.all (fun u => decide (0 < u.w ∧ 0 < u.h ∧ u.x + u.w ≤ b ∧ u.y + u.h ≤ b)) && decide ((l.map fun u => u.w * u.h).sum = b * b) &&
  decide (l.Pairwise fun a c => unitsApart a c = true)

/-- The smallest side of a partition at a preset: 16 (8 where intra) at E0, 8 at E1 and E2, 4 at E3. -/
def leastSide (p : Nat) (intra : Bool) : Nat := if p = 0 then (if intra then 8 else 16) else if p = 3 then 4 else 8

/-- The shape of a partition: square or 2:1 from the least side on; 4:1 and asymmetric at E2 and E3 (R101). In HEVC a unit of 4×4 is
intra, and intra units are square; AVC has partitions to 16×16, below 8×8 at E3, and 8×8 intra outside Main (R105). -/
def shapeOk (d : List Byte) (p : Nat) (u : PredUnit) : Bool :=
  let intra := u.intra.isSome
  let lo := min u.w u.h
  let hi := max u.w u.h
  let plain := [4, 8, 16, 32, 64].contains lo && (hi == lo || hi == 2 * lo) && decide (leastSide p intra ≤ lo)
  let slim := decide (2 ≤ p) && decide (4 ≤ lo) && hi == 4 * lo
  if dCodec d = 1 then
    plain && (if intra then u.w == u.h && (u.w != 8 || dProfile d != 2) else true)
  else if dCodec d = 2 then
    if intra then plain && u.w == u.h
    else (plain && decide (4 < hi)) || slim || (decide (2 ≤ p) && 3 * hi == 4 * lo)
  else plain || slim

/-- The intra modes (R105 to R107): AVC has four of 16×16 and nine others, HEVC 35, AV1 thirteen, and at E2 and E3 five of filter intra
besides (the count of AV1 and their numbers PRESUMED, assumption 30). -/
def modeOk (d : List Byte) (p mode w : Nat) : Bool :=
  if dCodec d = 1 then decide (mode < if w = 16 then 4 else 9)
  else if dCodec d = 2 then decide (mode < 35)
  else decide (mode < 13) || (decide (2 ≤ p) && decide (mode < 18))

/-- References of a unit: one in a P picture, up to two in a B picture and in AV1 (R107, R108), each of the picture's list; the AV1
filter is switchable from E1 on. -/
def refsOk (d : List Byte) (f : Frame) (p : Nat) (u : PredUnit) : Bool :=
  let most := if dCodec d = 3 then 2 else if f.cls = .b then 2 else 1
  decide (1 ≤ u.refs.length ∧ u.refs.length ≤ most) && u.refs.all (fun r => decide (r.1 < f.refs.length)) &&
  (if dCodec d = 3 then decide (u.interp < if p = 0 then 1 else 3) else u.interp == 0)

/-- Transforms (R101, R105 to R107): AVC 4×4 and 8×8 outside Main, HEVC 4×4 to 32×32, AV1 4×4 to 64×64; one size at E0; the types of AV1
by preset. -/
def txOk (d : List Byte) (p : Nat) (l : List (Nat × Nat)) : Bool :=
  (p != 0 || l.all fun t => t.1 == (l.headD (0, 0)).1) &&
  l.all fun t =>
    if dCodec d = 1 then (t.1 == 4 || (t.1 == 8 && dProfile d != 2)) && t.2 == 0
    else if dCodec d = 2 then [4, 8, 16, 32].contains t.1 && (t.2 == 0 || (t.1 == 4 && t.2 == 1))
    else [4, 8, 16, 32, 64].contains t.1 && decide (t.2 ≤ if p = 0 then 0 else if p = 3 then 2 else 1)

/-! ## Coding elements (R198) -/

/-- A coding element that a stone passes for a block of a codec: its OP, with zeros where R198 gives zeros. The elements around the
block are the stone's own. -/
def elemOk (d : List Byte) (e : DWord) : Bool :=
  let op := e.toNat % 16
  bits e.toNat 31 20 == 0 && bits e.toNat 63 48 == 0 &&
  (if dCodec d = 3 then op == 3 || op == 4
   else if dCodec d = 1 ∧ dEntropy d = 0 then op == 1 || op == 4
   else decide (op ≤ 2) || (dCodec d == 2 && (op == 0xB || op == 0xC)))

/-! ## Motion (R98 to R100, R116) -/

/-- The samples that interpolation takes before and after a unit for a fraction of a sample: the luma filters have 6 taps in AVC and 8
in HEVC and AV1 (PRESUMED, assumption 30). -/
def filterTaps (d : List Byte) (mv : Int) : Int × Int := if mv % 4 = 0 then (0, 0) else if dCodec d = 1 then (2, 3) else (3, 4)

/-- The luma samples that a unit at (x, y) of the picture reads of a reference: first and one past the last column and line. -/
def footprint (d : List Byte) (x y : Nat) (u : PredUnit) (mx my : Int) : Int × Int × Int × Int :=
  let (xa, xb) := filterTaps d mx
  let (ya, yb) := filterTaps d my
  let cx : Int := (x + u.x : Nat) + mx / 4
  let cy : Int := (y + u.y : Nat) + my / 4
  (cx - xa, cx + (u.w : Nat) + xb, cy - ya, cy + (u.h : Nat) + yb)

/-- A footprint lies in the reference window of its block (R98, R99). -/
def inWindow (d : List Byte) (p x y : Nat) (g : Int × Int × Int × Int) : Bool :=
  let (a, b, c, e) := windowAt d p x y
  decide (a ≤ g.1 ∧ g.2.1 ≤ b ∧ c ≤ g.2.2.1 ∧ g.2.2.2 ≤ e)

/-- A coordinate within the picture: outside it the edge is replicated (R98). -/
def clampTo (n : Nat) (v : Int) : Nat := min v.toNat (n - 1)

/-- A footprint touches no 64×64 block of a list (R100). -/
def clearOf (d : List Byte) (map : List Nat) (g : Int × Int × Int × Int) : Bool :=
  let x0 := clampTo (dWidth d) g.1 / 64
  let x1 := clampTo (dWidth d) (g.2.1 - 1) / 64
  let y0 := clampTo (dHeight d) g.2.2.1 / 64
  let y1 := clampTo (dHeight d) (g.2.2.2 - 1) / 64
  map.all fun b => decide (b % dN64 d < x0) || decide (x1 < b % dN64 d) || decide (b / dN64 d < y0) || decide (y1 < b / dN64 d)

/-- The guard band at the right edge of a clean region (R116). -/
def guardBand (d : List Byte) : Nat := if dCodec d = 1 then 4 else if dCodec d = 2 then 8 else 16

/-- A clean region of `n` 64-sample columns ends a footprint here: none where it reaches the right edge of the picture. -/
def cleanEdge (d : List Byte) (n guard : Nat) : Option Int := if dN64 d ≤ n then none else some ((64 * n : Nat) - (guard : Nat))

/-- A reference of a block in the clean region: a picture of the same cycle, the footprint within its clean region (R116, 1). -/
def State.cleanRef (s : State) (n k : Nat) (d : List Byte) (g : Int × Int × Int × Int) : Bool :=
  match (s.rses n).cycle.bind fun c => Tbl.get? c.pics (s.rbuf k).order with
  | none => false
  | some cols => (cleanEdge d cols (guardBand d)).all fun e => decide (g.2.1 ≤ e)

/-- An intra unit of the clean region takes no sample beyond it: those above to the right lie up to a unit's height past it (R116, 2). -/
def cleanIntra (d : List Byte) (n x : Nat) (u : PredUnit) (right : Bool) : Bool :=
  !right || (cleanEdge d n 0).all fun e => decide (((x + u.x + u.w + u.h : Nat) : Int) ≤ e)

/-! ## A unit and a block -/

/-- A prediction unit of the block whose first luma sample is (x, y), of session `n`. -/
def State.unitOk (s : State) (n : Nat) (f : Frame) (p x y : Nat) (u : PredUnit) : Bool :=
  let d := (s.ses n).desc
  let inClean := f.wave.isSome && decide (x / 64 < f.clean)
  shapeOk d p u &&
  match u.intra with
  | some (mode, right) => u.refs.isEmpty && modeOk d p mode u.w && (!inClean || cleanIntra d f.clean x u right)
  | none =>
    refsOk d f p u && u.refs.all fun r =>
      let k := f.refs.getD r.1 0
      let g := footprint d x y u r.2.1 r.2.2
      inWindow d p x y g && clearOf d (s.rbuf k).map g && (!inClean || s.cleanRef n k d g)

/-- In the last coding row the decisions of the examined lines are carried over the padding below them (R101): a unit there repeats
those of the unit above it on the last examined line. -/
def carried (lines : Nat) (l : List PredUnit) : Bool :=
  l.all fun u => decide (u.y < lines) ||
    l.any fun v => decide (v.y < lines ∧ lines ≤ v.y + v.h ∧ v.x ≤ u.x ∧ u.x < v.x + v.w) && v.intra == u.intra && v.refs == u.refs

/-- A block that a stone may decide at a place of a picture: intra where the picture, the wave or R166 asks it (R108, R115, R166), with
a floor form within its bound (R131). -/
def State.blockOk (s : State) (n : Nat) (f : Frame) (p row x : Nat) (b : Block) : Bool :=
  let d := (s.ses n).desc
  unitsFill (dBlk d) b.units && carried (dLines d row) b.units &&
  b.units.all (s.unitOk n f p (x * dBlk d) (row * dBlk d)) && (!f.dcBlock d row x || b.units.all (·.intra.isSome)) &&
  txOk d p b.tx && b.elems.all (elemOk d) && b.floor.all (elemOk d) &&
  decide (elemsU d b.floor ≤ if f.dcBlock d row x then phiI d else phiS d)

end Sys2Proof.Machine
end

