-- ==== Sys2Proof/Machine/Stones.lean ====
section
/-!
DEFINITION. Stones: which segment a stone codes next, its blocks on their way to the runner with the block check, the end of its
reconstruction and filters, its checkpoint, the commit of a segment and of a picture, CBR filler and the refresh cycle's advance
(R63, R95 to R119, R129, R132 to R137, R155, R198).
-/

namespace Sys2Proof.Machine

/-! ## Choosing a segment (R63, R95) -/

/-- The first segment of a session in a given standing that a logical stone (standing queued) or a physical one serves. -/
def Frame.firstSeg (f : Frame) (p : Seg → Bool) : Option Seg := f.segs.find? p

/-- The sessions with a segment that satisfies `p`, by target completion time and then index (R63). -/
def State.segPick (s : State) (p : List Byte → Seg → Bool) : Option (Nat × Frame × Seg) :=
  (s.sessions.filterMap fun e => e.2.active.bind fun f => (f.firstSeg (p e.2.desc)).map fun g => (e.1, f, g)).foldl
    (fun (best : Option (Nat × Frame × Seg)) e => match best with
      | none => some e
      | some m => if e.2.1.dueAt (s.ses e.1).desc < m.2.1.dueAt (s.ses m.1).desc then some e else best) none

/-- A segment of a frame. -/
def Frame.seg? (f : Frame) (row col : Nat) : Option Seg := f.segs.find? fun g => g.row == row && g.col == col

/-- Changes the segments of a frame at a place. -/
def Frame.mapSeg (f : Frame) (row col : Nat) (h : Seg → Seg) : Frame :=
  { f with segs := f.segs.map fun g => if g.row = row ∧ g.col = col then h g else g }

/-- Changes a segment of a session's frame. -/
def State.mapSeg (n row col : Nat) (h : Seg → Seg) (s : State) : State :=
  match (s.ses n).frame with
  | some f => s.setFrame n (f.mapSeg row col h)
  | none => s

/-- A stone works: USABLE, powered and not in reset. -/
def State.stoneOn (s : State) (n : Nat) : Bool :=
  s.works .stone n && decide (n < s.part.stonesPhys) && (s.stone n).role == .usable

/-- φ of each block of a segment (R131). -/
def Frame.phis (f : Frame) (d : List Byte) (g : Seg) : List Nat :=
  (colBlocks d g.col).map fun x => if f.dcBlock d g.row x then phiI d else phiS d

/-- The preset that a segment runs at on a stone: the lower of the frame's and STONE_CTL.PRESET (R102). -/
def State.segPreset (s : State) (n : Nat) (f : Frame) : Nat := min f.preset (fld (s.reg (Reg.stoneCtl n)) 1 0)

/-! ## Blocks to the runner (R134, R198) -/

/-- SEG_START with the slice QP, BLOCK_END and SEG_END (R198). -/
def segStartElem (q : Nat) : DWord := BitVec.ofNat 64 (9 + 2 ^ 32 * q)
/-- BLOCK_END. -/
def blockEnd : DWord := 8
/-- SEG_END: every segment of AVC and HEVC ends its slice or slice segment; an AV1 tile ends with its last row (R111, R198). -/
def segEnd (d : List Byte) (row : Nat) : DWord :=
  BitVec.ofNat 64 (0xA + 2 ^ 32 * (if dCodec d ≠ 3 then 1 else if row + 1 = (dUnit d row).2 then 2 else 0))

/-- The elements by which a segment's runner writes the header of its slice or slice segment: the first of a picture in HEVC is
independent (R111). -/
def sliceElems (d : List Byte) (f : Frame) (g : Seg) : List DWord :=
  if dCodec d = 3 then [] else Config.sliceElems f.slice (g.row == 0 && g.col == 0) (g.row * dNx d + dColAt d g.col) g.q

/-- The q of a block of a segment: 51 in floor mode (R130). -/
def Seg.qAt (g : Seg) (j : Nat) : Nat := if g.floorAt.any (· ≤ j) then 51 else g.q

/-- The most coding elements that the queue to a runner holds (R198). -/
def elemMost : Nat := 2048

/-- The elements of block `j` of a segment: as decided, or in floor mode from `floorAt` on; after the last block the segment's end. -/
def Seg.elemsOf (g : Seg) (d : List Byte) (j : Nat) : List DWord :=
  let l := match g.blocks[j]? with
    | some b => if g.floorAt.any (· ≤ j) then b.floor else b.elems
    | none => []
  l ++ [blockEnd] ++ (if j + 1 = g.blocks.length then [segEnd d g.row] else [])

/-- Block `j` passes the check or turns it and the rest of its segment to floor mode (R134). -/
def State.checkBlock (n : Nat) (f : Frame) (g : Seg) (s : State) : State :=
  let d := (s.ses n).desc
  let j := g.passed
  if g.floorAt.isSome ∨ blockPasses d g.c (f.phis d g) g.reports g.blocks j then s
  else ((s.goSticky n g.row).addSat Reg.govGuardCtbs 32 (g.blocks.length - j)).mapSeg n g.row g.col fun g => { g with floorAt := some j }

/-- Passes the blocks of a segment to its runner while the queue takes elements and the counts that the check needs have arrived
(R134, R198); reconstruction ends with the last of them. -/
def State.feed (n row col : Nat) : Nat → State → State
  | 0, s => s
  | fuel + 1, s =>
    match (s.ses n).active.bind fun f => (f.seg? row col).map fun g => (f, g) with
    | none => s
    | some (f, g) =>
      let d := (s.ses n).desc
      let j := g.passed
      if g.st ≠ .coding ∨ g.blocks.length ≤ j ∨ elemMost ≤ g.queue.length ∨ (g.floorAt = none ∧ 2 ≤ j ∧ g.reports.length + 1 < j) then s
      else
        let s := s.checkBlock n f g
        let s := s.mapSeg n row col fun g => { g with passed := j + 1, queue := g.queue ++ g.elemsOf d j
                                                      reconAt := if j + 1 = g.blocks.length then some s.tick else none }
        s.feed n row col fuel

/-- A stone begins a checkpoint for a segment in the area that does not hold the newest complete one (R119). -/
def State.ckptArea (s : State) (n col : Nat) : Nat :=
  let at_ := fun (a : Nat) => match Tbl.get? s.ckpts (16 * n + 2 * col + a) with
    | some c => if c.complete then c.seq + 1 else 0
    | none => 0
  if at_ 0 ≤ at_ 1 then 0 else 1

/-- A segment can start with these blocks: they are within what the codec, the preset and the picture allow, and those that the
segment has, where a stone has decided it at the same preset already (R96, R134). -/
def State.segTakes (s : State) (k : Nat) (f : Frame) (g : Seg) (p : Nat) (blocks : List Block) : Bool :=
  let d := (s.ses k).desc
  let xs := colBlocks d g.col
  blocks.length == xs.length && (g.blocks.isEmpty || g.preset != p || g.blocks == blocks) &&
  (xs.zip blocks).all fun e => s.blockOk k f p g.row e.1 e.2

/-- STONE_SEGMENT_START (R95, R102, R134): the stone takes its next queued segment with the blocks that analysis decides, opens its
checkpoint, loads the windows of the picture's references, and begins to pass blocks. -/
def State.segStart (n : Nat) (blocks : List Block) (s : State) : State :=
  let x := s.stone n
  if s.stoneOn n ∧ x.busy = false ∧ (s.imageAt 1 x.lstone).isSome then
    match s.segPick (fun d g => g.st == .queued && dStone d g.col == x.lstone) with
    | none => s
    | some (k, f, g) =>
      let d := (s.ses k).desc
      let p := s.segPreset n f
      if s.segTakes k f g p blocks = false then s
      else
        let a := s.ckptArea k g.col
        let seq := match Tbl.get? s.ckpts (16 * k + 2 * g.col + (1 - a)) with
          | some c => c.seq + 1
          | none => 1
        let c : Ckpt := { seq := seq, frame := f.k, row := g.row, q := g.q, preset := p, clean := f.clean
                          cycle := (s.rses k).cycle.map fun c => (c.i, c.stalls), seam := (false, false), samples := [], modes := []
                          complete := false }
        let s := { s with ckpts := Tbl.set s.ckpts (16 * k + 2 * g.col + a) c }
        let s := s.mapSeg k g.row g.col fun g => { g with
          st := .coding, phys := n, preset := p, blocks := blocks, passed := 0, queue := segStartElem g.q :: sliceElems d f g, reports := [], reconAt := none
          floorAt := if g.floor then some 0 else none, out := none, wrote := 0, cut := false }
        let s := s.setStone n { x with busy := true, ses := k, row := g.row, col := g.col, since := s.tick
                                       units := x.units ++ [(k, g.row, g.col)], cache := f.refs }
        s.feed k g.row g.col blocks.length
  else s

/-- STONE_SEGMENT_START. -/
def execStoneSegmentStart (n : Nat) (blocks : List Block) (s : State) : Result := .next (s.segStart n blocks)

/-! ## The end of a segment on its stone (R95, R97, R119, R148) -/

/-- The luma lines of a picture that are filtered with a coding row: the 12 bottom lines wait for the row below (R97, R119). -/
def filterLines (d : List Byte) (row : Nat) : Nat × Nat :=
  (dBlk d * row - 12, if row + 1 = dNy d then dBlk d * (row + 1) else dBlk d * (row + 1) - 12)

/-- The luma columns of a tile column, to the end of its last coding block. -/
def colSpan (d : List Byte) (col : Nat) : Nat × Nat := (dBlk d * dColAt d col, dBlk d * dColAt d (col + 1))

/-- What reconstruction leaves has the sizes of the segment (R97, R119, R148). -/
def reconFits (d : List Byte) (row col : Nat) (r : SegRecon) : Bool :=
  let (y0, y1) := filterLines d row
  let (x0, x1) := colSpan d col
  let n := (x1 - x0) * (y1 - y0)
  let cols := ceilDiv x1 64 - x0 / 64
  r.y.length == n && 4 * r.cb.length == n && 4 * r.cr.length == n && 16 * r.motion.length == dBlk d * (x1 - x0) &&
  r.edge.length == 1152 * cols && r.modes.length == 256 * cols

/-- Where luma sample (x, y) of a buffer lies: planes of 64×64 blocks (R148; their order DESIGN CHOICE, assumption 79). -/
def State.lumaAt (s : State) (k x y : Nat) : Nat :=
  let c := keyCls k
  s.bufBase k + (4096 * (y / 64 * s.clsW c + x / 64) + 64 * (y % 64) + x % 64) * s.clsB c

/-- Where the chroma pair of the sample (x, y) of the chroma planes lies. -/
def State.chromaAt (s : State) (k x y : Nat) : Nat :=
  let c := keyCls k
  s.bufBase k + (4096 * s.clsBlocks c + 2048 * (y / 32 * s.clsW c + x / 32) + 64 * (y % 32) + 2 * (x % 32)) * s.clsB c

/-- Where the motion of the 16×16 block (x, y) lies. -/
def State.motionAt (s : State) (k x y : Nat) : Nat :=
  let c := keyCls k
  s.bufBase k + 6144 * s.clsBlocks c * s.clsB c + 256 * (y / 4 * s.clsW c + x / 4) + 16 * (4 * (y % 4) + x % 4)

/-- Writes a line of samples that starts at column `x`, piece by piece of at most `w` of them, where `at_` places a column. -/
def State.putLine (master w b : Nat) (at_ : Nat → Nat) : Nat → Nat → List (List Nat) → State → State
  | 0, _, _, s => s
  | fuel + 1, x, l, s =>
    if l.isEmpty then s
    else
      let n := w - x % w
      (s.writeBytes master 0x1 (at_ x) ((l.take n).flatten.flatMap (leBytes b))).putLine master w b at_ fuel (x + n) (l.drop n)

/-- Writes the filtered samples and the motion of a segment to the picture's buffer (R95, R148). -/
def State.writeRecon (n : Nat) (d : List Byte) (k row col : Nat) (r : SegRecon) (s : State) : State :=
  let (y0, y1) := filterLines d row
  let (x0, x1) := colSpan d col
  let w := x1 - x0
  let b := s.clsB (keyCls k)
  let s := (List.range (y1 - y0)).foldl (fun s i =>
    s.putLine n 64 b (fun x => s.lumaAt k x (y0 + i)) (w / 64 + 2) x0 ((slice r.y (w * i) w).map fun v => [v])) s
  let h := w / 2
  let s := (List.range ((y1 - y0) / 2)).foldl (fun s i =>
    s.putLine n 32 b (fun x => s.chromaAt k x (y0 / 2 + i)) (w / 64 + 2) (x0 / 2)
      (((slice r.cb (h * i) h).zip (slice r.cr (h * i) h)).map fun v => [v.1, v.2])) s
  let m := w / 16
  (List.range (dBlk d / 16 * m)).foldl (fun s i =>
    s.writeBytes n 0x1 (s.motionAt k (x0 / 16 + i % m) (dBlk d / 16 * row + i / m)) (slice r.motion (16 * i) 16)) s

/-- Where a checkpoint area's header and data lie in the session block of a tile column: headers of the eight columns, then the data by
64-sample column, twice (R119, R148; the order DESIGN CHOICE, assumption 24). -/
def State.ckptAt (s : State) (n col a : Nat) : Option (Nat × Nat) :=
  let r := s.rses n
  let d := (s.ses n).desc
  r.sblk.map fun j =>
    let half := s.sblkBase r.cls j + a * (8192 + s.clsW r.cls * (1152 * s.clsB r.cls + 256))
    (half + 1024 * col, half + 8192 + (colSpan d col).1 / 64 * (1152 * s.clsB r.cls + 256))

/-- The samples, the modes, and last the header of a segment's checkpoint are written, and it is complete (R119). -/
def State.ckptWrite (m n row col q : Nat) (r : SegRecon) (s : State) : State :=
  let a := s.ckptArea n col
  match Tbl.get? s.ckpts (16 * n + 2 * col + a), s.ckptAt n col a with
  | some c, some (head, data) =>
    if c.row ≠ row then s
    else
      let d := (s.ses n).desc
      let b := s.clsB (s.rses n).cls
      let c := { c with q := q, samples := r.edge, modes := r.modes, seam := (decide (0 < col), decide (col + 1 < dCols d)), complete := true }
      let s := (List.range (r.modes.length / 256)).foldl (fun s i =>
        s.writeBytes m 0x1 (data + (1152 * b + 256) * i) ((slice r.edge (1152 * i) 1152).flatMap (leBytes b) ++ slice r.modes (256 * i) 256)) s
      let s := s.writeLines m 0x1 head (padTo 1024 (Config.ckptHead c))
      { s with ckpts := Tbl.set s.ckpts (16 * n + 2 * col + a) c }
  | _, _ => s

/-- The segments of the tile columns beside one, of its row (R97). -/
def Frame.beside (f : Frame) (row col : Nat) : List Seg := f.segs.filter fun g => g.row == row && (g.col + 1 == col || g.col == col + 1)

/-- The bands of the neighbours have been reconstructed: the latest of them, where there are any (R97). -/
def Frame.seamAt (f : Frame) (d : List Byte) (row col : Nat) : Option Nat :=
  let l := (f.beside row col).map (·.reconAt)
  if l.length = b2n (decide (0 < col)) + b2n (decide (col + 1 < dCols d)) ∧ l.all (·.isSome) then some (maxOf (l.map fun t => t.getD 0))
  else none

/-- STONE_SEGMENT_DONE (R97): the last block has been reconstructed and its elements are with the runner, the bands of the neighbours are
there, the filtered samples stand in the picture's buffer, and the checkpoint is complete. -/
def State.segDone (n : Nat) (r : SegRecon) (s : State) : State :=
  let x := s.stone n
  if s.stoneOn n ∧ x.busy ∧ s.memServes then
    match (s.ses x.ses).active.bind fun f => (f.seg? x.row x.col).map fun g => (f, g) with
    | none => s.setStone n { x with busy := false }
    | some (f, g) =>
      let d := (s.ses x.ses).desc
      match g.reconAt, f.seamAt d x.row x.col with
      | some t, some u =>
        if g.st = .coding ∧ g.phys = n ∧ g.queue.length ≤ elemMost ∧ reconFits d x.row x.col r then
          let s := s.addSat (Reg.stoneSeamWait n) 32 ((u - t) * 28 / 25)
          let s := (s.writeRecon n d f.buf x.row x.col r).ckptWrite n x.ses x.row x.col (g.qAt (g.blocks.length - 1)) r
          (s.mapSeg x.ses x.row x.col fun g => { g with st := .coded }).setStone n { x with busy := false }
        else s
      | _, _ => s
  else s

/-- STONE_SEGMENT_DONE. -/
def execStoneSegmentDone (n : Nat) (out : SegRecon) (s : State) : Result := .next (s.segDone n out)

/-! ## The commit of a picture (R115, R117, R129, R155) -/

/-- LEB128 of a number in exactly `k` bytes. -/
def leb128In : Nat → Nat → List Byte
  | 0, _ => []
  | 1, n => [byte (n % 128)]
  | k + 1, n => byte (n % 128 + 128) :: leb128In k (n / 128)

/-- An OBU_PADDING of exactly `n` bytes, 3 at least: the least size field that counts what is left, and an OBU trailing bit (R129,
R224). -/
def paddingObu (n : Nat) : List Byte :=
  let k := ((List.range 8).find? fun k => decide (n - 2 - k < 128 ^ (k + 1))).getD 7 + 1
  [0x7A] ++ leb128In k (n - 1 - k) ++ List.replicate (n - 2 - k) 0x00 ++ [0x80]

/-- Filler of at least `n` bytes in the form of R129 and R112: NAL units with their start code, or an OBU; a size below the
smallest form takes that form (assumption 35). -/
def fillerUnit (d : List Byte) (n : Nat) : List Byte :=
  if n = 0 then []
  else if dCodec d = 1 then [0x00, 0x00, 0x00, 0x01, 0x0C] ++ List.replicate (n - 6) 0xFF ++ [0x80]
  else if dCodec d = 2 then [0x00, 0x00, 0x00, 0x01, 0x4C, 0x01] ++ List.replicate (n - 7) 0xFF ++ [0x80]
  else paddingObu (max 3 n)

/-- Filler bits of a CBR picture before rounding to bytes (R129), in whole bytes. -/
def fillerBytes (d : List Byte) (full bits per : Nat) : Nat :=
  if dRmode d ≠ 0 then 0 else ceilDiv (full - bits * 65536 + bitsPer (dRate d) per - dBuf d * 65536) (8 * 65536)

/-- Appends filler to a picture's last row unit. -/
def State.addFiller (n : Nat) (s : State) : State :=
  let x := s.ses n
  match x.frame with
  | none => s
  | some f =>
    let u := fillerUnit x.desc (fillerBytes x.desc x.gov.full f.auBits (s.framePer x.desc))
    if u.isEmpty then s
    else
      let l := dLane x.desc
      let y := s.lane l
      let s := s.setLane l { y with units := y.units.map fun v =>
        if v.frame = f.k ∧ v.last then { v with bytes := v.bytes ++ u } else v }
      s.setFrame n { f with filler := 8 * u.length }

/-- A block of the picture's wave was coded in floor mode (R117, R135). -/
def Frame.waveFloored (f : Frame) (d : List Byte) : Bool :=
  f.segs.any fun g => ((colBlocks d g.col).drop (if g.floor then 0 else g.floorAt.getD (dColW d g.col))).any (f.inWave d)

/-- The refresh cycle after a picture with its wave (R115, R117): the picture joins the cycle with its clean region, which in a stall
ends before the wave (R116). -/
def State.cycleStep (n : Nat) (f : Frame) (s : State) : State :=
  let x := s.rses n
  let d := (s.ses n).desc
  match x.cycle, f.wave with
  | some c, some (a, e) =>
    let stall := f.waveFloored d && decide (c.stalls < dRefSlack d)
    let c := { c with pics := Tbl.set c.pics (s.rbuf f.buf).order (if stall then a else e) }
    if stall then s.setRses n { x with cycle := some { c with stalls := c.stalls + 1 } }
    else if e < dN64 d then s.setRses n { x with cycle := some { c with i := c.i + 1 } }
    else
      let per := if dRefPer d = 0 then cycleLen d c.width else dRefPer d
      s.setRses n { x with cycle := none, nextCyc := max (c.start + per) (f.k + 1) }
  | _, _ => s

/-- The last row of a picture has committed: filler, the pool's marks, and the refresh cycle. -/
def State.picCommit (n : Nat) (s : State) : State :=
  let s := s.addFiller n
  match (s.ses n).frame with
  | none => s
  | some f =>
    let s := ((s.setFrame n { f with coded := true }).cycleStep n f).refCommit n f.buf
    s.refEnd f.refs

/-! ## The commit of a segment (R113, R132, R137) -/

/-- The slice or slice segment of a segment as it is stored: start code, NAL unit header, and what the runner has written; in AV1 the
runner's bytes alone (R111, R224). The forms of the NAL unit headers are PRESUMED (assumption 28). -/
def segBytes (d : List Byte) (h : SliceHead) (out : List Byte) : List Byte :=
  if dCodec d = 3 then out
  else [0x00, 0x00, 0x00, 0x01] ++ (if dCodec d = 1 then [byte (h.refIdc * 32 + h.nalType)] else [byte (h.nalType * 2), 0x01]) ++ out

/-- Bytes of that beyond the runner's. -/
def segHead (d : List Byte) : Nat := if dCodec d = 3 then 0 else if dCodec d = 1 then 5 else 6

/-- The bits that a segment adds to the access unit: its bytes, and where it completes an AV1 row unit, what completes that
unit (R224). -/
def segBits (d : List Byte) (row col len tiles : Nat) : Nat :=
  let (a, b) := dUnit d row
  8 * (len + (if row + 1 = b ∧ col + 1 = dCols d then unitExtra d a tiles else 0))

/-- The ceiling that a segment's bits stay under: in floor mode throughout, its floor bound (R131, R134). -/
def Frame.segMost (f : Frame) (d : List Byte) (g : Seg) : Nat :=
  if g.floorAt = some 0 then min g.c (f.segPhi d g.row g.col) else g.c

/-- The measured complexity of a segment: that of its blocks outside floor mode (R132, R136). -/
def Seg.complexity (g : Seg) : Nat := ((g.blocks.take (g.floorAt.getD g.blocks.length)).map (·.cplx)).sum

/-- The checkpoint of a segment is complete (R113, R119). -/
def State.ckptDone (s : State) (n : Nat) (f : Frame) (g : Seg) : Bool :=
  [0, 1].any fun a => match Tbl.get? s.ckpts (16 * n + 2 * g.col + a) with
    | some c => c.complete && c.frame == f.k && c.row == g.row
    | none => false

/-- θ after a row has committed (R137). -/
def State.thetaRow (n row : Nat) (s : State) : State :=
  let x := s.ses n
  match x.frame with
  | none => s
  | some f =>
    let d := x.desc
    if f.rowNormal d row then
      let g := x.gov
      let q := ((f.segs.find? fun v => v.row == row).map (·.q)).getD 0
      let t := thetaNext (g.theta f.cls) (g.measured f.cls) (f.rowBits row) (f.rowPhi d row) q (kPreset f.preset) (f.rowCplx row)
      s.setGov n (g.setTheta f.cls t)
    else s

/-- A row has no segment left to commit. -/
def Frame.rowCommitted (f : Frame) (d : List Byte) (row : Nat) : Bool :=
  let l := f.segs.filter fun g => g.row == row
  l.length == dCols d && l.all fun g => g.st == .committed

/-- The segments of a row unit that have committed, in stored bytes (R224). -/
def Frame.unitSize (f : Frame) (d : List Byte) (row : Nat) : Nat :=
  ((f.segs.filter fun v => v.st == .committed && (dUnit d v.row).1 == (dUnit d row).1).map fun v => v.wrote + segHead d).sum

/-- SEGMENT_COMMIT (R113): the oldest segment that a stone has finished, whose runner is DONE and whose checkpoint is complete, commits
with the bytes that its runner wrote, which lie within its ceiling (R134). -/
def State.commitSegment (n : Nat) (s : State) : State :=
  match s.segPick (fun _ g => g.st == .coded && g.phys == n) with
  | none => s
  | some (k, f, g) =>
    let d := (s.ses k).desc
    match g.out with
    | none => s
    | some out =>
      let len := g.wrote + segHead d
      let b := segBits d g.row g.col len (f.unitSize d g.row + len)
      if b ≤ f.segMost d g ∧ s.stoneOn n ∧ s.ckptDone k f g then
        let g' := { g with st := .committed, bits := b, cplx := g.complexity, queue := []
                           out := if f.dropped then none else some (if g.cut then [] else segBytes d f.slice out) }
        let f := { f.mapSeg g.row g.col (fun _ => g') with
          usedSoft := f.usedSoft + (b : Nat) - g.t, usedHard := f.usedHard + (b : Nat) - (g.c : Nat)
          input := if (f.segs.any fun v => v.row == g.row && v.col != g.col && v.st != .committed) then f.input
                   else Tbl.erase f.input g.row }
        let s := ((s.setFrame k f).wrap (Reg.stoneSegs n) 1).laneLink k
        let s := if f.rowCommitted d g.row then s.thetaRow k g.row else s
        if (List.range (dNy d)).all (f.rowCommitted d) then s.picCommit k else s
      else s

/-- SEGMENT_COMMIT. -/
def execSegmentCommit (n : Nat) (s : State) : Result := .next (s.commitSegment n)

/-- SEAM_TIMEOUT (R122): a seam band that a stone waits for is more than 4 slots late. -/
def State.seamLate (n : Nat) (s : State) : State :=
  let x := s.stone n
  if s.stoneOn n ∧ x.busy then
    match (s.ses x.ses).active.bind fun f => (f.seg? x.row x.col).map fun g => (f, g) with
    | none => s
    | some (f, g) =>
      let d := (s.ses x.ses).desc
      match g.reconAt, f.seamAt d x.row x.col with
      | some t, none =>
        (s.reach (t + vclkTicks (4 * (dBlk d * dBlk d * 28 / rate20 g.preset)) + 1)).raiseErr .stone n 4 (Cap.obj x.ses)
      | _, _ => s
  else s

/-- SEAM_TIMEOUT. -/
def execSeamTimeout (n : Nat) (s : State) : Result := .next (s.seamLate n)

end Sys2Proof.Machine
end

