-- ==== Sys2Proof/Machine/DecodeOps.lean ====
section
/-!
DEFINITION. Decode sessions and pipelines: the descriptor, commands, bitstream sources, pictures, and delivery (R167 to R171,
R174 to R188). A decode session `n` owns its buffers in the reference pool as owner 512 + `n`.
-/

namespace Sys2Proof.Machine

/-! ## The descriptor (R175 to R177) -/

/-- PIPE. -/
def eePipe (d : List Byte) : Nat := df d 0x00 18 16
/-- SOURCE is the network. -/
def eeNet (d : List Byte) : Bool := df d 0x00 20 20 == 1
/-- HOPPER_OWNER. -/
def eeOwner (d : List Byte) : Nat := df d 0x00 29 24
/-- FPS_MILLI. -/
def eeFps (d : List Byte) : Nat := df d 0x04 23 0
/-- GCLASS. -/
def eeClass (d : List Byte) : Nat := df d 0x08 3 0
/-- NBUF. -/
def eeBufs (d : List Byte) : Nat := df d 0x08 8 4
/-- OUT_DEST. -/
def eeDest (d : List Byte) : Nat := df d 0x08 11 10
/-- OUT_RENDERER. -/
def eeRend (d : List Byte) : Nat := df d 0x08 14 12
/-- OUT_LAYOUT. -/
def eeLayout (d : List Byte) : Nat := df d 0x08 18 15
/-- OUT_SLOTS. -/
def eeSlots (d : List Byte) : Nat := df d 0x08 22 19
/-- REC_LOG2. -/
def eeRec (d : List Byte) : Nat := df d 0x08 27 24
/-- OUT_BASE. -/
def eeBase (d : List Byte) : Nat := leAt d 0x0C 8 / 64 * 64
/-- OUT_PITCH. -/
def eePitch (d : List Byte) : Nat := leAt d 0x14 4
/-- OUT_SLOT_STRIDE. -/
def eeStride (d : List Byte) : Nat := leAt d 0x18 4
/-- REC_BASE. -/
def eeRecBase (d : List Byte) : Nat := leAt d 0x1C 8 / 32 * 32
/-- CONS_ADDR. -/
def eeCons (d : List Byte) : Nat := leAt d 0x24 8 / 4 * 4
/-- KEY_SLOT. -/
def eeKey (d : List Byte) : Nat := df d 0x2C 11 0
/-- PT. -/
def eePt (d : List Byte) : Nat := df d 0x2C 22 16
/-- SSRC. -/
def eeSsrc (d : List Byte) : Nat := leAt d 0x30 4
/-- REORDER_US. -/
def eeReorder (d : List Byte) : Nat := df d 0x34 15 0
/-- EVENT_EN. -/
def eeEvents (d : List Byte) : Nat := df d 0x38 15 0
/-- The outside memory of OUT_DEST; part DRAM is none. -/
def eeSpace (d : List Byte) : Option Nat := if eeDest d = 0 then some (eeRend d + 1) else if eeDest d = 1 then some 0 else none

/-- CODEC, PROFILE and LEVEL lie within R177. -/
def eeCodecOk (d : List Byte) : Bool :=
  let c := dCodec d
  let l := df d 0x00 15 8
  (levelOf c l).isSome &&
  (if c = 1 then decide (df d 0x00 7 4 ≤ 2 ∧ l ≤ 52) else if c = 2 then decide (df d 0x00 7 4 ≤ 1 ∧ l ≤ 61)
   else decide (df d 0x00 7 4 = 0 ∧ l ≤ 61))

/-- BAD_DESC does not apply (R176, R217 for the key). -/
def State.eeOk (s : State) (d : List Byte) : Bool :=
  let g := eeClass d
  let bps := if eeLayout d = 9 then 2 else 1
  eeCodecOk d && decide (2 ≤ eeBufs d ∧ eeBufs d ≤ 17 ∧ eeDest d ≤ 2 ∧ 2 ≤ eeSlots d ∧ eeSlots d ≤ 8 ∧ 3 ≤ eeRec d ∧
    eeRec d ≤ 12 ∧ eePitch d % 64 = 0 ∧ eeStride d % 64 = 0 ∧ eeSlots d ≤ 2 ^ eeRec d) &&
  (eeLayout d == 8 || eeLayout d == 9) && (dCodec d != 3 || decide (9 ≤ eeBufs d)) &&
  (!s.clsEn g ||
    ((s.clsB g == 2 || !(dCodec d == 3 || (dCodec d == 2 && df d 0x00 7 4 == 1))) &&
     decide (64 * s.clsW g * bps ≤ eePitch d ∧ eePitch d * 64 * s.clsH g * 3 ≤ 2 * eeStride d))) &&
  (!eeNet d || s.isSrtp (eeKey d))

/-- What the descriptor names is there (R176). -/
def State.eePresent (s : State) (d : List Byte) : Bool :=
  s.clsEn (eeClass d) && decide (eePipe d < s.part.pipes) && !(s.pipe (eePipe d)).lost &&
  (match eeSpace d with
   | some k => (s.linkOfSpace k).isSome
   | none => true)

/-- The image of a pipeline's runner serves a codec (R181). -/
def State.pipeServes (s : State) (pipe codec : Nat) : Bool :=
  match s.imageAt 2 pipe with
  | some i => decServes i.id codec
  | none => false

/-! ## Events (R187) -/

/-- A decode event, where its EVENT_EN bit is set: the picture's record and the result code. -/
def State.decEvent (n typ bit : Nat) (rec_ : List Byte) (code : Nat) (s : State) : State :=
  if bitOf (eeEvents (s.dec n).desc) bit then
    s.send .session (1536 + n) (.sesRec typ 0 (padTo 32 rec_ ++ [byte code] ++ List.replicate 7 0))
  else s

/-! ## Ending a session -/

/-- Hopper buffers are freed. -/
def State.freeAll (l : List Buf) (s : State) : State := l.foldl (fun s b => s.hopFree b) s

/-- A pipeline gives up the picture it decodes: its buffer and mid-grey lose their marks, and its references are HELD no more. -/
def State.pipeDrop (p : Nat) (s : State) : State :=
  let y := s.pipe p
  if y.busy then
    let s := (y.refs.eraseDups).foldl (fun s k => s.refUnhold k) (s.refUnmark y.buf)
    let s := match y.grey with
      | some k => s.refUnmark k
      | none => s
    s.setPipe p { Pipe.reset with ses := y.ses, lost := y.lost }
  else s

/-- A decode session becomes FREE: input, pictures and buffers are released; its counters stay. -/
def State.decFree (n : Nat) (s : State) : State :=
  let x := s.dec n
  let s := ((s.hopCancelAll (.dec n)).freeAll x.inBufs).freeAll (x.aus.flatMap (·.bufs) ++ x.rtp.filterMap (·.buf))
  let s := (List.range s.part.pipes).foldl (fun s p =>
    let y := s.pipe p
    if y.busy ∧ y.ses = n then (s.freeAll ((y.au.map (·.bufs)).getD [])).pipeDrop p else s) s
  let s := ((x.dpb.filter fun q => x.waits.contains q.num) ++ x.ready).foldl (fun s q => s.refUnhold q.buf) s
  let s := match x.lastBuf with
    | some b => s.refUnhold b
    | none => s
  (if x.desc.isEmpty then s else s.refRelease (512 + n)).setDec n
    { DecSes.reset with pics := x.pics, concealed := x.concealed, drops := x.drops, waited := x.waited, auBytes := x.auBytes,
                        out := x.out }

/-- A session has no access unit left to decode, and no pipeline works on one of it. -/
def State.decDry (s : State) (n : Nat) : Bool :=
  (s.dec n).aus.isEmpty && (List.range s.part.pipes).all fun p => !((s.pipe p).busy && (s.pipe p).ses == n)

/-- The end of a stream that STOP has ended: once its last access unit is decoded, the pictures that still await output are output in
order of POC; AV1 pictures that were never shown are not (R174, R184; DEDUCED, assumption 110). -/
def State.decFlush (n : Nat) (s : State) : State :=
  let x := s.dec n
  if x.st = .stopping ∧ s.decDry n then
    let l := (x.dpb.filter fun q => x.waits.contains q.num).mergeSort fun a b => decide (a.order.toInt ≤ b.order.toInt)
    if dCodec x.desc = 3 then (l.foldl (fun s q => s.refUnhold q.buf) s).setDec n { x with waits := [] }
    else s.setDec n { x with waits := [], ready := x.ready ++ l }
  else s

/-- The register of a page of decode sessions that keeps a path's results. -/
def State.decEnd (b : CmdBy) (page n cmd code : Nat) (s : State) : State :=
  let s := if code = 0 ∨ code = 8 then s
    else
      let s := s.raiseErr .dec page 5 (Cap.obj n)
      if n < s.part.decSessions then s.decEvent n 3 3 [] code else s
  s.sesAnswer b (Reg.decSesResult page) n cmd code

/-- SETUP of a decode session (R174 to R176). -/
def State.decSetup (n addr : Nat) (s : State) : Nat × State :=
  if s.part.decSessions ≤ n then (2, s)
  else if (s.dec n).st ≠ .free ∧ (s.dec n).st ≠ .ready then (1, s)
  else
    match s.readBytes 0x122 0x0 addr 128 with
    | (none, s) => (3, s)
    | (some d, s) =>
      if !s.eeOk d then (3, s)
      else if !s.eePresent d then (7, s)
      else if !s.pipeServes (eePipe d) (dCodec d) then (5, s)
      else
        let s' := s.decFree n
        if !s'.refRoom (eeClass d) (eeBufs d) false then (6, s)
        else (0, ((if eeNet d then s'.slotUse [eeKey d] else s').refBind (512 + n) (eeClass d) (eeBufs d) false).setDec n
          { DecSes.reset with st := .ready, desc := d, key := s.srtpKey (eeKey d) })

/-- DEC_SETUP. -/
def execDecSetup (b : CmdBy) (page session : Nat) (s : State) : Result :=
  .next (if s.coreUp ∧ s.byStep b 5 1 session ∧ page < s.part.pipes then
    let (c, s) := s.decSetup session (s.cmdAddr b (Reg.decSesDescLo page))
    s.decEnd b page session 1 c else s)

/-- The load of a session in ns × pictures per 1,000 s (R183). -/
def State.eeLoad (s : State) (d : List Byte) : Nat := (4096 * s.clsW (eeClass d) * s.clsH (eeClass d) + 1500) * eeFps d

/-- The sum over a pipeline's admitted sessions (R183). -/
def State.pipeSum (s : State) (pipe : Nat) : Nat :=
  ((s.decs.filter fun e => (e.2.st == .running || e.2.st == .held || e.2.st == .stopping) && eePipe e.2.desc == pipe).map
    fun e => s.eeLoad e.2.desc).sum

/-- START (R174, R183). -/
def State.decStart (n : Nat) (s : State) : Nat × State :=
  let x := s.dec n
  if s.part.decSessions ≤ n then (2, s)
  else if x.st ≠ .ready ∨ !s.running then (1, s)
  else if 10 ^ 12 < s.pipeSum (eePipe x.desc) + s.eeLoad x.desc then (4, s)
  else (0, (s.setDec n { x with st := .running }).decEvent n 1 1 [] 0)

/-- DEC_START. -/
def execDecStart (b : CmdBy) (page session : Nat) (s : State) : Result :=
  .next (if s.coreUp ∧ s.byStep b 5 2 session ∧ page < s.part.pipes then
    let (c, s) := s.decStart session
    s.decEnd b page session 2 c else s)

/-- STOP (R174): input that has not formed a complete access unit is discarded. -/
def State.decStop (n : Nat) (s : State) : Nat × State :=
  let x := s.dec n
  if s.part.decSessions ≤ n then (2, s)
  else
    match x.st with
    | .ready => (0, s.decFree n)
    | .running | .held =>
      (0, (((s.freeAll x.inBufs).freeAll (x.rtp.filterMap (·.buf))).setDec n
        { x with st := .stopping, input := [], inBufs := [], inLost := false, rtp := [], net := [] }).decFlush n)
    | _ => (1, s)

/-- DEC_STOP. -/
def execDecStop (b : CmdBy) (page session : Nat) (s : State) : Result :=
  .next (if s.coreUp ∧ s.byStep b 5 3 session ∧ page < s.part.pipes then
    let (c, s) := s.decStop session
    s.decEnd b page session 3 c else s)

/-- A decode session ends: its event is raised as FREE, then everything is released. -/
def State.decQuit (n typ : Nat) (s : State) : State := (s.decEvent n typ typ [] 0).decFree n

/-- ABORT (R57, R174). -/
def State.decAbort (n : Nat) (s : State) : Nat × State :=
  if s.part.decSessions ≤ n then (2, s) else if (s.dec n).st = .free then (1, s) else (0, s.decQuit n 7)

/-- DEC_ABORT. -/
def execDecAbort (b : CmdBy) (page session : Nat) (s : State) : Result :=
  .next (if s.coreUp ∧ s.byStep b 5 4 session ∧ page < s.part.pipes then
    let (c, s) := s.decAbort session
    s.decEnd b page session 4 c else s)

/-- Nothing of a session is left to decode, to output or to deliver (R174). -/
def State.decSpent (s : State) (n : Nat) : Bool :=
  s.decDry n && (s.dec n).waits.isEmpty && (s.dec n).ready.isEmpty

/-- DEC_SESSION_STOPPED (R174). -/
def execDecSessionStopped (session : Nat) (s : State) : Result :=
  .next (if s.coreUp ∧ (s.dec session).st = .stopping ∧ s.decSpent session then s.decQuit session 2 else s)

/-- An eviction of a decode session (R445). -/
def State.decEvict (n pgId : Nat) (s : State) : State :=
  if (s.dec n).st = .free then s
  else (s.send .session (1536 + n) (.sesRec 0x0B 3 (List.replicate 32 0 ++ leBytes 4 pgId ++ List.replicate 4 0))).decFree n

/-! ## Access units (R179) -/

/-- The offsets of NAL units in a byte stream: where each start code begins and where the unit's header stands. -/
def nalStarts : Nat → List Byte → List (Nat × Nat)
  | _, [] => []
  | i, b :: t =>
    if (b :: t).take 4 = [0x00, 0x00, 0x00, 0x01] then (i, i + 4) :: (nalStarts (i + 1) t).filter fun e => e.1 != i + 1
    else if (b :: t).take 3 = [0x00, 0x00, 0x01] then (i, i + 3) :: nalStarts (i + 1) t
    else nalStarts (i + 1) t

/-- What a NAL unit says of access units: a delimiter; a coded slice, and whether it is a picture's first; a unit that comes before a
picture's slices; or another. -/
inductive NalKind where
  | aud | slice (first : Bool) | before | other
  deriving DecidableEq

/-- The kind of a NAL unit from its bytes; HEVC units of another layer than 0 say nothing (R177). -/
def nalKind (codec : Nat) (u : List Byte) : NalKind :=
  let b := (u.getD 0 0).toNat
  if codec = 1 then
    let t := b % 32
    if t = 9 then .aud else if 1 ≤ t ∧ t ≤ 5 then .slice (decide (128 ≤ (u.getD 1 0).toNat))
    else if (6 ≤ t ∧ t ≤ 8) ∨ (14 ≤ t ∧ t ≤ 18) then .before else .other
  else
    let t := b / 2 % 64
    if b % 2 ≠ 0 ∨ 8 ≤ (u.getD 1 0).toNat then .other
    else if t = 35 then .aud else if t < 32 then .slice (decide (128 ≤ (u.getD 2 0).toNat))
    else if t ≤ 34 ∨ t = 39 ∨ (41 ≤ t ∧ t ≤ 44) ∨ (48 ≤ t ∧ t ≤ 55) then .before else .other

/-- Where the stream shows that the next access unit begins (R179): at a delimiter, or where a first slice of a new picture follows the
last slice, at the first unit before it that belongs to it. -/
def nalCut (codec : Nat) (l : List Byte) : List (Nat × Nat) → Bool → Option Nat → Option Nat
  | [], _, _ => none
  | (o, h) :: t, seen, after =>
    match nalKind codec (slice l h 3) with
    | .aud => if o = 0 then nalCut codec l t seen after else some (after.getD o)
    | .slice first => if seen ∧ first then some (after.getD o) else nalCut codec l t true none
    | .before => nalCut codec l t seen (if seen then some (after.getD o) else none)
    | .other => nalCut codec l t seen after

/-- The same for AV1: a second temporal delimiter. -/
def obuCut : Nat → List Byte → Nat → Option Nat
  | 0, _, _ => none
  | _, [], _ => none
  | fuel + 1, h :: t, o =>
    let x := h.toNat / 4 % 2
    let (v, n) := readLeb 8 (t.drop x)
    if h.toNat / 8 % 16 = 2 ∧ o ≠ 0 then some o else obuCut fuel (t.drop (x + n + v)) (o + 1 + x + n + v)

/-- The first byte of the next access unit in a stream. -/
def auCut (codec : Nat) (l : List Byte) : Option Nat :=
  if codec = 3 then obuCut l.length l 0 else nalCut codec l (nalStarts 0 l) false none

/-- 8 MiB (R179). -/
def auMost : Nat := 8388608

/-- The Hopper buffers that a stream's first `k` bytes use up, and those left; one used in part stays, with what is left in it. -/
def bufCut : Nat → List Buf → List Buf × List Buf
  | _, [] => ([], [])
  | k, b :: t => if b.len ≤ k then (b :: (bufCut (k - b.len) t).1, (bufCut (k - b.len) t).2) else ([], { b with len := b.len - k } :: t)

/-- INPUT_LOST, at most once for the access unit that is being formed (R187; assumption 111). -/
def State.inputLost (n : Nat) (s : State) : State :=
  let x := s.dec n
  if x.inLost then s else (s.setDec n { x with inLost := true }).decEvent n 6 6 [] 0

/-- A complete access unit joins its session's queue with its first 8 MiB (R179); a tail beyond them is discarded. -/
def State.auDone (n : Nat) (bytes : List Byte) (bufs : List Buf) (s : State) : State :=
  let s := if auMost < bytes.length then s.inputLost n else s
  let x := s.dec n
  s.setDec n { x with aus := x.aus ++ [⟨bytes.take auMost, s.tick, bytes.length, bufs⟩]
                      auBytes := min bytes.length 0xFFFFFF, inLost := false }

/-- Access units that the input shows complete; the rest of the input stays in its buffers. -/
def State.auSplit (n : Nat) : Nat → State → State
  | 0, s => s
  | fuel + 1, s =>
    let x := s.dec n
    match auCut (dCodec x.desc) x.input with
    | none => s
    | some k =>
      if k = 0 then s
      else
        let bs := bufCut k x.inBufs
        ((s.setDec n { x with input := x.input.drop k, inBufs := bs.2 }).auDone n (x.input.take k) bs.1).auSplit n fuel

/-- Stream bytes of a WRITE step for a SOURCE 0 session; `last` completes the access unit (R179). -/
def State.decInput (n : Nat) (bytes : List Byte) (buf : Option Buf) (last : Bool) (s : State) : State :=
  let x := s.dec n
  let s := s.setDec n { x with input := x.input ++ bytes, inBufs := x.inBufs ++ buf.toList }
  let s := s.auSplit n (x.input.length + bytes.length)
  let y := s.dec n
  if last ∧ !y.input.isEmpty then (s.setDec n { y with input := [], inBufs := [] }).auDone n y.input y.inBufs else s

/-! ## RTP (R180) -/

/-- The RTP header's length: fixed part, CSRCs and extension. -/
def rtpHead (l : List Byte) : Nat :=
  let b := beAt l 0 1
  let h := 12 + 4 * (b % 16)
  if bitOf b 4 then h + 4 + 4 * beAt l (h + 2) 2 else h

/-- Padding at the end of a payload is taken off. -/
def unpad (b0 : Nat) (l : List Byte) : List Byte := if bitOf b0 5 then l.take (l.length - (l.getLastD 0).toNat) else l

/-- The extended number of a sequence number, nearest to a known one; the first of a session is counted from 65,536, so that earlier
ones have a number too. -/
def extendSeq (near : Option Nat) (seq : Nat) : Nat :=
  match near with
  | none => 65536 + seq
  | some m =>
    let base := 65536 * (m / 65536) + seq
    if m + 32768 < base ∧ 65536 ≤ base then base - 65536 else if base + 32768 < m then base + 65536 else base

/-- The SRTP packet index of an extended number. -/
def srtpIndex (ext : Nat) : Nat := (ext + 2 ^ 48 - 65536) % 2 ^ 48

/-- A packet is discarded and counted (R180), and with it input is lost (R187). -/
def State.rtpDrop (n : Nat) (s : State) : State :=
  let x := s.dec n
  (s.setDec n { x with drops := sat32 (x.drops + 1) }).inputLost n

/-- A start code. -/
def startCode : List Byte := [0x00, 0x00, 0x00, 0x01]

/-- The units of an aggregation packet. -/
def apUnits : Nat → List Byte → List Byte
  | 0, _ => []
  | fuel + 1, l =>
    if l.length < 2 then [] else startCode ++ slice l 2 (beAt l 0 2) ++ apUnits fuel (l.drop (2 + beAt l 0 2))

/-- A payload of a type that R180 takes. -/
def rtpTaken (codec : Nat) (l : List Byte) : Bool :=
  let b := beAt l 0 1
  if codec = 1 then decide (1 ≤ b % 32 ∧ b % 32 ≤ 24) || b % 32 == 28
  else if codec = 2 then decide (b / 2 % 64 ≤ 49)
  else true

/-- A fragment of a unit: whether it is the first and the last, the unit's header, and its bytes. -/
def fuOf (codec : Nat) (l : List Byte) : Option (Bool × Bool × List Byte × List Byte) :=
  let b := beAt l 0 1
  if codec = 1 ∧ b % 32 = 28 then
    some (bitOf (beAt l 1 1) 7, bitOf (beAt l 1 1) 6, [byte (b / 32 * 32 + beAt l 1 1 % 32)], l.drop 2)
  else if codec = 2 ∧ b / 2 % 64 = 49 then
    some (bitOf (beAt l 2 1) 7, bitOf (beAt l 2 1) 6, [byte (b / 128 * 128 + beAt l 2 1 % 64 * 2 + b % 2), l.getD 1 0], l.drop 3)
  else none

/-- A payload of whole units as stream bytes: a single unit or an aggregation. -/
def nalWhole (codec : Nat) (l : List Byte) : List Byte :=
  let b := beAt l 0 1
  if codec = 1 ∧ b % 32 = 24 then apUnits l.length (l.drop 1)
  else if codec = 2 ∧ b / 2 % 64 = 48 then apUnits l.length (l.drop 2)
  else startCode ++ l

/-- The stream bytes of AVC or HEVC payloads in order; a unit of which a fragment is missing is missing (R180). -/
def nalJoin (codec : Nat) : List (Nat × List Byte) → Option (Nat × List Byte) → List Byte
  | [], _ => []
  | (q, l) :: t, part =>
    match fuOf codec l with
    | none => nalWhole codec l ++ nalJoin codec t none
    | some (first, last, head, body) =>
      match (if first then some (head ++ body) else match part with
        | some (m, u) => if m = q then some (u ++ body) else none
        | none => none) with
      | none => nalJoin codec t none
      | some u => if last then startCode ++ u ++ nalJoin codec t none else nalJoin codec t (some (q + 1, u))

/-- The elements of an AV1 payload after its aggregation header: `w` of them, or length-prefixed. -/
def av1Elems : Nat → Nat → List Byte → List (List Byte)
  | 0, _, _ => []
  | fuel + 1, w, l =>
    if l.isEmpty then []
    else if w = 1 then [l]
    else
      let (v, k) := readLeb 8 l
      slice l k v :: av1Elems fuel (if w = 0 then 0 else w - 1) (l.drop (k + v))

/-- An OBU element as stored, with its size. -/
def obuStore (u : List Byte) : List Byte :=
  let h := (u.getD 0 0).toNat
  let x := h / 4 % 2
  [byte (h / 4 * 4 + 2 + h % 2)] ++ slice u 1 x ++ leb128 8 (u.length - 1 - x) ++ u.drop (1 + x)

/-- The OBUs of AV1 payloads in order; one of which a fragment is missing is missing. -/
def av1Join : List (Nat × List Byte) → Option (Nat × List Byte) → List Byte
  | [], _ => []
  | (q, l) :: t, part =>
    let a := beAt l 0 1
    let es := av1Elems l.length (a / 16 % 4) (l.drop 1)
    -- the first element, with what came before it where it goes on from there
    let lead : Option (List Byte) := if bitOf a 7 then (match part with
        | some (m, u) => if m = q then some (u ++ es.headD []) else none
        | none => none) else some (es.headD [])
    let whole := (if bitOf a 6 then es.tail.dropLast else es.tail).flatMap obuStore
    let open_ := bitOf a 6
    if es.length ≤ 1 ∧ open_ then av1Join t (lead.map fun u => (q + 1, u))
    else (match lead with
      | some u => if u.isEmpty then [] else obuStore u
      | none => []) ++ whole ++ av1Join t (if open_ then some (q + 1, es.getLastD []) else none)

/-- The access unit of RTP payloads in order (R180). -/
def rtpUnit (codec : Nat) (l : List (Nat × List Byte)) : List Byte :=
  if codec = 3 then [0x12, 0x00] ++ av1Join l none else nalJoin codec l none

/-- Closes the access unit that the first `k` waiting packets form; packets of other types are discarded. -/
def State.rtpClose (n k : Nat) (s : State) : State :=
  let x := s.dec n
  let c := dCodec x.desc
  let l := x.rtp.take k
  let good := l.filter fun p => rtpTaken c p.bytes
  let bad := l.filter fun p => !rtpTaken c p.bytes
  let next := ((l.getLast?).map fun p => p.seq + 1)
  let s := s.setDec n { x with rtp := x.rtp.drop k, rtpNext := if next.isSome then next else x.rtpNext }
  let s := bad.foldl (fun s _ => s.rtpDrop n) (s.freeAll (bad.filterMap (·.buf)))
  s.auDone n (rtpUnit c (good.map fun p => (p.seq, p.bytes))) (good.filterMap (·.buf))

/-- The number of waiting packets up to the first with the marker, where every packet before it is present. -/
def rtpReady : Option Nat → List DecRtp → Option Nat
  | _, [] => none
  | next, p :: t =>
    if (match next with
        | some m => p.seq != m
        | none => false) then none
    else if p.marker then some 1 else (rtpReady (some (p.seq + 1)) t).map (· + 1)

/-- A packet in its place of the order. -/
def rtpInsert (p : DecRtp) : List DecRtp → List DecRtp
  | [] => [p]
  | q :: t => if p.seq < q.seq then p :: q :: t else q :: rtpInsert p t

/-- Closes every access unit that is complete. -/
def State.rtpCloseAll (n : Nat) : Nat → State → State
  | 0, s => s
  | fuel + 1, s =>
    match rtpReady (s.dec n).rtpNext (s.dec n).rtp with
    | some k => (s.rtpClose n k).rtpCloseAll n fuel
    | none => s

/-- DEC_RTP_PACKET (R180). -/
def State.rtpPacket (n : Nat) (s : State) : State :=
  let x := s.dec n
  match x.net with
  | [] => s
  | (p, at_) :: rest =>
    let s := s.setDec n { x with net := rest }
    let d := x.desc
    let h := rtpHead p
    let seq := extendSeq (match x.rtpNext with
      | some m => some m
      | none => x.rtp.head?.map (·.seq)) (beAt p 2 2)
    let k := x.key
    let iv := xorBytes ([0, 0] ++ beBytes 4 (eeSsrc d) ++ beBytes 6 (srtpIndex seq)) (srtpDerive k 2 12)
    let sealed_ := (p.drop h).take (p.length - h - 16)
    let ok := decide (beAt p 0 1 / 64 = 2 ∧ beAt p 8 4 = eeSsrc d ∧ beAt p 1 1 % 128 = eePt d ∧ h + 16 ≤ p.length) && eeNet d
    let fresh := !(x.rtp.any fun q => q.seq == seq) && (match x.rtpNext with
      | some m => decide (m ≤ seq)
      | none => true)
    match (if ok ∧ fresh then gcmOpened (srtpDerive k 0 32) iv (p.take h) sealed_ (p.drop (p.length - 16)) else none) with
    | none => s.rtpDrop n
    | some body =>
      let body := unpad (beAt p 0 1) body
      match s.poolFor body.length with
      | none => s.rtpDrop n
      | some pool =>
        match s.hopTry pool (eeOwner d) body.length with
        | (none, s) => s.rtpDrop n
        | (some b, s) =>
          let s := s.writeLines (0x40 + eePipe d) 0x1 (s.bufAddr b) body
          let x := s.dec n
          let q : DecRtp := { seq := seq, ts := beAt p 4 4, marker := decide (128 ≤ beAt p 1 1), bytes := body, time := at_, buf := some b }
          (s.setDec n { x with rtp := rtpInsert q x.rtp }).rtpCloseAll n (x.rtp.length + 1)

/-- Input is taken in every state but FREE and READY. -/
def DecSes.takes (x : DecSes) : Bool := x.st == .running || x.st == .held

/-- DEC_RTP_PACKET. -/
def execDecRtpPacket (session : Nat) (s : State) : Result :=
  .next (if s.coreUp ∧ (s.dec session).takes then s.rtpPacket session else s)

/-- DEC_REORDER_TIMEOUT (R180): REORDER_US has passed since the first packet of the oldest access unit arrived. -/
def State.rtpTimeout (n : Nat) (s : State) : State :=
  let x := s.dec n
  match x.rtp with
  | [] => s
  | p :: _ =>
    let l := x.rtp.takeWhile fun q => q.ts == p.ts
    let first := (l.map (·.time)).min?.getD p.time
    ((s.reach (first + usTicks (eeReorder x.desc))).rtpClose n l.length).rtpCloseAll n x.rtp.length

/-- DEC_REORDER_TIMEOUT. -/
def execDecReorderTimeout (session : Nat) (s : State) : Result :=
  .next (if s.coreUp ∧ (s.dec session).takes then s.rtpTimeout session else s)

/-! ## Pictures (R167 to R171, R178, R182) -/

/-- A session has a buffer free for a new picture. -/
def State.decHasBuf (s : State) (n : Nat) : Bool :=
  (s.rses (512 + n)).bufs.any fun k => let b := s.rbuf k; !b.temp && !b.short && !b.long && b.held == 0

/-- The session whose access unit a pipeline takes: the oldest, ties to the lower index (R182). -/
def State.decPick (s : State) (p : Nat) : Option (Nat × DecAu) :=
  (s.decs.filterMap fun e =>
    if eePipe e.2.desc = p ∧ (e.2.st = .running ∨ e.2.st = .stopping) ∧ s.decHasBuf e.1 ∧ s.pipeServes p (dCodec e.2.desc) then
      (e.2.aus.head?).map fun a => (e.1, a) else none).foldl
    (fun best e => match best with
      | none => some e
      | some m => if e.2.time < m.2.time then some e else best) none

/-- The sequence lies within R177, the session's LEVEL and class, and needs at most NBUF − 1 pictures (R178; what the descriptor and the
class bound DEDUCED, assumption 112). -/
def State.decSeqOk (s : State) (d : List Byte) (q : DecSeq) : Bool :=
  let c := dCodec d
  let g := eeClass d
  profileOk c q.profile q.depth && !q.high && !q.field && !q.large &&
  (q.chroma == 1 || (q.chroma == 0 && (c != 2 || q.profile == 1))) && (q.depth == 8 || s.clsB g == 2) &&
  decide (128 ≤ q.width ∧ q.width ≤ 8192 ∧ 96 ≤ q.height ∧ q.height ≤ 4320 ∧ q.width ≤ 64 * s.clsW g ∧ q.height ≤ 64 * s.clsH g ∧
    q.level ≤ df d 0x00 15 8 ∧ q.dpb + 1 ≤ eeBufs d) &&
  (match levelOf c q.level with
   | some l => l.fits c q.width q.height
   | none => false)

/-- How long a picture occupies its pipeline, in ns (R182). -/
def decNs (codec : Nat) (h : DecHead) : Nat :=
  max (4096 * ceilDiv h.seq.width 64 * ceilDiv h.seq.height 64)
    (if codec = 3 then ceilDiv (10 * h.bins) 7 else ceilDiv (5 * (2 * h.bins + h.vlc)) 14) + 1500

/-- The references that the decoder keeps and the last picture are SHORT; the others of the session lose their marks. -/
def State.decMarks (n : Nat) (keeps : List Nat) (last : Option Nat) (s : State) : State :=
  (s.rses (512 + n)).bufs.foldl (fun s k =>
    let b := s.rbuf k
    if b.temp then s else s.setRbuf k { b with short := (b.short || some k == last) && (keeps.contains b.frame || some k == last) }) s

/-- The output process (R184): pictures it releases wait for delivery, one output before as a repeat; one that is neither output nor
awaits output is HELD no more. `w` awaited output until now. -/
def State.decOutput (n : Nat) (h : DecHead) (w : List Nat) (s : State) : State :=
  let x := s.dec n
  let outs := h.outputs.eraseDups.filterMap fun k => x.dpb.find? fun q => q.num == k
  let s := outs.foldl (fun s q => if w.contains q.num then s else s.refHold q.buf) s
  let gone := x.dpb.filter fun q => w.contains q.num && !h.waits.contains q.num && !h.outputs.contains q.num
  let s := gone.foldl (fun s q => s.refUnhold q.buf) s
  let waits := w.filter fun k => h.waits.contains k && !h.outputs.contains k
  s.setDec n { x with
    waits := waits, ready := x.ready ++ outs.map fun q => { q with flags := q.flags + b2n q.shown }
    dpb := (x.dpb.filter fun q => h.keeps.contains q.num || waits.contains q.num || x.num == q.num + 1).map fun q =>
      if h.outputs.contains q.num then { q with shown := true } else q }

/-- The end of a frame of an access unit: the unit waits for its next frame, or its buffers are freed. -/
def State.auNext (n : Nat) (a : DecAu) (more : Bool) (s : State) : State :=
  if more then s.setDec n { s.dec n with aus := a :: (s.dec n).aus } else (s.freeAll a.bufs).decFlush n

/-- A buffer filled with mid-grey, 2^(d−1) in every component (R167). -/
def State.decGrey (p n depth : Nat) (s : State) : Option Nat × State :=
  match s.refTake (512 + n) (s.dec n).num (s.dec n).num with
  | (none, s) => (none, s)
  | (some k, s) =>
    let c := keyCls k
    (some k, s.writeLines (0x40 + p) 0x1 (s.bufBase k)
      ((List.replicate (6144 * s.clsBlocks c) (leBytes (s.clsB c) (2 ^ (depth - 1)))).flatten))

/-- The buffer of a picture that a session holds as a reference. -/
def State.decRef (s : State) (n : Nat) (num : Option Nat) : Option Nat :=
  match num with
  | none => none
  | some k => ((s.dec n).dpb.find? fun q => q.num == k && (s.rbuf q.buf).short && (s.rbuf q.buf).frame == k).map (·.buf)

/-- A pipeline takes a picture (R153, R167, R182): a buffer for it, and its references, which it holds; for one that the session does
not hold the pool supplies the last decoded picture, or mid-grey where there is none. -/
def State.decTake (p n : Nat) (a : DecAu) (h : DecHead) (s : State) : State :=
  let x := s.dec n
  match s.refTake (512 + n) x.num x.num with
  | (none, _) => s
  | (some b, s) =>
    let got := h.refs.map (s.decRef n)
    let subst := got.any (·.isNone)
    let (g, s) := if subst ∧ x.lastBuf = none then s.decGrey p n h.seq.depth else (none, s)
    let refs := got.filterMap fun o => o.orElse fun _ => x.lastBuf.orElse fun _ => g
    let s := refs.eraseDups.foldl (fun s k => s.refHold k) (s.setDec n { x with aus := x.aus.tail })
    s.setPipe p { s.pipe p with busy := true, ses := n, buf := b, au := some a, head := some h, refs := refs, subst := subst, grey := g,
                                since := s.tick, bad := [], answers := [] }

/-- DEC_PICTURE_START (R178, R182, R184): the pipeline takes the oldest access unit. One of an unsupported sequence is discarded
undecoded; a show_existing_frame outputs its picture again; one without a picture is only consumed. -/
def State.decStartPic (p : Nat) (h : Option DecHead) (s : State) : State :=
  if s.accepts .dec p ∧ p < s.part.pipes ∧ (s.pipe p).busy = false ∧ (s.pipe p).lost = false ∧ s.memServes then
    match s.decPick p with
    | none => s
    | some (n, a) =>
      let x := s.dec n
      let rest := s.setDec n { x with aus := x.aus.tail }
      match h with
      | none => rest.auNext n a false
      | some h =>
        if !s.decSeqOk x.desc h.seq then ((rest.raiseErr .dec p 4 (Cap.obj n)).decEvent n 5 5 [] 0).auNext n a false
        else
          match h.shows with
          | none => s.decTake p n a h
          | some k => ((rest.decMarks n h.keeps x.lastBuf).decOutput n { h with outputs := [k] } x.waits).auNext n a h.more
  else s

/-- DEC_PICTURE_START. -/
def execDecPictureStart (pipe : Nat) (h : Option DecHead) (s : State) : Result := .next (s.decStartPic pipe h)

/-! ## Concealment (R168) -/

/-- The units of a slice or tile that decode correctly: those before the first whose syntax fails, whose data lies beyond 8 MiB or in a
line that failed, and no unit of a CABAC slice under AVC-CAVLC-DEC (R168, R179, R181). -/
def DecSlice.sound (size : Nat) (bad : List Nat) (noCabac : Bool) (x : DecSlice) : List Nat :=
  if noCabac && x.cabac then []
  else (((x.units.take x.good).zipIdx).takeWhile fun e => match x.data[e.2]? with
    | some (o, l) => decide (size ≤ auMost ∨ o ≤ auMost) && !bad.contains l
    | none => true).map (·.1)

/-- The units beside a unit: above, left, below and right. -/
def unitsBeside (wide n u : Nat) : List Nat :=
  (if wide ≤ u then [u - wide] else []) ++ (if u % wide = 0 then [] else [u - 1]) ++ (if u + wide < n then [u + wide] else []) ++
  (if (u + 1) % wide = 0 then [] else [u + 1])

/-- One component of the motion of a concealed unit from its candidates' (of four, the mean of the middle two, toward zero: DEDUCED,
assumption 113). -/
def concealMv (l : List Int) : Int :=
  let m := l.mergeSort fun a b => decide (a ≤ b)
  match m with
  | [] => 0
  | [a] => a
  | [a, b] => (a + b).tdiv 2
  | [_, a, _] => a
  | _ => (m.getD 1 0 + m.getD 2 0).tdiv 2

/-- A coordinate of a reference picture, held to its edges. -/
def atEdge (v : Int) (n : Nat) : Nat := min v.toNat (n - 1)

/-- The prediction of a square of `side` samples at (x, y) from samples `f` of a plane of `w` by `h`, displaced by a motion vector in
units of 1/`den` sample. -/
def predict (f : Nat → Nat → Nat) (filter : Nat → Nat → List Nat → List Nat) (side w h den x y : Nat) (mx my : Int) : List Nat :=
  let win := fun (lo n : Nat) => (List.range n).flatMap fun j => (List.range n).map fun i =>
    f (atEdge (x + mx / den + i - lo) w) (atEdge (y + my / den + j - lo) h)
  if mx % den = 0 ∧ my % den = 0 then win 0 side else filter (mx % den).toNat (my % den).toNat (win 3 (side + 7))

/-- A luma sample of a buffer. -/
def State.lumaVal (s : State) (k x y : Nat) : Nat := leNat (s.mem.bytesAt (s.lumaAt k x y) (s.clsB (keyCls k)))

/-- A chroma sample of a buffer: component 0 Cb, 1 Cr. -/
def State.chromaVal (s : State) (k c x y : Nat) : Nat :=
  let b := s.clsB (keyCls k)
  leNat (s.mem.bytesAt (s.chromaAt k x y + c * b) b)

/-- Conceals one unit: the copy of ref0 at its motion is written to the picture's buffer, with no residual and no filter. -/
def State.concealUnit (p codec k ref : Nat) (q : DecSeq) (u : Nat) (mv : Int × Int) (s : State) : State :=
  let wide := ceilDiv q.width 16
  let x := u % wide
  let y := u / wide
  let b := s.clsB (keyCls k)
  let den := if codec = 3 then 8 else 4
  let luma := predict (s.lumaVal ref) (Config.mcLuma codec) 16 q.width q.height den (16 * x) (16 * y) mv.1 mv.2
  let part := fun c => predict (s.chromaVal ref c) (Config.mcChroma codec) 8 (ceilDiv q.width 2) (ceilDiv q.height 2) (2 * den) (8 * x) (8 * y)
    mv.1 mv.2
  let cb := part 0
  let cr := part 1
  let s := (List.range 16).foldl (fun s i =>
    s.writeBytes (0x40 + p) 0x1 (s.lumaAt k (16 * x) (16 * y + i)) ((slice luma (16 * i) 16).flatMap (leBytes b))) s
  if q.chroma = 0 then s
  else (List.range 8).foldl (fun s i =>
    s.writeBytes (0x40 + p) 0x1 (s.chromaAt k (8 * x) (8 * y + i))
      (((slice cb (8 * i) 8).zip (slice cr (8 * i) 8)).flatMap fun v => leBytes b v.1 ++ leBytes b v.2)) s

/-- Conceals the corrupt units of a picture in raster order (R168). -/
def State.conceal (p codec k ref : Nat) (q : DecSeq) (sound : List Nat) (moves : List (Nat × Int × Int)) (s : State) : State :=
  let wide := ceilDiv q.width 16
  let n := wide * ceilDiv q.height 16
  ((List.range n).filter fun u => !sound.contains u).foldl (fun s u =>
    let cands := (unitsBeside wide n u).filterMap fun v => if sound.contains v then moves.lookup v else none
    s.concealUnit p codec k ref q u (concealMv (cands.map (·.1)), concealMv (cands.map (·.2)))) s

/-- Writes the decoded samples and motion of a picture to its buffer (R148, R150). -/
def State.decStore (p k : Nat) (q : DecSeq) (r : DecodeOutcome) (s : State) : State :=
  let m := 0x40 + p
  let b := s.clsB (keyCls k)
  let s := (List.range q.height).foldl (fun s i =>
    s.putLine m 64 b (fun x => s.lumaAt k x i) (q.width / 64 + 2) 0 ((slice r.y (q.width * i) q.width).map fun v => [v])) s
  let h := ceilDiv q.width 2
  let s := if q.chroma = 0 then s else (List.range (ceilDiv q.height 2)).foldl (fun s i =>
    s.putLine m 32 b (fun x => s.chromaAt k x i) (q.width / 64 + 2) 0
      (((slice r.cb (h * i) h).zip (slice r.cr (h * i) h)).map fun v => [v.1, v.2])) s
  let wide := ceilDiv q.width 16
  (List.range (wide * ceilDiv q.height 16)).foldl (fun s u =>
    s.writeBytes m 0x1 (s.motionAt k (u % wide) (u / wide)) (padTo 16 (slice r.field (16 * u) 16))) s

/-- The status word of R170. -/
def decStatus (subst grey : Bool) (units : Nat) (inh : Bool) : Nat :=
  let c := subst || decide (0 < units) || inh
  b2n c + 2 * b2n (subst && !grey) + 4 * b2n (subst && grey) + 8 * b2n (decide (0 < units)) + 16 * b2n inh +
    65536 * min units 0xFFFF

/-- The record of a picture without what its delivery adds (R186). -/
def picRecord (p : DecPic) (slot us : Nat) : List Byte :=
  leBytes 4 p.num ++ leBytes 4 p.status ++ leBytes 2 p.width ++ leBytes 2 p.height ++ [byte slot, byte p.flags, 0, 0] ++
  leBytes 8 p.auTime ++ leBytes 4 p.order.toNat ++ leBytes 4 us

/-- A decoded picture's samples stand in its buffer, corrupt units concealed from ref0: its first reference, or what R167 supplies for
the session (R168). A buffer supplied only for the copy is HELD during it, and mid-grey made for it is given back. -/
def State.decSamples (p n k codec : Nat) (q : DecSeq) (sound : List Nat) (r : DecodeOutcome) (s : State) : State :=
  let y := s.pipe p
  let s := s.decStore p k q r
  if (List.range (ceilDiv q.width 16 * ceilDiv q.height 16)).all sound.contains then s
  else
    match y.refs.head?.orElse fun _ => (s.dec n).lastBuf with
    | some ref => ((s.refHold ref).conceal p codec k ref q sound r.moves).refUnhold ref
    | none =>
      match s.decGrey p n q.depth with
      | (some ref, s) => (((s.refHold ref).conceal p codec k ref q sound r.moves).refUnhold ref).refUnmark ref
      | (none, s) => s

/-- A picture has decoded (R167 to R171, R184): its samples, its status, its marks, and the pictures that the output process releases. -/
def State.decDonePic (p n buf : Nat) (a : DecAu) (h : DecHead) (r : DecodeOutcome) (s : State) : State :=
  let y := s.pipe p
  let x := s.dec n
  let c := dCodec x.desc
  let q := h.seq
  let noCabac := c == 1 && (match s.imageAt 2 p with
    | some i => i.id == 0x12
    | none => false)
  let sound := r.slices.flatMap (DecSlice.sound a.size y.bad noCabac)
  let units := ((List.range (ceilDiv q.width 16 * ceilDiv q.height 16)).filter fun u => !sound.contains u).length
  let cause := y.subst || decide (0 < units)
  let inh := y.refs.any (fun k => (s.rbuf k).concealed) && (cause || !(h.key || (h.recovers && c != 3)))
  let st := decStatus y.subst y.grey.isSome units inh
  let conc := cause || inh
  let pic : DecPic := { num := x.num, buf := buf, status := st, cropX := h.cropX, cropY := h.cropY, width := h.width, height := h.height,
                        depth := q.depth, flags := 2 * b2n h.grain + 4 * b2n (q.chroma == 0), auTime := a.time, order := h.order,
                        shown := false }
  let s := (s.decSamples p n buf c q sound r).pipeDrop p
  let s := s.setDec n { s.dec n with num := x.num + 1, pics := (x.pics + 1) % 2 ^ 32, dpb := x.dpb ++ [pic], lastBuf := some buf
                                     conc := conc, concealed := if conc then sat32 (x.concealed + 1) else x.concealed }
  let s := s.setRbuf buf { s.rbuf buf with temp := false, short := true, concealed := conc }
  let s := (s.refHold buf).refHold buf
  let s := match x.lastBuf with
    | some b => s.refUnhold b
    | none => s
  let s := ((s.decMarks n h.keeps (some buf)).decOutput n h (x.waits ++ [pic.num])).wrap (Reg.decPics p) 1
  let s := if 0 < units then s.raiseErr .dec p 3 (Cap.obj n) else s
  let s := if conc then s.bump Reg.refConcealed else s
  let rec_ := picRecord pic 0 0
  let s := if cause then (s.raiseErr .refpool 0 5 (Cap.obj n)).decEvent n 0x31 9 rec_ 0 else s
  if cause ∧ x.conc = false then s.decEvent n 0x30 8 rec_ 0 else s

/-- A decode session without a picture in decode becomes HELD in DRAIN (R174). -/
def State.decHold (n : Nat) (s : State) : State :=
  let x := s.dec n
  if x.st = .running ∧ (List.range s.part.pipes).all (fun p => !((s.pipe p).busy && (s.pipe p).ses == n)) then
    s.setDec n { x with st := .held } else s

/-- The picture in progress is decoded again from its access unit (R188, R495). -/
def State.picAgain (p : Nat) (s : State) : State := s.setPipe p { s.pipe p with since := s.tick, bad := [], answers := [] }

/-- DEC_PICTURE_DONE: the picture's time has passed (R182). -/
def State.decEndPic (p : Nat) (r : DecodeOutcome) (s : State) : State :=
  let y := s.pipe p
  match y.au, y.head with
  | some a, some h =>
    let c := dCodec (s.dec y.ses).desc
    if s.serves .dec p y.since ∧ y.busy ∧ s.memServes ∧ s.pipeServes p c then
      let s := (((s.reach (y.since + nsTicks (decNs c h))).decDonePic p y.ses y.buf a h r)).auNext y.ses a h.more
      if s.dev.mode = .drain then s.decHold y.ses else s
    else s
  | _, _ => s

/-- DEC_PICTURE_DONE. -/
def execDecPictureDone (pipe : Nat) (r : DecodeOutcome) (s : State) : Result := .next (s.decEndPic pipe r)

/-! ## Delivery (R184 to R186) -/

/-- The delivery engine of a pipeline, while one is named (R184). -/
def State.decDma (s : State) (p : Nat) : Option Nat :=
  let v := s.reg (Reg.decCtl p)
  if flag v 7 ∧ (s.dma (fld v 4 0)).retired = false then some (fld v 4 0) else none

/-- DEC_CONS_POLL (R185): the consumer count is read before picture n is written, and again every 2 µs while it lags. -/
def State.consPoll (n : Nat) (s : State) : State :=
  let x := s.dec n
  let d := x.desc
  let behind := match x.polled with
    | some c => decide (eeSlots d ≤ (x.out + 2 ^ 32 - c) % 2 ^ 32)
    | none => false
  if x.ready.isEmpty ∨ eeCons d = 0 ∨ (x.polled.isSome ∧ !behind) then s
  else
    let s := if behind then s.reach (x.pollAt + usTicks 2) else s
    let wait := if behind then sat32 (x.waited + 2) else x.waited
    let got := fun (l : List Byte) (s : State) =>
      s.setDec n { s.dec n with polled := some (leNat l), pollAt := s.tick, waited := wait }
    match eeSpace d with
    | none =>
      match s.readBytes (0x40 + eePipe d) 0x0 (eeCons d) 4 with
      | (some l, s) => got l s
      | (none, s) => s
    | some k =>
      match s.extRead k (eeCons d) 4 with
      | (.got l, s) => got l s
      | (.wait, s) => s.emit (.read k (eeCons d) 4)
      | (.fail, s) => s

/-- DEC_CONS_POLL. -/
def execDecConsPoll (session : Nat) (s : State) : Result :=
  .next (if s.coreUp ∧ (s.dec session).st ≠ .free then s.consPoll session else s)

/-- A stored sample value of a depth as an output sample's bytes (R184): stage 7 of R82 takes 10 bits to 8. -/
def outSample (depth layout v : Nat) : List Byte :=
  if layout = 8 then [byte (if depth = 8 then v else min 255 ((4 * v + 8) / 16))]
  else leBytes 2 ((if depth = 8 then 4 * v else v) * 64)

/-- Writes output bytes through the engine. -/
def State.outWrite (e : Nat) (d : List Byte) (a : Nat) (l : List Byte) (s : State) : State :=
  match eeSpace d with
  | none => s.writeBytes (0x180 + e) 0x1 a l
  | some k =>
    let mps := ((s.linkOfSpace k).map fun n => (s.link n).mps).getD 128
    (s.dstExt k mps [(a, l.length)] l).2.2

/-- The luma samples of an output line of a picture, and the chroma samples, mid-grey for 4:0:0 (R178, R184). -/
def State.outLuma (s : State) (q : DecPic) (layout y : Nat) : List Byte :=
  (List.range q.width).flatMap fun x => outSample q.depth layout (s.lumaVal q.buf (q.cropX + x) (q.cropY + y))

@[inherit_doc State.outLuma]
def State.outChroma (s : State) (q : DecPic) (layout y : Nat) : List Byte :=
  (List.range (ceilDiv q.width 2)).flatMap fun x => (List.range 2).flatMap fun c =>
    outSample q.depth layout (if bitOf q.flags 2 then 2 ^ (q.depth - 1) else s.chromaVal q.buf c (q.cropX / 2 + x) (q.cropY / 2 + y))

/-- The consumer has room for the next picture (R185). -/
def DecSes.hasRoom (x : DecSes) : Bool :=
  eeCons x.desc == 0 || (match x.polled with
    | some c => decide ((x.out + 2 ^ 32 - c) % 2 ^ 32 < eeSlots x.desc)
    | none => false)

/-- DEC_DELIVERY_DONE (R184 to R186): the next output picture, its record, and its event. A picture counts as one transfer of its engine
(DESIGN CHOICE, assumption 128). -/
def State.deliver_ (n : Nat) (s : State) : State :=
  let x := s.dec n
  let d := x.desc
  match x.ready, s.decDma (eePipe d) with
  | q :: rest, some e =>
    if x.hasRoom ∧ s.accepts .dma e ∧ (s.dma e).retired = false ∧ s.memServes then
      let slot := x.out % max 1 (eeSlots d)
      let base := eeBase d + slot * eeStride d
      let cb := base + eePitch d * 64 * s.clsH (keyCls q.buf)
      let s := (List.range q.height).foldl (fun s y => s.outWrite e d (base + eePitch d * y) (s.outLuma q (eeLayout d) y)) s
      let s := (List.range (ceilDiv q.height 2)).foldl (fun s y => s.outWrite e d (cb + eePitch d * y) (s.outChroma q (eeLayout d) y)) s
      let r := picRecord q slot (sat32 ((s.tick - q.auTime) / 1250))
      let s := s.outWrite e d (eeRecBase d + 32 * (x.out % 2 ^ eeRec d)) r
      let size := (q.width * q.height + 2 * (ceilDiv q.width 2 * ceilDiv q.height 2)) * (if eeLayout d = 9 then 2 else 1)
      let s := s.setDma e { s.dma e with lastCode := 0, lastDone := size, lastOwner := .pipe (eePipe d) }
      let s := ((s.wrap (Reg.dmaXfers e) 1).add64 (Reg.dmaBytesLo e) size).refUnhold q.buf
      let y := s.dec n
      (s.setDec n { y with ready := rest, out := (y.out + 1) % 2 ^ 32, polled := none }).decEvent n 4 4 r 0
    else s
  | _, _ => s

/-- DEC_DELIVERY_DONE. -/
def execDecDeliveryDone (session : Nat) (s : State) : Result :=
  .next (if s.coreUp ∧ (s.dec session).st ≠ .free then s.deliver_ session else s)

/-- DEC_CTL_WRITE (R184): an engine that another enabled page or an enabled channel names is refused. -/
def State.decCtl (p : Path) (n : Nat) (v : Word) (s : State) : State :=
  let e := fld v 4 0
  let taken := (List.range s.part.pipes).any (fun k => k != n && flag (s.reg (Reg.decCtl k)) 7 && fld (s.reg (Reg.decCtl k)) 4 0 == e) ||
    s.chans.any (fun c => flag c.2.cfg 0 && c.2.dma == e)
  if flag v 7 ∧ taken then s.raiseErr .dec n 6 (Cap.reg p (Reg.decCtl n)) else s.setReg (Reg.decCtl n) (v &&& 0x9F#32)

/-- DEC_CTL_WRITE. -/
def execDecCtlWrite (p : Path) (pipe : Nat) (value : Word) (s : State) : Result :=
  .next (if s.coreTakes p ∧ pipe < s.part.pipes then s.decCtl p pipe value else s)

end Sys2Proof.Machine
end

