-- ==== Sys2Proof/Machine/NvmeOps.lean ====
section
/-!
DEFINITION. NVMe controllers behind root ports: bring-up, commands in flight, completions, timeouts and resets (R312 to
R318).
-/

namespace Sys2Proof.Machine

/-- A 16-bit value. -/
def half (n : Nat) : BitVec 16 := BitVec.ofNat 16 n

/-- An event sets its EP bit of a pawl, whatever E holds (R361). -/
def State.pawlEvent (n k : Nat) (s : State) : State :=
  if n < s.part.quads then s.setPawl n { s.pawl n with ep := (s.pawl n).ep ||| half (2 ^ k) } else s

/-- NVME_CTL.CMD_TIMEOUT_MS, where 0 acts as 1 (R319). -/
def State.nvmeTimeout (s : State) (q : Nat) : Nat := msTicks (max 1 (fld (s.reg (Reg.nvmeCtl q)) 31 16))

/-- NVME_CTL.QPAIRS, 1 to 16 (R319); a value outside acts as the nearest (DESIGN CHOICE, assumption 122). -/
def State.nvmePairs (s : State) (q : Nat) : Nat := min 16 (max 1 (fld (s.reg (Reg.nvmeCtl q)) 4 0))

/-- NVME_CTL.QDEPTH_LOG2, 5 to 10 (R319); a value outside acts as the nearest (DESIGN CHOICE, assumption 122). -/
def State.nvmeDepth (s : State) (q : Nat) : Nat := min 10 (max 5 (fld (s.reg (Reg.nvmeCtl q)) 11 8))

/-- The most bytes of one command: min(2^MDTS × 4 KiB, 1 MiB) (R315). -/
def Nvme.most (x : Nvme) : Nat := min (2 ^ (12 + min 8 x.mdts)) (2 ^ 20)

/-- A submission queue has room: one entry fewer than its slots, the admin queues having 32 (R312, R315). An entry is taken as free once
its command has completed (DEDUCED, assumption 123). -/
def State.nvmeRoom (s : State) (q pair : Nat) : Bool :=
  let n := ((s.nvme q).cmds.filter fun e => e.2.sent && e.2.pairNo == pair).length
  decide (n + 1 < if pair = 0 then 32 else 2 ^ s.nvmeDepth q)

/-- The commands that wait go to their submission queues, in order, while the controller is READY and the queue has room (R315, R317). -/
def State.nvmePump (q : Nat) (s : State) : State :=
  if (s.nvme q).st = .ready then
    ((s.nvme q).cmds).foldl (fun s e =>
      if e.2.sent = false ∧ s.nvmeRoom q e.2.pairNo then
        s.setNvme q { s.nvme q with cmds := Tbl.set (s.nvme q).cmds e.1 { e.2 with sent := true, issued := s.tick } }
      else s) s
  else s

/-- The link of page `q` is an enabled root port that is up and serves (R298, R444). -/
def State.rootUp (s : State) (q : Nat) : Bool :=
  s.coreUp && s.linkEn q && s.linkRole q == 3 && (s.link q).up && !(s.link q).dead && !(s.pawl q).dead && (s.pawl q).running

/-- The step that a command serves, while the channel's step is still on its NVMe commands. -/
def State.nvmeRun (s : State) (c : Nat) : Option StepRun :=
  (s.chan c).run.bind fun r => if r.phase = .nvme then some r else none

/-- One of a step's commands has ended. -/
def State.nvmeLeft (c : Nat) (f : StepRun → StepRun) (s : State) : State :=
  match s.nvmeRun c with
  | none => s
  | some r =>
    let r := f { r with left := r.left - 1 }
    s.setRun c (some (if r.left = 0 then { r with phase := .moved } else r))

/-- A command ends its step with a code; the step's other commands run to completion (R316, R317). -/
def State.nvmeFail (c code detail : Nat) (s : State) : State :=
  s.nvmeLeft c fun r => if r.fin.isNone then { r with fin := some ⟨code, detail, r.done⟩ } else r

/-- Removes a command. -/
def State.nvmeDrop (q cid : Nat) (s : State) : State :=
  s.setNvme q { s.nvme q with cmds := Tbl.erase (s.nvme q).cmds cid }

/-- A command is issued again while its step's RETRY is not spent (R316, R317). -/
def State.nvmeAgain (q cid : Nat) (x : NvmeCmd) (s : State) : Option State :=
  match s.nvmeRun x.chan with
  | none => none
  | some r =>
    if r.spent < r.step.retry then
      some ((s.setNvme q { s.nvme q with cmds := Tbl.set (s.nvme q).cmds cid { x with sent := false, aborted := false } }).setRun
        x.chan (some { r with spent := r.spent + 1 }))
    else none

/-- What a reset does to one command in flight: it is reissued, or its step ends with NVME_TIMEOUT or NVME_RESET; the data
of a stopped step's command is gone with it (R317, R322). -/
def State.nvmeResetCmd (q : Nat) (e : Nat × NvmeCmd) (late : Option Nat) (s : State) : State :=
  match s.nvmeAgain q e.1 e.2 with
  | some s => s
  | none => (s.nvmeDrop q e.1).nvmeFail e.2.chan (if late = some e.1 then 0x11 else 0x12) 0

/-- Every command of a controller that has FAILED ends its step with NS_FAILED (R317). -/
def State.nvmeDead (q : Nat) (s : State) : State :=
  (s.nvme q).cmds.foldl (fun s e => (s.nvmeDrop q e.1).nvmeFail e.2.chan 0x13 0) s

/-- The pawl resets the controller (R317): RESETTING and R312 again, or FAILED at the third reset within 60 s. `late` is the
command whose timeout asked for it. -/
def State.nvmeReset (q : Nat) (late : Option Nat) (s : State) : State :=
  let x := s.nvme q
  if x.st = .down ∨ x.st = .failed then s
  else
    let near := x.resets.filter fun t => decide (s.tick ≤ t + secTicks 60)
    let s := s.addSat (Reg.nvmeResets q) 16 1
    if 2 ≤ near.length then
      ((s.setNvme q { x with st := .failed, resets := s.tick :: near }).nvmeDead q).raiseErr .pcie q 5 Cap.none
    else
      let s := s.setNvme q { x with st := .resetting, resets := s.tick :: near }
      x.cmds.foldl (fun s e => s.nvmeResetCmd q e late) s

/-- Max Payload Size at a root port: the largest that both ends support, up to 512 bytes (R494). -/
def State.rootPayload (q code : Nat) (s : State) : State :=
  let l := s.link q
  let w := l.cfgWord cfgDevCtl
  s.setLink q { l with cfg := Tbl.set l.cfg cfgDevCtl ((w &&& ~~~0xE0#32) ||| word (32 * min 2 code)) }

/-- NVME_CONTROLLER_INIT (R312): READY with what the controller answered, or FAILED; commands that waited for READY go out (R317). -/
def State.nvmeInit (q : Nat) (ans : Option NvmeIdentity) (s : State) : State :=
  let x := s.nvme q
  if s.rootUp q ∧ (x.st = .init ∨ x.st = .resetting) then
    match ans with
    | none => (s.setNvme q { x with st := .failed }).nvmeDead q
    | some a =>
      ((s.rootPayload q a.payload).setNvme q
        { x with st := .ready, pairs := max 1 (min (s.nvmePairs q) a.granted), nn := a.namespaces.length, mdts := a.mdts,
                 spaces := a.namespaces.zipIdx.map fun e => (e.2 + 1, e.1) }).nvmePump q
  else s

/-- NVME_CONTROLLER_INIT. -/
def execNvmeControllerInit (q : Nat) (ans : Option NvmeIdentity) (s : State) : Result := .next (s.nvmeInit q ans)

/-- The Millrace queues work for a pawl: a work record, and EP[2] (R361, R362). The index that the record has in the region of R313 is
free. -/
def State.pawlWork (q : Nat) (s : State) : State :=
  ((s.setPawl q { s.pawl q with work := (s.pawl q).work ++ [s.freeBelow 65535] }).spend).pawlEvent q 2

/-- A step's command goes to a controller; the pawl gives it its CID (R314, R315). -/
def State.nvmeIssue (q : Nat) (x : NvmeCmd) (s : State) : State :=
  let n := s.nvme q
  (s.setNvme q { n with cmds := Tbl.set n.cmds n.nextCid x, nextCid := (n.nextCid + 1) % 65536 }).nvmePump q

/-- A command moves data from the controller: bit 1 of its opcode. -/
def NvmeCmd.reads (x : NvmeCmd) : Bool := bitOf x.opcode 1

/-- A command ends with success: what it read joins the step's data, and DONE grows; a SUBMIT keeps dword 0 (R315, R343). -/
def State.nvmeOk (x : NvmeCmd) (st : NvmeStatus) (s : State) : State :=
  s.nvmeLeft x.chan fun r =>
    let data := if x.reads then r.data.take x.offset ++ padTo x.len st.data ++ r.data.drop (x.offset + x.len) else r.data
    { r with data := data, done := if r.step.op = 7 then st.dw0.toNat else r.done + x.len }

/-- A command that stands in its submission queue. -/
def Nvme.live (x : Nvme) (cid : Nat) : Option NvmeCmd := (Tbl.get? x.cmds cid).filter (·.sent)

/-- NVME_COMPLETION (R316). -/
def State.nvmeComplete (q cid : Nat) (st : NvmeStatus) (s : State) : State :=
  match (s.nvme q).live cid with
  | none => s
  | some x =>
    let s := s.wrap (Reg.nvmeCmds q) 1
    if st.status = 0 then (s.nvmeDrop q cid).nvmeOk x st
    else
      let s := s.bump (Reg.nvmeErrs q)
      match (if st.dnr then none else s.nvmeAgain q cid x) with
      | some s => s
      | none => (s.nvmeDrop q cid).nvmeFail x.chan 0x10 st.status.toNat

/-- NVME_COMPLETION. -/
def execNvmeCompletion (q cid : Nat) (st : NvmeStatus) (s : State) : Result :=
  .next (if s.rootUp q then (s.nvmeComplete q cid st).nvmePump q else s)

/-- A command passes CMD_TIMEOUT_MS (R317): an Abort first, and then the controller is reset. -/
def State.nvmeLate (q cid : Nat) (s : State) : State :=
  match (s.nvme q).live cid with
  | none => s
  | some x =>
    let s := s.reach (x.issued + s.nvmeTimeout q)
    if x.aborted then s.nvmeReset q (some cid)
    else s.setNvme q { s.nvme q with cmds := Tbl.set (s.nvme q).cmds cid { x with aborted := true, issued := s.tick } }

/-- NVME_CMD_TIMEOUT (R317): a command is late; with no command, CSTS.CFS has become 1 and the controller is reset. -/
def execNvmeCmdTimeout (q : Nat) (cid : Option Nat) (s : State) : Result :=
  .next (if s.rootUp q then
    (match cid with
      | some k => s.nvmeLate q k
      | none => s.nvmeReset q none)
  else s)

/-- A root port's link is up: the pawl configures the device and starts R312 (R309, R312). -/
def State.nvmeBegin (q : Nat) (s : State) : State :=
  let s := s.emit (.rootSetup q 0x10000000000 0x1FFFFFFF000)
  let x := s.nvme q
  if x.st = .down then s.setNvme q { x with st := .init } else s

/-! ## Link loss (R307, R317) -/

/-- What a link that goes down leaves: its function's configuration space is reset, and the pawl hears of it (R307, R361). -/
def State.linkLost (n : Nat) (s : State) : State :=
  (s.setLink n { Link.reset with dead := (s.link n).dead }).pawlEvent n 3

/-- A link goes down (R307, R317, R319): LINK_DOWN of an enabled link; a root port's controller is reset. -/
def State.linkDown (n : Nat) (s : State) : State :=
  if (s.link n).up then
    let s := s.linkLost n
    let s := if s.linkEn n then s.raiseErr .pcie n 3 Cap.none else s
    if s.linkRole n = 3 then s.nvmeReset n none else s
  else s

end Sys2Proof.Machine
end

