-- ==== Sys2Proof/Machine/Pawl.lean ====
section
/-!
DEFINITION. Pawls: registers, traps, ports, the root-port interface, every instruction, and images (R360 to R362, R368).
-/

namespace Sys2Proof.Machine

/-- Vk of a pawl. -/
def Pawl.vr (x : Pawl) (k : Nat) : BitVec 16 := Tbl.getD x.v k 0
/-- Writes Vk. -/
def Pawl.setV (x : Pawl) (k : Nat) (a : BitVec 16) : Pawl := { x with v := Tbl.set x.v k a }
/-- The program word at an address; words not loaded read 0xFFF (R357). -/
def Pawl.wordAt (x : Pawl) (a : Nat) : BitVec 12 := Tbl.getD x.prog (a % 4096) 0xFFF
/-- A 64-bit value from four 16-bit port registers, low part first (R362). -/
def quadAddr (t : Tbl (BitVec 16)) : Nat :=
  (List.range 4).foldl (fun a k => a + (Tbl.getD t k 0).toNat * 65536 ^ k) 0

/-- The master ID of a pawl (R471). -/
def pawlMaster (n : Nat) : Nat := 0x160 + n

/-- A pawl starts at word 0 (R360, R362). -/
def Pawl.restart (x : Pawl) : Pawl :=
  { x with pc := 0, stack := [], imms := [], first := none, trap := false, sleep := false, twait := false }

/-- A trap (R353, R360): vector 1 for every cause, the cause in port 0x02; a double trap restarts the pawl with DTRAP, and
its image then resets its controller (R317). -/
def State.pawlTrap (n cause : Nat) (s : State) : State :=
  let x := s.pawl n
  let s := s.bump (Reg.pawlTraps n)
  if x.trap then ((s.setPawl n x.restart).raiseErr .pawl n 2 Cap.none).nvmeReset n none
  else s.setPawl n { x with tpc := x.first.getD x.pc, tnext := (x.pc + 1) % 4096, tz := x.z, tc := x.c, tcause := cause,
                            trap := true, imms := [], first := none, pc := 1 }

/-- The instruction is done, and the pawl goes on at `pc`. -/
def Pawl.goto (x : Pawl) (pc : Nat) : Pawl := { x with pc := pc % 4096, imms := [], first := none }
/-- On to the next word. -/
def Pawl.adv (x : Pawl) : Pawl := x.goto (x.pc + 1)
/-- A branch target (R360). -/
def Pawl.target (x : Pawl) (off : Nat) : Nat := ((x.pc + 1 + immSigned 8 8 x.imms off) % 4096).toNat

/-- ALU functions (R360): Z and C. The spec gives no value of C after MOV, AND, OR and XOR: it is free. -/
def Pawl.alu (x : Pawl) (d s fn : Nat) (free : Bool) : Pawl :=
  let a := x.vr d
  let b := x.vr s
  let logic := fun (r : BitVec 16) => { x.setV d r with z := r == 0, c := free }
  let arith := fun (r : BitVec 16 × Flags) => { x.setV d r.1 with z := r.2.z, c := r.2.c }
  if fn = 0 then logic b
  else if fn = 1 then arith (addWith a b false)
  else if fn = 2 then arith (subWith a b)
  else if fn = 3 then logic (a &&& b)
  else if fn = 4 then logic (a ||| b)
  else if fn = 5 then logic (a ^^^ b)
  else if fn = 6 then { x with z := (subWith a b).2.z, c := (subWith a b).2.c }
  else if fn = 7 then { x.setV d (a <<< 1) with z := a <<< 1 == 0, c := a.getLsbD 15 }
  else { x.setV d (a >>> 1) with z := a >>> 1 == 0, c := a.getLsbD 0 }

/-- TSET functions at a time (R360). -/
def Pawl.tset (x : Pawl) (v fn now : Nat) : Pawl :=
  let k := (x.vr v).toNat
  if fn = 0 then { x with t := (now + k) % 2 ^ 64 }
  else if fn = 1 then { x with t := (now + 1024 * k) % 2 ^ 64 }
  else if fn = 2 then { x with t := (x.t + 1024 * k) % 2 ^ 64 }
  else x.setV v (half (min 65535 ((x.t - now) / 1024)))

/-- EV functions (R360). -/
def Pawl.ev (x : Pawl) (v fn : Nat) : Pawl :=
  if fn = 0 then { x with e := x.vr v }
  else if fn = 1 then x.setV v x.e
  else if fn = 2 then x.setV v x.ep
  else { x.setV v (x.ep &&& x.e) with ep := x.ep &&& ~~~x.e }

/-- What an IN or OUT does: a pawl, a trap with PORT, or a wait on a busy port. -/
inductive PawlRes where
  | ok (x : Pawl)
  | port
  | wait
  deriving DecidableEq, Repr

/-- IN (R362). Ports that only take values trap with PORT, as in R354. -/
def Pawl.inp (x : Pawl) (v port now : Nat) : PawlRes :=
  let put := fun (a : BitVec 16) => PawlRes.ok (x.setV v a)
  if port = 0x00 then put (half x.tpc)
  else if port = 0x01 then put (half x.tnext)
  else if port = 0x02 then put (half x.tcause)
  else if port = 0x03 then put (half (x.wordAt (x.tnext + 4095)).toNat)
  else if port = 0x04 then put 0
  else if port = 0x08 then .ok { x.setV v (half now) with timeLat := now }
  else if port < 0x0C ∧ 0x08 < port then put (half (x.timeLat / 65536 ^ (port - 0x08)))
  else if 0x10 ≤ port ∧ port ≤ 0x13 then put (Tbl.getD x.rqAddr (port - 0x10) 0)
  else if port = 0x14 ∨ port = 0x15 then put (Tbl.getD x.rqData (port - 0x14) 0)
  else if port = 0x17 then put (half (b2n x.rq.isSome + 2 * b2n x.rqErr))
  else if port = 0x18 then
    match x.msi with
    | [] => put 0xFFFF
    | q :: t => .ok { x.setV v (half q) with msi := t }
  else if port = 0x19 then
    match x.work with
    | [] => put 0xFFFF
    | q :: t => .ok { x.setV v (half q) with work := t }
  else if 0x1A ≤ port ∧ port ≤ 0x1D then put (Tbl.getD x.memAddr (port - 0x1A) 0)
  else if 0x20 ≤ port ∧ port ≤ 0x3F then if x.memCmd.isSome then .wait else put (Tbl.getD x.line (port - 0x20) 0)
  else .port

/-- OUT (R362): what it changes inside the pawl. Ports that only give values trap with PORT, as in R354. -/
def Pawl.outp (x : Pawl) (v port : Nat) : PawlRes :=
  let a := x.vr v
  if port = 0x01 then .ok { x with tnext := a.toNat % 4096 }
  else if 0x10 ≤ port ∧ port ≤ 0x13 then .ok { x with rqAddr := Tbl.set x.rqAddr (port - 0x10) a }
  else if port = 0x14 ∨ port = 0x15 then .ok { x with rqData := Tbl.set x.rqData (port - 0x14) a }
  else if port = 0x16 then
    if x.rq.isSome then .wait
    else if a = 1 ∨ a = 2 then .ok { x with rq := some a.toNat, rqErr := false } else .ok x
  else if 0x1A ≤ port ∧ port ≤ 0x1D then .ok { x with memAddr := Tbl.set x.memAddr (port - 0x1A) a }
  else if port = 0x1E then
    if x.memCmd.isSome then .wait
    else if a = 1 ∨ a = 2 then .ok { x with memCmd := some a.toNat } else .ok x
  else if 0x20 ≤ port ∧ port ≤ 0x3F then
    if x.memCmd.isSome then .wait else .ok { x with line := Tbl.set x.line (port - 0x20) a }
  else .port

/-- The outbound request that RQ_CMD issues, shown at the root port (R362). -/
def State.pawlIssue (n port : Nat) (s : State) : State :=
  let x := s.pawl n
  if port ≠ 0x16 then s
  else
    match x.rq with
    | some 1 => s.emit (.rootWrite n (quadAddr x.rqAddr)
        (word ((Tbl.getD x.rqData 0 0).toNat + 65536 * (Tbl.getD x.rqData 1 0).toNat)))
    | some 2 => s.emit (.rootRead n (quadAddr x.rqAddr))
    | _ => s

/-- An IN or OUT that answers, traps or waits. -/
def State.pawlPort (n : Nat) (r : PawlRes) (s : State) : State :=
  match r with
  | .ok x => s.setPawl n x.adv
  | .port => s.pawlTrap n 4
  | .wait => s

/-- SEV (R360): EP[4] of one pawl, or of every pawl for 31. -/
def State.pawlSev (target : Nat) (s : State) : State :=
  if target = 31 then (List.range s.part.quads).foldl (fun s q => s.pawlEvent q 4) s else s.pawlEvent target 4

/-- What the instruction at the PC does (R353, R360 to R362). -/
def State.pawlStep (n : Nat) (i : PawlIns) (s : State) : State :=
  let x := s.pawl n
  match i with
  | .pfx k =>
    if 2 ≤ x.imms.length then s.pawlTrap n 2
    else s.setPawl n { x with imms := x.imms ++ [k], first := some (x.first.getD x.pc), pc := (x.pc + 1) % 4096 }
  | i =>
    if i = .reserved then s.pawlTrap n 1
    else if x.imms ≠ [] ∧ !i.takesPfx then s.pawlTrap n 2
    else
      match i with
      | .nop => s.setPawl n x.adv
      | .ret =>
        match x.stack with
        | [] => s.pawlTrap n 5
        | a :: t => s.setPawl n ({ x with stack := t }.goto a)
      | .rett => s.setPawl n ({ x with trap := false, z := x.tz, c := x.tc }.goto x.tnext)
      | .wfe => s.setPawl n (if x.ep &&& x.e ≠ 0 then x.adv else { x with sleep := true })
      | .twait => s.setPawl n (if x.t ≤ s.tick then x.adv else { x with twait := true })
      | .ldi v k => s.setPawl n (x.setV v (half (immOf 8 6 x.imms k))).adv
      | .alu d b fn => (s.setPawl n (x.alu d b fn (s.freeBelow 2 == 1)).adv).spend
      | .addi v k => s.setPawl n (x.setV v (x.vr v + BitVec.ofInt 16 (immSigned 8 6 x.imms k))).adv
      | .inp v port => s.pawlPort n (x.inp v port s.tick)
      | .outp v port =>
        match x.outp v port with
        | .ok y => (s.setPawl n y.adv).pawlIssue n port
        | r => s.pawlPort n r
      | .branch k off =>
        let go := k == 0 || (k == 1 && x.z) || (k == 2 && !x.z)
        s.setPawl n (if go then x.goto (x.target off) else x.adv)
      | .call off =>
        if 4 ≤ x.stack.length then s.pawlTrap n 5
        else s.setPawl n ({ x with stack := (x.pc + 1) % 4096 :: x.stack }.goto (x.target off))
      | .sev t => (s.setPawl n x.adv).pawlSev t
      | .tset v fn => s.setPawl n (x.tset v fn s.tick).adv
      | .ev v fn => s.setPawl n (x.ev v fn).adv
      | _ => s

/-- A pawl runs: its image runs, it does not wait, its root port is not lost, and its page is not in reset. -/
def State.pawlActive (s : State) (n : Nat) : Bool :=
  let x := s.pawl n
  s.coreUp && s.clk.fclk && decide (n < s.part.quads) && x.running && !x.sleep && !x.twait && !x.dead &&
  !(s.pg (ordOf .pawl n)).resetting

/-- The pawl executes the word at its PC, if that is an instruction that `want` admits (assumption 5). -/
def State.pawlExec (want : PawlIns → Bool) (n : Nat) (s : State) : State :=
  let i := pawlDecode ((s.pawl n).wordAt (s.pawl n).pc)
  if s.pawlActive n ∧ want i then s.pawlStep n i else s

/-- PAWL_NOP. -/
def execPawlNop (n : Nat) (s : State) : Result :=
  .next (s.pawlExec (fun i => match i with | .nop => true | _ => false) n)
/-- PAWL_RET. -/
def execPawlRet (n : Nat) (s : State) : Result :=
  .next (s.pawlExec (fun i => match i with | .ret => true | _ => false) n)
/-- PAWL_RETT. -/
def execPawlRett (n : Nat) (s : State) : Result :=
  .next (s.pawlExec (fun i => match i with | .rett => true | _ => false) n)
/-- PAWL_WFE. -/
def execPawlWfe (n : Nat) (s : State) : Result :=
  .next (s.pawlExec (fun i => match i with | .wfe => true | _ => false) n)
/-- PAWL_TWAIT. -/
def execPawlTwait (n : Nat) (s : State) : Result :=
  .next (s.pawlExec (fun i => match i with | .twait => true | _ => false) n)
/-- PAWL_LDI. -/
def execPawlLdi (n : Nat) (s : State) : Result :=
  .next (s.pawlExec (fun i => match i with | .ldi _ _ => true | _ => false) n)
/-- PAWL_PFX. -/
def execPawlPfx (n : Nat) (s : State) : Result :=
  .next (s.pawlExec (fun i => match i with | .pfx _ => true | _ => false) n)
/-- PAWL_ALU. -/
def execPawlAlu (n : Nat) (s : State) : Result :=
  .next (s.pawlExec (fun i => match i with | .alu _ _ _ => true | _ => false) n)
/-- PAWL_ADDI. -/
def execPawlAddi (n : Nat) (s : State) : Result :=
  .next (s.pawlExec (fun i => match i with | .addi _ _ => true | _ => false) n)
/-- PAWL_IN. -/
def execPawlIn (n : Nat) (s : State) : Result :=
  .next (s.pawlExec (fun i => match i with | .inp _ _ => true | _ => false) n)
/-- PAWL_OUT. -/
def execPawlOut (n : Nat) (s : State) : Result :=
  .next (s.pawlExec (fun i => match i with | .outp _ _ => true | _ => false) n)
/-- PAWL_JMP. -/
def execPawlJmp (n : Nat) (s : State) : Result :=
  .next (s.pawlExec (fun i => match i with | .branch 0 _ => true | _ => false) n)
/-- PAWL_BZ. -/
def execPawlBz (n : Nat) (s : State) : Result :=
  .next (s.pawlExec (fun i => match i with | .branch 1 _ => true | _ => false) n)
/-- PAWL_BNZ. -/
def execPawlBnz (n : Nat) (s : State) : Result :=
  .next (s.pawlExec (fun i => match i with | .branch 2 _ => true | _ => false) n)
/-- PAWL_CALL. -/
def execPawlCall (n : Nat) (s : State) : Result :=
  .next (s.pawlExec (fun i => match i with | .call _ => true | _ => false) n)
/-- PAWL_SEV. -/
def execPawlSev (n : Nat) (s : State) : Result :=
  .next (s.pawlExec (fun i => match i with | .sev _ => true | _ => false) n)
/-- PAWL_TSET. -/
def execPawlTset (n : Nat) (s : State) : Result :=
  .next (s.pawlExec (fun i => match i with | .tset _ _ => true | _ => false) n)
/-- PAWL_EV. -/
def execPawlEv (n : Nat) (s : State) : Result :=
  .next (s.pawlExec (fun i => match i with | .ev _ _ => true | _ => false) n)
/-- PAWL_RESERVED_OPCODE. -/
def execPawlReservedOpcode (n : Nat) (s : State) : Result :=
  .next (s.pawlExec (fun i => match i with | .reserved => true | _ => false) n)

/-- A waiting pawl goes on. -/
def State.pawlResume (n : Nat) (s : State) : State :=
  s.setPawl n ({ s.pawl n with sleep := false, twait := false }.adv)

/-- PAWL_WFE_WAKE (R361): WFE continues once EP AND E is not zero. -/
def execPawlWfeWake (n : Nat) (s : State) : Result :=
  .next (if s.coreUp ∧ (s.pawl n).sleep ∧ (s.pawl n).ep &&& (s.pawl n).e ≠ 0 then s.pawlResume n else s)

/-- PAWL_TWAIT_EXPIRY (R361): TWAIT continues when TB_COUNT reaches T. -/
def execPawlTwaitExpiry (n : Nat) (s : State) : Result :=
  .next (if s.coreUp ∧ (s.pawl n).twait then (s.reach (s.pawl n).t).pawlResume n else s)

/-- PAWL_RQ_END (R361, R362): the outbound request has ended; a read leaves its data, and EP[5] is set. -/
def execPawlRqEnd (n : Nat) (data : Word) (ok : Bool) (s : State) : Result :=
  .next (match (s.pawl n).rq with
    | none => s
    | some k =>
      let x := s.pawl n
      let d := if k = 2 ∧ ok then Tbl.set (Tbl.set x.rqData 0 (half data.toNat)) 1 (half (data.toNat / 65536)) else x.rqData
      (s.setPawl n { x with rq := none, rqErr := !ok, rqData := d }).pawlEvent n 5)

/-- PAWL_MEM_DONE (R362, R405): the line buffer's read or write of part DRAM ends; a line that fails records LINE_UE and
leaves the buffer. -/
def State.pawlMem (n : Nat) (s : State) : State :=
  let x := s.pawl n
  let a := quadAddr x.memAddr
  let done := fun (s : State) => s.setPawl n { s.pawl n with memCmd := none }
  if !s.memServes then s
  else
    match x.memCmd with
    | none => s
    | some 1 =>
      match s.readLine (pawlMaster n) 0x0 a with
      | (none, s) => done s
      | (some l, s) => done (s.setPawl n { s.pawl n with line := (List.range 32).map fun k => (k, half (leAt l (2 * k) 2)) })
    | some _ => done (s.writeLine (pawlMaster n) 0x1 a ((List.range 32).flatMap fun k => leBytes 2 (Tbl.getD x.line k 0).toNat))

/-- PAWL_MEM_DONE. -/
def execPawlMemDone (n : Nat) (s : State) : Result := .next (s.pawlMem n)

/-- PAWL_IMG_LOAD (R362, R368): the load waits for the pawl to be in WFE or TWAIT with no outbound request in flight. -/
def execPawlImgLoad (p : Path) (n : Nat) (s : State) : Result :=
  .next (if s.coreTakes p ∧ n < s.part.quads ∧ (s.pawl n).loading = false then
    s.setPawl n { s.pawl n with loading := true, imgRes := 0 } else s)

/-- A pawl can be loaded now: it waits with no request in flight, or has no image that runs (R362). -/
def Pawl.loadable (x : Pawl) : Bool := (x.sleep || x.twait || !x.running) && x.rq.isNone

/-- PAWL_LOAD_DONE (R357, R362): the image is read and checked, and the pawl restarts at word 0 with it, or is left
without one, with LOAD_ERR. -/
def State.pawlLoadDone (n : Nat) (s : State) : State :=
  let x := s.pawl n
  if s.coreUp ∧ s.memServes ∧ x.loading ∧ x.loadable then
    let a := s.reg64 (Reg.pawlImgAddrLo n) / 64 * 64
    match s.imgRead a 3 4096 0 with
    | (code, h, b, s) =>
      let x := s.pawl n
      if code = 0 then
        s.setPawl n { x.restart with prog := imgWords 12 0 (leAt h 8 2) b, running := true, version := leAt h 5 2,
                                     dig := slice h 0x40 48, loading := false, imgRes := 0 }
      else
        (((s.setPawl n { x.restart with prog := [], running := false, version := 0, dig := [], loading := false,
                                        imgRes := code }).imgBad a code).raiseErr .pawl n 4 (Cap.mem a imgMaster 0x0))
  else s

/-- PAWL_LOAD_DONE. -/
def execPawlLoadDone (n : Nat) (s : State) : Result := .next (s.pawlLoadDone n)

end Sys2Proof.Machine
end

