-- ==== Sys2Proof/Machine/Decompress.lean ====
section
/-!
DEFINITION. The frames that asset runners decode (R209 to R212): Zstandard frames of RFC 8878 and LZ4 frames, header by header and block
by block. The formats are those of the standards that R209 and R210 name (PRESUMED, assumption 108); the contents of a compressed block
and the checksums are the standards' own functions, opaque here.
-/

namespace Sys2Proof

/-- A compressed Zstandard block (RFC 8878): tables and offsets that earlier blocks left, history, block; the bytes and what it leaves,
none where its data is bad (assumption 108). -/
opaque Config.zstdBlock : List Byte → List Byte → List Byte → Option (List Byte × List Byte)

/-- A formatted dictionary of RFC 8878: its tables and its content; none where it is bad (assumption 108). -/
opaque Config.zstdDict : List Byte → Option (List Byte × List Byte)

/-- A compressed LZ4 block: history, block; none where its data is bad (assumption 108). -/
opaque Config.lz4Block : List Byte → List Byte → Option (List Byte)

/-- XXH64 and XXH32 of bytes, with seed 0 (assumption 108). -/
opaque Config.xxh64 : List Byte → Nat
/-- XXH32. -/
opaque Config.xxh32 : List Byte → Nat

/-- The 1,024 bytes of a transform's state (R211): what it holds is stated, its layout is not (assumption 24). -/
opaque Config.xstateBytes : Machine.XForm → List Byte

end Sys2Proof

namespace Sys2Proof.Machine

/-- What a unit of a transform leaves: its code of R211, its bytes, whether the input ends with it, and the transform's state. -/
structure BlockOut where
  code  : Nat
  bytes : List Byte
  last  : Bool
  next  : XForm

/-- A unit that ends its transform with a code. -/
def blockBad (q : XForm) (code : Nat) : BlockOut := { code := code, bytes := [], last := true, next := q }

/-- The input of a transform from its place on. -/
def XForm.rest (q : XForm) : List Byte := q.input.drop q.pos
/-- The transform `n` bytes further on. -/
def XForm.skip (q : XForm) (n : Nat) : XForm := { q with pos := q.pos + n }

/-- Skippable frames at a transform's place, their magic 0x184D_2A50 to 0x184D_2A5F, are consumed (R209, R210); none where the input ends
inside one. -/
def XForm.skipFrames : Nat → XForm → Option XForm
  | 0, q => some q
  | fuel + 1, q =>
    let l := q.rest
    if 4 ≤ l.length ∧ leAt l 0 4 / 16 = 0x184D2A5 then
      if l.length < 8 ∨ l.length < 8 + leAt l 4 4 then none else (q.skip (8 + leAt l 4 4)).skipFrames fuel
    else some q

/-! ## Zstandard (R209) -/

/-- The Window_Size or Frame_Content_Size limit of R209: 8 MiB. -/
def zstdMost : Nat := 8388608

/-- The dictionary that a frame or its transform names, as the transform found it at its start (R212): 0 means none. -/
def XForm.dictFor (q : XForm) (id : Nat) : Option (Option (Nat × Nat)) :=
  if id = 0 then some none else (q.dicts.find? fun e => e.1 == id).map fun e => some e.2

/-- A parsed frame header: its length, the dictionary ID in force, its frame, and a code of R211. -/
structure FrameHead where
  len  : Nat
  dict : Nat
  frame : XFrame
  code : Nat

/-- A frame header that ends the transform. -/
def headBad (code : Nat) : FrameHead :=
  { len := 0, dict := 0, code := code
    frame := { outAt := 0, size := none, most := 0, alone := false, sumEach := false, sumAll := false, dict := [], tables := [] } }

/-- The header of a Zstandard frame. -/
def zstdHead (l : List Byte) (dflt outAt : Nat) : FrameHead :=
  if l.length < 5 then headBad (if 4 ≤ l.length ∧ leAt l 0 4 ≠ 0xFD2FB528 then 1 else 7)
  else if leAt l 0 4 ≠ 0xFD2FB528 then headBad 1
  else
    let f := leAt l 4 1
    let single := bitOf f 5
    let dn := if f % 4 = 3 then 4 else f % 4
    let sn := if f / 64 = 0 then b2n single else 2 ^ (f / 64)
    let wn := b2n (!single)
    let len := 5 + wn + dn + sn
    if l.length < len then headBad 7
    else
      let w := leAt l 5 1
      let base := 2 ^ (10 + w / 8)
      let size := leAt l (5 + wn + dn) sn + (if f / 64 = 1 then 256 else 0)
      let window := if single then size else base + base / 8 * (w % 8)
      let id := leAt l (5 + wn) dn
      { len := len, dict := if dn = 0 then dflt else id
        code := if bitOf f 3 then 4 else if zstdMost < window then 2 else 0
        frame := { outAt := outAt, size := if sn = 0 then none else some size, most := min window 131072, alone := false, sumEach := false
                   sumAll := bitOf f 2, dict := [], tables := [] } }

/-- A Zstandard frame ends: its size and its content checksum, the low 32 bits of XXH64, hold. -/
def zstdEnd (q : XForm) (f : XFrame) (out bytes : List Byte) : BlockOut :=
  let whole := out.drop f.outAt ++ bytes
  let l := q.rest
  if f.size.any (· ≠ whole.length) then blockBad q 4
  else if f.sumAll ∧ l.length < 4 then blockBad q 7
  else if f.sumAll ∧ leAt l 0 4 ≠ Config.xxh64 whole % 2 ^ 32 then blockBad q 5
  else
    let q := { q.skip (if f.sumAll then 4 else 0) with frame := none }
    { code := 0, bytes := bytes, last := q.rest.isEmpty, next := q }

/-- One block of a Zstandard frame: raw, RLE or compressed; type 3 is reserved. -/
def zstdBlock (q : XForm) (f : XFrame) (out : List Byte) : BlockOut :=
  let l := q.rest
  let h := leAt l 0 3
  let n := h / 8
  let typ := h / 2 % 4
  let need := 3 + (if typ = 1 then 1 else n)
  if l.length < 3 ∨ l.length < need then blockBad q 7
  else if typ = 3 ∨ f.most < n then blockBad q 4
  else
    let got := if typ = 0 then some (slice l 3 n, f.tables)
      else if typ = 1 then some (List.replicate n (l.getD 3 0), f.tables)
      else Config.zstdBlock f.tables (f.dict ++ out.drop f.outAt) (slice l 3 n)
    match got with
    | none => blockBad q 4
    | some (bytes, tables) =>
      let f := { f with tables := tables }
      let q := { q.skip need with frame := some f }
      if f.most < bytes.length then blockBad q 4
      else if h % 2 = 1 then zstdEnd q f out bytes
      else { code := 0, bytes := bytes, last := false, next := q }

/-! ## LZ4 (R210) -/

/-- The header of an LZ4 frame, version 01, with its header checksum. -/
def lz4Head (l : List Byte) (dflt outAt : Nat) : FrameHead :=
  if l.length < 7 then headBad (if 4 ≤ l.length ∧ leAt l 0 4 ≠ 0x184D2204 then 1 else 7)
  else if leAt l 0 4 ≠ 0x184D2204 then headBad 1
  else
    let f := leAt l 4 1
    let bd := leAt l 5 1
    let sn := if bitOf f 3 then 8 else 0
    let dn := if bitOf f 0 then 4 else 0
    let len := 7 + sn + dn
    if l.length < len then headBad 7
    else
      let k := bd / 16 % 8
      { len := len, dict := if dn = 0 then dflt else leAt l (6 + sn) 4
        code := if f / 64 ≠ 1 ∨ bitOf f 1 ∨ k < 4 ∨ bd / 128 = 1 ∨ bd % 16 ≠ 0 then 4
          else if leAt l (len - 1) 1 ≠ Config.xxh32 (slice l 4 (len - 5)) / 256 % 256 then 5 else 0
        frame := { outAt := outAt, size := if sn = 0 then none else some (leAt l 6 8), most := 2 ^ (8 + 2 * k), alone := bitOf f 5
                   sumEach := bitOf f 4, sumAll := bitOf f 2, dict := [], tables := [] } }

/-- An LZ4 frame ends: its content size equals its output, and its content checksum holds. -/
def lz4End (q : XForm) (f : XFrame) (out bytes : List Byte) : BlockOut :=
  let whole := out.drop f.outAt ++ bytes
  let l := q.rest
  if f.size.any (· ≠ whole.length) then blockBad q 4
  else if f.sumAll ∧ l.length < 4 then blockBad q 7
  else if f.sumAll ∧ leAt l 0 4 ≠ Config.xxh32 whole then blockBad q 5
  else
    let q := { q.skip (if f.sumAll then 4 else 0) with frame := none }
    { code := 0, bytes := bytes, last := q.rest.isEmpty, next := q }

/-- One block of an LZ4 frame with the end mark behind it, where that follows. A linked block reads the dictionary's last 64 KiB and the
frame's output as its history, an independent one the dictionary alone. -/
def lz4Block (q : XForm) (f : XFrame) (out : List Byte) : BlockOut :=
  let l := q.rest
  let h := leAt l 0 4
  let n := h % 2 ^ 31
  if l.length < 4 then blockBad q 7
  else if h = 0 then lz4End (q.skip 4) f out []
  else
    let sum := if f.sumEach then 4 else 0
    if f.most < n then blockBad q 4
    else if l.length < 4 + n + sum then blockBad q 7
    else
      let data := slice l 4 n
      if f.sumEach ∧ leAt l (4 + n) 4 ≠ Config.xxh32 data then blockBad q 5
      else
        let hist := if f.alone then f.dict else f.dict ++ out.drop f.outAt
        match if 2 ^ 31 ≤ h then some data else Config.lz4Block hist data with
        | none => blockBad q 4
        | some bytes =>
          let q := q.skip (4 + n + sum)
          if f.most < bytes.length then blockBad q 4
          else if 4 ≤ q.rest.length ∧ leAt q.rest 0 4 = 0 then lz4End (q.skip 4) f out bytes
          else { code := 0, bytes := bytes, last := false, next := q }

/-! ## A unit (R211, R212) -/

/-- The content and tables of a dictionary: formatted where its first word is 0xEC30_A437 and the format is Zstandard, else raw; LZ4
uses its last 64 KiB. -/
def dictContent (zstd : Bool) (l : List Byte) : Option (List Byte × List Byte) :=
  if zstd then (if leAt l 0 4 = 0xEC30A437 then Config.zstdDict l else some ([], l))
  else some ([], l.drop (l.length - 65536))

/-- One block in a frame. -/
def frameBlock (q : XForm) (f : XFrame) (out : List Byte) : BlockOut := if q.id = 0x21 then zstdBlock q f out else lz4Block q f out

end Sys2Proof.Machine
end

