-- ==== Sys2Proof/Machine/Runners.lean ====
section
/-!
DEFINITION. Runners: assignment, the image library, loads, image replacement, and the start and end of units of work
(R189 to R193, R201 to R207, R211, R214).
-/

namespace Sys2Proof.Machine

/-! ## Assignments (R189 to R192) -/

/-- A RUNNER_ASSIGN word. -/
def asgOf (w : Word) : Assign := ⟨fld w 1 0, fld w 7 3, fld w 11 8⟩

/-- RUNNER_ASSIGN[l] as written (R189). -/
def State.asked (s : State) (l : Nat) : Assign := asgOf (s.reg (Reg.runnerAssign l))

/-- A change of a logical runner waits (R190). -/
def State.asgWaits (s : State) (l : Nat) : Bool := s.asked l != s.assign l

/-- RUN_CTL.ASSET_MIN. -/
def State.assetMin (s : State) : Nat := fld (s.reg Reg.runCtl) 5 0

/-- ROLE of an image (R203). -/
def LibSlot.role (x : LibSlot) : Nat := x.word1 27 24

/-- Another logical runner holds a side and target, as written or in force (R17, R192). -/
def State.placeHeld (s : State) (l : Nat) (a : Assign) : Bool :=
  (a.side == 1 || a.side == 2) && (List.range s.part.runnersUse).any fun k => k != l &&
    (((s.asked k).side == a.side && (s.asked k).target == a.target) || ((s.assign k).side == a.side && (s.assign k).target == a.target))

/-- A write that R192 lets stand. -/
def State.asgOk (s : State) (l : Nat) (a : Assign) : Bool :=
  let others := (List.range s.part.runnersUse).filter (· != l)
  let assets := (others.filter fun k => (s.asked k).side == 3).length + b2n (a.side == 3)
  let used := (others.filter fun k => (s.asked k).side != 0).length + b2n (a.side != 0)
  !s.placeHeld l a && (a.side == 0 || ((s.lib a.lib).valid && (s.lib a.lib).role == a.side)) && decide (s.assetMin ≤ assets) &&
    decide (used ≤ s.part.runnersUse - s.runners.unmapped.length)

/-- RUNNER_ASSIGN_WRITE (R192): discarded with CFG, or pending. -/
def State.asgWrite (p : Path) (l : Nat) (v : Word) (s : State) : State :=
  if s.part.runnersUse ≤ l ∧ v = 0 then s
  else if l < s.part.runnersUse ∧ s.asgOk l (asgOf v) then s.setReg (Reg.runnerAssign l) (v &&& 0xFFB#32)
  else s.raiseErr .runners0 0 6 (Cap.reg p (Reg.runnerAssign l))

/-- RUNNER_ASSIGN_WRITE. -/
def execRunnerAssignWrite (p : Path) (l : Nat) (value : Word) (s : State) : Result :=
  .next (if s.coreTakes p then s.asgWrite p l value else s)

/-- Sessions that hold a stone or a pipeline in use (R191). -/
def State.asgHeld (s : State) (a : Assign) : Bool :=
  if a.side = 1 then s.sessions.any fun e => e.2.st != .free && (dStones e.2.desc).contains a.target
  else if a.side = 2 then s.decs.any fun e => e.2.st != .free && eePipe e.2.desc == a.target
  else false

/-- A tile of a session's frame is open: one of its segments has committed and its last has not (R207). -/
def Ses.tileOpen (x : Ses) (stone : Nat) : Bool :=
  match x.active with
  | none => false
  | some f => f.segs.any fun g => g.st == .committed && dStone x.desc g.col == stone &&
      !(f.segs.any fun h => h.st == .committed && h.col == g.col && h.row + 1 == (dUnit x.desc g.row).2)

/-- A stone-side runner may move to the image of another slot now (R207). -/
def State.imageMay (s : State) (stone old new : Nat) : Bool :=
  (s.lib old).word2 23 16 == (s.lib new).word2 23 16 || !(s.sessions.any fun e => e.2.tileOpen stone)

/-- The lowest-indexed SPARE (R206, R213). -/
def State.spareRunner (s : State) : Option Nat :=
  (List.range s.part.runnersPhys).find? fun n => (s.runner n).role == .spare

/-- A runner begins to load a slot (R205); it holds no image meanwhile. -/
def State.runLoad (n k : Nat) (s : State) : State :=
  if (s.lib k).valid then s.setRunner n { s.runner n with lib := none, loading := some k, inited := false }
  else s.setRunner n { s.runner n with lib := none, loading := none, inited := false }

/-- RUN_SPARE_LIB. -/
def State.spareLib (s : State) : Nat := fld (s.reg Reg.runSpareLib) 3 0

/-- Spares that do not hold RUN_SPARE_LIB load it. -/
def State.spareLoad (s : State) : State :=
  (List.range s.part.runnersPhys).foldl (fun s n =>
    let x := s.runner n
    if x.role = .spare ∧ x.lib ≠ some s.spareLib ∧ x.loading ≠ some s.spareLib ∧ (s.lib s.spareLib).valid
    then s.runLoad n s.spareLib else s) s

/-- A waiting change of a logical runner takes effect: ASSIGN_DONE (R190). -/
def State.asgDone (l : Nat) (s : State) : State :=
  { s with runners := { s.runners with force := Tbl.set s.runners.force l (s.asked l) } }.raiseInt .runners0 0 2 0

/-- Maps a logical runner to a physical one. -/
def State.runMap (l n : Nat) (s : State) : State :=
  { s with runners := { s.runners with map := Tbl.set s.runners.map l n,
                                       unmapped := s.runners.unmapped.filter (· != l) } }.setRunner n
    { s.runner n with role := .usable, logical := l }

/-- A change that needs a new image on a runner that holds work (R206). -/
def State.asgReplaces (s : State) (l : Nat) : Bool :=
  s.asgWaits l && (s.assign l).side != 0 && (s.asked l).side != 0 &&
    match s.runnerOf l with
    | some n => (s.runner n).lib != some (s.asked l).lib
    | none => false

/-- The next stage of a replacement on a spare (R206, R207): the lowest SPARE loads the new image while the old runner goes on, one
replacement at a time by logical index; at a boundary between units the logical runner moves to it. -/
def State.asgReplace (l n m : Nat) (s : State) : State :=
  let old := s.assign l
  let new := s.asked l
  if (List.range l).any s.asgReplaces then s
  else if (s.runner m).lib ≠ some new.lib then (if (s.runner m).loading = some new.lib then s else s.runLoad m new.lib)
  else if (s.runner n).busy ∨ (old.side = 1 ∧ s.imageMay old.target old.lib new.lib = false) then s
  else
    let s := (s.runMap l m).setRunner n { s.runner n with role := .spare, logical := 0 }
    (s.asgDone l).runLoad n s.spareLib

/-- RUNNER_ASSIGN_APPLY (R190, R191, R206, R207): the next stage of a waiting change. A change of place, any change of a pipeline's
runner (R181), and a reload in place wait while a session uses the stone or pipeline; a target that another runner still has in force
waits for it (R17). -/
def State.asgApply (l : Nat) (s : State) : State :=
  let old := s.assign l
  let new := s.asked l
  let held := s.asgHeld old || s.asgHeld new
  let moves := old.side ≠ new.side ∨ old.target ≠ new.target
  match s.runnerOf l with
  | none => s
  | some n =>
    let x := s.runner n
    let keep := decide moves || old.side == 2 || new.side == 2
    if !s.asgWaits l || x.loading.isSome || (keep && held) || s.placeHeld l new then s
    else if new.side ≠ 0 ∧ x.lib ≠ some new.lib ∧ s.asgReplaces l ∧ s.spareRunner.isSome then s.asgReplace l n (s.spareRunner.getD 0)
    else if x.busy then s
    else if new.side = 0 ∨ x.lib = some new.lib then s.asgDone l
    else if held then s
    else s.runLoad n new.lib

/-- RUNNER_ASSIGN_APPLY. -/
def execRunnerAssignApply (l : Nat) (s : State) : Result :=
  .next (if s.coreUp ∧ l < s.part.runnersUse then s.asgApply l else s)

/-! ## The library (R203, R204) -/

/-- A library command ends (R204, R214). -/
def State.libEnd (res : Nat) (s : State) : State :=
  { s with runners := { s.runners with cmd := none, result := res } }.raiseInt .runners0 0 1 0

/-- A slot that a RUNNER_ASSIGN word, RUN_SPARE_LIB or a control store holds (R204). -/
def State.libHeld (s : State) (k : Nat) : Bool :=
  s.spareLib == k ||
  ((List.range s.part.runnersUse).any fun l => (s.asked l).side != 0 && (s.asked l).lib == k) ||
  ((List.range s.part.runnersPhys).any fun n => (s.runner n).lib == some k || (s.runner n).loading == some k)

/-- RUN_LIB_ADDR (R214). -/
def State.libAddr (s : State) : Nat := s.reg64 Reg.runLibAddrLo / 64 * 64

/-- LIB_INSERT (R204): IN_USE for a slot that holds an image, else BUSY until it is done with the address as it stands. -/
def State.libInsert (k : Nat) (s : State) : State :=
  if s.runners.cmd.isSome then s
  else if (s.lib k).valid then s.libEnd 4
  else { s with runners := { s.runners with cmd := some (k, s.libAddr) } }

/-- LIB_INSERT. -/
def execLibInsert (p : Path) (slot : Nat) (s : State) : Result :=
  .next (if s.coreTakes p ∧ slot < 16 then s.libInsert slot else s)

/-- LIB_REMOVE (R204). -/
def State.libRemove (k : Nat) (s : State) : State :=
  if s.runners.cmd.isSome then s
  else if s.libHeld k then s.libEnd 4
  else (s.setLib k LibSlot.empty).libEnd 0

/-- LIB_REMOVE. -/
def execLibRemove (p : Path) (slot : Nat) (s : State) : Result :=
  .next (if s.coreTakes p ∧ slot < 16 then s.libRemove slot else s)

/-- The image that an INSERT reads (R203, R204, R461): its code, its bytes on OK. -/
def State.libRead (a : Nat) (s : State) : Nat × List Byte × State :=
  match s.readBytes imgMaster 0x0 a 256 with
  | (none, s) => (imgDigest, [], s)
  | (some h, s) =>
    let w := bits (leAt h 8 4) 13 0
    if leAt h 0 4 ≠ 0x5A524E31 then (imgMagic, [], s)
    else if w = 0 ∨ 8192 < w then (imgLarge, [], s)
    else
      match s.readBytes imgMaster 0x0 (a + 0x100) (18 * w) with
      | (none, s) => (imgDigest, [], s)
      | (some b, s) => (s.imgCheck h b (decide (0x80 ≤ leAt h 4 1)), h ++ b, s)

/-- LIB_INSERT_DONE (R204, R461): the slot is VALID, or the command has failed; spares load RUN_SPARE_LIB. -/
def State.libDone (s : State) : State :=
  match s.runners.cmd with
  | none => s
  | some (k, a) =>
    match s.libRead a with
    | (0, img, s) => ((s.setLib k { valid := true, ledger := false, image := img, addr := a }).libEnd 0).spareLoad
    | (code, _, s) => (s.imgBad a code).libEnd code

/-- LIB_INSERT_DONE. -/
def execLibInsertDone (s : State) : Result := .next (if s.coreUp ∧ s.memServes then s.libDone else s)

/-- Control-store words of an image (R203). -/
def LibSlot.words (x : LibSlot) : Nat := x.word2 13 0

/-- A control-store word. -/
def LibSlot.uword (x : LibSlot) (i : Nat) : Nat := leAt x.image (0x100 + 18 * i) 18

/-- ENTRY[i] (R203). -/
def LibSlot.entry (x : LibSlot) (i : Nat) : Nat := leAt x.image (0x0C + 2 * i) 2

/-- The capture of a runner error (R214). -/
def runCap (n pc : Nat) : Cap := ⟨BitVec.ofNat 64 (pc % 65536 + 65536 * (n % 128)), 0xFFF, 0xF⟩

/-- RUNNER_LOAD_DONE (R205): the words are read from their source and the digest recomputed; a mismatch leaves the runner
with no image. -/
def State.loadDone (n : Nat) (s : State) : State :=
  match (s.runner n).loading with
  | none => s
  | some k =>
    let x := s.lib k
    let got := if x.ledger then (some (x.image.drop 0x100), s) else s.readBytes imgMaster 0x0 (x.addr + 0x100) (18 * x.words)
    let s := got.2
    if got.1.map Config.sha384 = some (slice x.image 0x40 48) then
      s.setRunner n { s.runner n with lib := some k, loading := none, inited := false }
    else (s.setRunner n { s.runner n with lib := none, loading := none }).raiseErr .runners0 0 5 (runCap n 0)

/-- RUNNER_LOAD_DONE. -/
def execRunnerLoadDone (n : Nat) (s : State) : Result :=
  .next (if s.coreUp ∧ n < s.part.runnersPhys ∧ ((s.lib ((s.runner n).loading.getD 0)).ledger ∨ s.memServes)
    then s.loadDone n else s)

/-! ## Units of work (R190, R201) -/

/-- The master ID of a physical runner (R471). -/
def runMaster (n : Nat) : Nat := 0x80 + n

/-- A runner that can start a unit: USABLE, loaded and idle, on a page that serves the work that the unit belongs to (R38, R45,
R205). -/
def State.runnerFree (s : State) (n since : Nat) : Bool :=
  let x := s.runner n
  s.serves .runners0 0 since && decide (n < s.part.runnersPhys) && x.role == .usable && !x.busy &&
    x.loading.isNone && x.lib.isSome

/-- Address of a runner checkpoint area (R201). -/
def State.ckptAddr (s : State) (ses col alt : Nat) : Nat :=
  65536 * (s.reg64 Reg.runCkptBaseLo / 65536) + 16384 * ((ses * 8 + col) * 2 + alt)

/-- The alternate of a tile column's newest complete runner checkpoint; the first segment writes alternate 0 (R200). -/
def State.ckptAlt (s : State) (ses col : Nat) : Nat := Tbl.getD s.runners.ckpts (8 * ses + col) 1

/-- A unit of video work (R190, R201): the session, tile column and row that it carries, its input, the segment it serves on a stone, and
when its picture began. -/
structure VideoUnit where
  ses   : Nat
  col   : Nat
  row   : Nat
  input : List Byte
  seg   : Option (Nat × Nat × Nat)
  since : Nat

/-- The video unit that waits for a logical runner: the oldest segment that its stone has started, or the picture of its pipeline. -/
def State.videoUnit (s : State) (a : Assign) : Option VideoUnit :=
  if a.side = 1 then
    (s.stoneOf a.target).bind fun p => (s.stone p).units.head?.map fun u =>
      { ses := u.1, col := u.2.2, row := u.2.1, input := [], seg := some u, since := (((s.ses u.1).frame).map (·.ek)).getD 0 }
  else if a.side = 2 then
    let x := s.pipe a.target
    if x.busy then some { ses := x.ses, col := 0, row := 0, input := (x.au.map (·.bytes)).getD [], seg := none, since := x.since } else none
  else none

/-- A loaded runner runs ENTRY[0] before its first unit (R205). -/
def State.runInit (n : Nat) (s : State) : State :=
  let x := s.runner n
  let img := s.lib (x.lib.getD 0)
  s.setRunner n { x with busy := true, unit := none, since := s.tick, m := { Micro.reset with ctx := x.m.ctx, tab := x.m.tab, pc := img.entry 0 } }

/-- The microcoded state at the start of a unit: G0 to G7 and the entry (R201); context and table memory, and G8 to G15, stay. -/
def Micro.enter (m : Micro) (g : List Word) (pc : Nat) (input : List Byte) : Micro :=
  { m with g := ((List.range 8).zip g) ++ m.g.filter (fun e => 8 ≤ e.1), pc := pc, stack := [], waited := false, elem := none
           input := input, inPos := 0, rev := none, outB := [], outBits := 0, outBase := 0, mem := none, cpy := none, marks := 0
           ckpt := false, errf := false }

/-- RUNNER_UNIT_START (R201, R205): ENTRY[0] after a load; else the waiting unit, at ENTRY[1], or at ENTRY[2] on a resume from the newest
complete checkpoint. On a stone the checkpoint address is that of the area to read or, without a resume, of the one to write (DESIGN
CHOICE, assumption 36); a pipeline has none, and the unit flags are the part's own (free). -/
def State.unitStart (n : Nat) (s : State) : State :=
  let x := s.runner n
  let img := s.lib (x.lib.getD 0)
  let a := s.assign x.logical
  if !x.inited then (if s.runnerFree n s.tick then s.runInit n else s)
  else
    match s.videoUnit a with
    | none => s
    | some u =>
      if s.runnerFree n u.since then
        let f := s.freeBelow (2 ^ 48)
        let alt := s.ckptAlt u.ses u.col
        let re := x.resume || (a.side == 1 && s.runners.again.contains (u.ses, u.col))
        let ck := if a.side = 2 then f / 256 % 2 ^ 40 else s.ckptAddr u.ses u.col (if re then alt else 1 - alt)
        let g := [pack [(0, u.ses % 65536), (16, u.col % 8), (24, f % 256)], loWord ck, word (ck / 2 ^ 32 % 256), 0, 0, 0, 0, word u.row]
        let m := x.m.enter g (img.entry (if re then 2 else 1)) u.input
        let s := (s.setRunner n { x with busy := true, unit := u.seg, since := s.tick, resume := false, m := m }).spend
        match u.seg, s.stoneOf a.target with
        | some _, some p =>
          { s.setStone p { s.stone p with units := (s.stone p).units.tail } with
            runners := { s.runners with again := s.runners.again.filter fun e => e != (u.ses, u.col) } }
        | _, _ => s
      else s

/-- RUNNER_UNIT_START. -/
def execRunnerUnitStart (n : Nat) (s : State) : Result := .next (s.unitStart n)

/-- A unit of work ends, with the bytes it wrote (R214). -/
def State.unitEnd (n bytes : Nat) (s : State) : State :=
  let x := s.runner n
  s.setRunner n { x with busy := false, unit := none, units := (x.units + 1) % 2 ^ 32, outNum := (x.outNum + bytes) % 2 ^ 64 }

/-! ## Segments that are coded again (R120, R122, R197, R213) -/

/-- A segment as it waits for a stone; the blocks that analysis decided stay (R96, R134). -/
def Seg.back (g : Seg) : Seg :=
  { g with st := .queued, passed := 0, queue := [], reports := [], reconAt := none, floorAt := none, out := none, wrote := 0, cut := false }

/-- The segments of a session that satisfy `p`, on their stones or at their runners and not committed, wait for a stone again: stones and
runners drop them, and what the checkpoint areas hold of them is not complete (R119, R120). -/
def State.segsBack (n : Nat) (p : Seg → Bool) (s : State) : State :=
  match (s.ses n).active with
  | none => s
  | some f =>
    let hit := fun (g : Seg) => (g.st == .coding || g.st == .coded) && p g
    let has := fun (u : Nat × Nat × Nat) => u.1 == n && f.segs.any fun g => hit g && g.row == u.2.1 && g.col == u.2.2
    let s := s.setFrame n { f with segs := f.segs.map fun g => if hit g then g.back else g }
    let s := s.stones.foldl (fun s e => s.setStone e.1 { s.stone e.1 with
      units := (s.stone e.1).units.filter fun u => !has u
      busy := (s.stone e.1).busy && !has ((s.stone e.1).ses, (s.stone e.1).row, (s.stone e.1).col) }) s
    let s := s.runners.phys.foldl (fun s e => if e.2.busy && e.2.unit.any has then s.setRunner e.1 { e.2 with busy := false, unit := none } else s) s
    { s with ckpts := s.ckpts.map fun e =>
        if e.1 / 16 = n ∧ e.2.frame = f.k ∧ (f.segs.any fun g => hit g && g.row == e.2.row && g.col == e.1 / 2 % 8)
        then (e.1, { e.2 with complete := false }) else e }

/-- How many segments of a frame that takes back. -/
def Frame.unfinished (f : Frame) (p : Seg → Bool) : Nat :=
  (f.segs.filter fun g => (g.st == .coding || g.st == .coded) && p g).length

/-! ## Asset work (R193, R211) -/

/-- Changes the run of the step that a transform serves. -/
def State.xformRun (c : Nat) (f : StepRun → StepRun) (s : State) : State :=
  match (s.chan c).run with
  | some r => s.setRun c (some (f r))
  | none => s

/-- Takes a transform off the asset queue. -/
def State.xformDrop (c : Nat) (s : State) : State :=
  { s with runners := { s.runners with queue := s.runners.queue.filter fun q => q.chan != c } }

/-- A unit in a frame whose header is known, with its dictionary read by the runner (R212); one that fails its line check counts as bad
data. -/
def State.frameUnit (n : Nat) (q : XForm) (h : FrameHead) (out : List Byte) (s : State) : BlockOut × State :=
  let go := fun (d : List Byte × List Byte) =>
    let f := { h.frame with tables := d.1, dict := d.2 }
    frameBlock { q.skip h.len with frame := some f } f out
  match q.dictFor h.dict with
  | none => (blockBad q 3, s)
  | some none => (go ([], []), s)
  | some (some (a, len)) =>
    match s.readBytes (runMaster n) 0x3 a len with
    | (none, s) => (blockBad q 4, s)
    | (some l, s) =>
      match dictContent (q.id == 0x21) l with
      | none => (blockBad q 4, s)
      | some d => (go d, s)

/-- Where a transform's state lies (R211). -/
def State.xstateAddr (s : State) (slot : Nat) : Nat := s.reg64 Reg.runXstateBaseLo / 1024 * 1024 + 1024 * slot

/-- The next unit of a transform (R209 to R212): a frame goes on from the state that the last unit left in part DRAM, whose failing line
counts as history (R405; DEDUCED, assumption 24); skippable frames and a frame's header are taken with the block behind them. -/
def State.xformUnit (n : Nat) (q : XForm) (out : List Byte) (s : State) : BlockOut × State :=
  match q.frame with
  | some f =>
    match s.readBytes (runMaster n) 0x3 (s.xstateAddr q.slot) 1024 with
    | (none, s) => (blockBad q 4, s)
    | (some _, s) => (frameBlock q f out, s)
  | none =>
    match q.skipFrames q.input.length with
    | none => (blockBad q 7, s)
    | some q =>
      if q.rest.isEmpty then ({ code := 0, bytes := [], last := true, next := q }, s)
      else
        let h := if q.id = 0x21 then zstdHead q.rest q.dict out.length else lz4Head q.rest q.dict out.length
        if h.code ≠ 0 then (blockBad q h.code, s) else s.frameUnit n q h out


/-- G0 to G7 of a unit of asset work (R201): slot and flags, transform state, and input and output where they lie in one piece (else free,
assumption 36). -/
def State.assetRegs (s : State) (q : XForm) (run : StepRun) (free : Nat) : List Word :=
  let xs := s.xstateAddr q.slot
  let ia := match (s.chan q.chan).inBuf with
    | some b => s.bufAddr b + q.pos
    | none => if bitOf run.step.flags 5 then free / 2 ^ 8 % 2 ^ 40 else run.step.addr + q.pos
  let oa := match run.out with
    | some b => s.bufAddr b + run.data.length
    | none => if bitOf run.step.flags 5 then free / 2 ^ 48 % 2 ^ 40 else run.step.addr + run.data.length
  [pack [(0, q.slot), (24, free % 256)], loWord xs, word (xs / 2 ^ 32 % 256), loWord ia, word (ia / 2 ^ 32), loWord oa, word (oa / 2 ^ 32),
    word (q.input.length - q.pos)]

/-- One block of the oldest ready transform of a format (R193, R211, R332): its output joins the step's and its state is stored; a code
other than OK, or output past the step's limit, ends the transform; otherwise it rejoins the end of the queue until its last block, or
until its step is stopped (R322). The image runs from ENTRY[1] to its DONE within the command. -/
def State.assetBlock (n : Nat) (q : XForm) (run : StepRun) (s : State) : State :=
  let x := s.runner n
  let m := x.m.enter (s.assetRegs q run (Config.freeNat s.free)) ((s.lib (x.lib.getD 0)).entry 1) (q.input.drop q.pos)
  let s := (s.setRunner n { x with m := m, since := s.tick }).spend
  let (r, s) := s.xformUnit n q run.data
  let code := if r.code = 0 ∧ run.step.p0 < run.data.length + r.bytes.length then 6 else r.code
  let s := s.writeLines (runMaster n) 0x3 (s.xstateAddr q.slot) (padTo 1024 (Config.xstateBytes r.next))
  let s := (s.unitEnd n r.bytes.length).xformDrop q.chan
  if code ≠ 0 then
    ((s.xformRun q.chan fun x => { x with phase := .moved }).endStep q.chan ⟨0x0C, code, run.data.length⟩).raiseErr
      .runners0 0 7 (runCap n 0)
  else
    let stop := r.last || run.ending.isSome
    let s := s.xformRun q.chan fun x => { x with data := x.data ++ r.bytes, done := x.done + r.bytes.length,
                                                 phase := if stop then .moved else x.phase }
    if stop then s else { s with runners := { s.runners with queue := s.runners.queue ++ [r.next] } }

/-- ASSET_UNIT_START (R193): the oldest ready transform of the format that the runner's image decodes. -/
def State.assetStart (n : Nat) (s : State) : State :=
  let x := s.runner n
  if (s.assign x.logical).side ≠ 3 then s
  else if !x.inited then (if s.runnerFree n s.tick then s.runInit n else s)
  else
    match s.runners.queue.find? fun q => q.id == (s.lib (x.lib.getD 0)).id with
    | none => s
    | some q =>
      match (s.chan q.chan).run with
      | none => s.xformDrop q.chan
      | some run => if s.runnerFree n run.at_ ∧ s.memServes then s.assetBlock n q run else s

/-- ASSET_UNIT_START. -/
def execAssetUnitStart (n : Nat) (s : State) : Result := .next (s.assetStart n)

/-! ## A unit that runs too long -/

/-- RUNNER_WATCHDOG's time has come only for a unit in work (R214). -/
def State.unitLong (s : State) (n : Nat) : Bool := s.coreUp && decide (n < s.part.runnersPhys) && (s.runner n).busy

end Sys2Proof.Machine
end

