-- ==== Sys2Proof/Machine/Microword.lean ====
section
/-!
DEFINITION. The microword of a runner (R194 to R200, R202): what every field of a word does, the next address, faults, and
the completion of MEM and CPY operations. What the spec leaves open within a word is free (assumption 36).
-/

namespace Sys2Proof.Machine

/-- What an arithmetic-coder operation is given (R195, R197, R198): CODER and AC_OP, the context or CDF record, the coder's own records,
the element's alphabet or bit count and its value, and the input bits from the reader's place on. -/
structure CoderIn where
  coder : Nat
  op    : Nat
  ctx   : List Byte
  own   : List (List Byte)
  size  : Nat
  value : Nat
  input : List Byte
  at_   : Nat
  deriving DecidableEq, Repr

/-- What it leaves: the record, the coder's own records, its outstanding bits, the bytes that no later carry can change, the decoded value
and bin, the input bits that it took, and whether the data is bad. -/
structure CoderOut where
  ctx   : List Byte
  own   : List (List Byte)
  left  : Nat
  bytes : List Byte
  value : Word
  bit   : Bool
  taken : Nat
  bad   : Bool
  deriving DecidableEq, Repr, Inhabited

end Sys2Proof.Machine

namespace Sys2Proof

/-- The arithmetic coders of AVC, HEVC and AV1, which their standards give (assumption 36). -/
opaque Config.coder : Machine.CoderIn → Machine.CoderOut

end Sys2Proof

namespace Sys2Proof.Machine

/-! ## Fields and legality (R194, R197) -/

/-- AC_OP codes that an image's CODER has (R197): 1 CABAC, 2 AV1. -/
def acLegal (coder op : Nat) : Bool :=
  op == 0 || (op ≤ 9 && (coder == 1 || (coder == 2 && op != 4)))

/-- A word carries a reserved code, a bit in [143:122], a DISPATCH base that is not a multiple of 16, or a coder operation
that the image's CODER has not (R194, R196, R197). `nxt` and `cond` are those in force, which nano mode gives. -/
def uwBad (w coder nxt cond : Nat) : Bool :=
  decide (24 ≤ bits w 36 32) || bits w 27 24 == 15 || decide (8 ≤ bits w 62 59) || bits w 86 84 == 7 ||
  decide (3 ≤ bits w 104 102) || decide (6 ≤ bits w 111 109) || bits w 113 112 == 3 || bits w 119 118 == 3 ||
  decide (21 ≤ cond) || !acLegal coder (bits w 97 94) || bits w 143 122 != 0 || (nxt == 5 && bits w 14 11 != 0)

/-- A word as it runs: the native word, NXT, COND, CINV and the target base (R196, R202). -/
structure Uop where
  w    : Nat
  nxt  : Nat
  cond : Nat
  cinv : Bool
  page : Nat
  deriving DecidableEq, Repr

/-- The word at a microaddress (R194, R202); a native word that the image has not is free. -/
def LibSlot.fetch (x : LibSlot) (pc other : Nat) : Uop :=
  let word := fun i => if i < x.words then x.uword i else other % 2 ^ 144
  if x.word1 30 30 = 1 then
    let m := word (4096 + pc / 8) / 2 ^ (16 * (pc % 8)) % 65536
    let e := leAt x.image (0x1C + bits m 12 10) 1
    ⟨word (m % 1024), bits m 15 13, bits e 4 0, bitOf e 5, pc / 8192 * 8192⟩
  else let w := word pc; ⟨w, bits w 4 2, bits w 9 5, bitOf w 10, 0⟩

/-! ## The arithmetic units (R197) -/

/-- Minimum or maximum, unsigned. -/
def pickWord (least : Bool) (a b : Word) : Word := if (decide (a.toNat ≤ b.toNat)) = least then a else b

/-- The operations that AOP and BOP share. -/
def uAlu (op : Nat) (a b : Word) : Word :=
  let k := b.toNat % 32
  match op with
  | 0 => a
  | 1 => a + b
  | 2 => a - b
  | 3 => a &&& b
  | 4 => a ||| b
  | 5 => a ^^^ b
  | 6 => a <<< k
  | 7 => a >>> k
  | 8 => a.sshiftRight k
  | 9 => pickWord true a b
  | 10 => pickWord false a b
  | 11 => word (leadZeros a)
  | 12 => word (a.toNat % 2 ^ k)
  | 13 => a + 1
  | _ => a - 1

/-- Flags of the A-ALU: Z and N of the result; C and V of sums and V of differences; the rest is not stated (free). -/
def uFlags (op : Nat) (a b : Word) (free : Nat) : Flags :=
  let r := uAlu op a b
  let add := fun (b : Word) => (addWith a b false).2
  let c := if op = 1 then (add b).c else if op = 13 then (add 1).c else free % 2 == 1
  let v := if op = 1 then (add b).v else if op = 13 then (add 1).v else if op = 2 then (subWith a b).2.v
    else if op = 14 then (subWith a 1).2.v else free / 2 % 2 == 1
  { z := r == 0, n := r.msb, c := c, v := v }

/-- Register G[k]. -/
def Micro.gr (m : Micro) (k : Nat) : Word := Tbl.getD m.g k 0

/-! ## The bit reader and writer (R194, R197) -/

/-- Bit counts: the field, or for 0 the register's low six bits, 0 to 32. -/
def bitCount (field : Nat) (r : Word) (free : Nat) : Nat :=
  if field ≠ 0 then field else let n := r.toNat % 64; if n ≤ 32 then n else free % 33

/-- Bit `p` of a byte stream: within a byte the most or the least significant bit first. -/
def streamBit (l : List Byte) (lsb : Bool) (p : Nat) : Nat :=
  b2n (bitOf (l.getD (p / 8) 0).toNat (if lsb then p % 8 else 7 - p % 8))

/-- `n` bits of a stream from position `p`. -/
def streamBits (l : List Byte) (lsb : Bool) (p n : Nat) : Nat :=
  if lsb then (List.range n).foldl (fun a i => a + streamBit l true (p + i) * 2 ^ i) 0
  else (List.range n).foldl (fun a i => 2 * a + streamBit l false (p + i)) 0

/-- The next `n` bits: forward, or backward from the end under REV. Bits past the input's end are not stated (free). -/
def Micro.peek (m : Micro) (lsb : Bool) (n free : Nat) : Word :=
  match m.rev with
  | some (start, left) =>
    if n ≤ left then word (leNat (m.input.drop start) / 2 ^ (left - n) % 2 ^ n) else word (free % 2 ^ n)
  | none => if m.inPos + n ≤ 8 * m.input.length then word (streamBits m.input lsb m.inPos n) else word (free % 2 ^ n)

/-- Takes `n` bits. -/
def Micro.skip (m : Micro) (n : Nat) : Micro :=
  match m.rev with
  | some (start, left) => { m with rev := some (start, left - n) }
  | none => { m with inPos := m.inPos + n }

/-- REV: the next `n` bytes are read from their end, below the highest set bit of the last (R197). -/
def Micro.reverse (m : Micro) (n : Nat) : Micro :=
  let start := ceilDiv m.inPos 8
  let last := (m.input.getD (start + n - 1) 0).toNat
  { m with rev := some (start, if last = 0 ∨ n = 0 then 0 else 8 * (n - 1) + Nat.log2 last), inPos := 8 * (start + n)
           errf := m.errf || last == 0 }

/-- BIN_OP. -/
def Micro.binOp (m : Micro) (op n ga free : Nat) : Micro :=
  match op with
  | 1 => { m with bin := m.peek false n free }
  | 2 => m.skip n
  | 3 => { m.skip n with bin := m.peek false n free }
  | 4 => { m with inPos := roundUp m.inPos 8, rev := none }
  | 5 => { m with bin := m.peek true n free }
  | 6 => { m.skip n with bin := m.peek true n free }
  | 7 => m.reverse ga
  | _ => m

/-- Bits of the output byte under way: how many, their value, and whether the least significant comes first. -/
def Micro.outPart (m : Micro) : Nat × Nat × Bool :=
  let x := m.outBits % 512
  if x ≤ 1 then (0, 0, decide (512 ≤ m.outBits)) else (Nat.log2 x, x - 2 ^ Nat.log2 x, decide (512 ≤ m.outBits))

/-- Appends one bit to the output. -/
def Micro.putBit (m : Micro) (lsb : Bool) (b : Nat) : Micro :=
  let k := m.outPart.1
  let v := if lsb then m.outPart.2.1 + b * 2 ^ k else 2 * m.outPart.2.1 + b
  let mark := if lsb then 512 else 0
  if k = 7 then { m with outB := m.outB ++ [byte v], outBits := mark } else { m with outBits := mark + 2 ^ (k + 1) + v }

/-- Appends `n` bits of a value. -/
def Micro.putBits (m : Micro) (lsb : Bool) (n v : Nat) : Micro :=
  (List.range n).foldl (fun m i => m.putBit lsb (v / 2 ^ (if lsb then i else n - 1 - i) % 2)) m

/-- Completes the byte under way with a bit. -/
def Micro.outAlign (m : Micro) (b : Nat) : Micro :=
  if m.outPart.1 = 0 then m else (List.range (8 - m.outPart.1)).foldl (fun m _ => m.putBit m.outPart.2.2 b) m

/-- The output position in bits, the coder's outstanding bits included (R199). -/
def Micro.outPos (m : Micro) : Nat := 8 * (m.outBase + m.outB.length) + m.outPart.1 + m.left

/-- BOUT_OP; FLUSH passes on bytes that stand complete already. -/
def Micro.boutOp (m : Micro) (op n : Nat) (v : Word) : Micro :=
  match op with
  | 1 => m.putBits false n v.toNat
  | 2 => m.putBits true n v.toNat
  | 3 => m.outAlign 0
  | 4 => m.outAlign 1
  | 5 => m.putBits m.outPart.2.2 8 (v.toNat % 256)
  | _ => m

/-! ## Coding elements (R198) -/

/-- OP of the element held; none is pending where it is absent. -/
def elemOp (e : Option DWord) : Nat := match e with | some d => d.toNat % 16 | none => 0
/-- CTX of the element held. -/
def elemCtx (e : Option DWord) : Nat := match e with | some d => bits d.toNat 19 8 | none => 0
/-- VALUE of the element held. -/
def elemVal (e : Option DWord) : Nat := match e with | some d => bits d.toNat 47 32 | none => 0

/-! ## One word (R195) -/

/-- A condition of R196, before CINV. -/
def Micro.cond (m : Micro) (k : Nat) (inp : RunnerInput) (drain : Bool) : Bool :=
  let endIn := decide (8 * m.input.length ≤ m.inPos) && (match m.rev with | some (_, l) => l == 0 | none => true)
  match k with
  | 0 => true
  | 1 => m.z
  | 2 => m.n
  | 3 => m.c
  | 4 => m.v
  | 5 => m.lc == 0
  | 6 => endIn
  | 7 => m.inPos % 8 == 0
  | 8 => m.bz
  | 9 => inp.elem.isNone
  | 10 => elemOp m.elem == 8
  | 11 => elemOp m.elem == 10
  | 12 => m.acBit
  | 13 => inp.starved && decide (m.inPos < 8 * m.input.length)
  | 14 => m.mem.isSome
  | 15 => m.cpy.isSome
  | 16 => inp.outFull
  | 17 => m.errf
  | 18 => drain
  | 19 => m.stack.length == 8
  | 20 => m.stack.isEmpty
  | _ => false

/-- A-ALU operand B (R194). -/
def Micro.asb (m : Micro) (w : Nat) : Word :=
  let k := bits w 36 32
  if k < 16 then m.gr k
  else match k with
    | 16 => word (bits w 58 43)
    | 17 => m.bin
    | 18 => word m.lc
    | 19 => word (elemVal m.elem)
    | 20 => m.acr
    | 21 => m.tblD
    | 22 => m.ctxD
    | _ => m.memD

/-- The table address of TBL_ASEL (R194): the peek follows the direction of BIN_OP. -/
def Micro.tblAt (m : Micro) (w free : Nat) : Nat :=
  let gb := m.gr (bits w 66 63)
  let op := bits w 78 76
  match bits w 106 105 with
  | 0 => bits w 55 43
  | 1 => gb.toNat % 8192
  | 2 => elemCtx m.elem
  | _ => (gb.toNat + (m.peek (op == 5 || op == 6) (bitCount (bits w 83 79) gb free) free).toNat) % 8192

/-- AC_OP codes that encode: they take no input, decode nothing, and flush or finish leaves nothing open (R197, R200). -/
def acEncodes (op : Nat) : Bool := decide (op ≤ 4) || op == 8
/-- AC_OP codes after which the encoder holds no bit: initialise, CABAC flush, and the end of an AV1 tile. -/
def acEmpties (coder op : Nat) : Bool := op == 8 || (coder == 1 && op == 4) || (coder == 2 && op == 3)

/-- Stores the coder's own records and the context that it used. -/
def Micro.acStore (m : Micro) (sel idx : Nat) (o : CoderOut) : Micro :=
  let fit := fun (l : List Byte) => padTo 16 l
  let own := (List.range 16).map fun i => (4080 + i, fit (o.own.getD i []))
  { m with ctx := Tbl.setAll m.ctx (if sel = 3 then own else (idx, fit o.ctx) :: own) }

/-- The arithmetic coder's step (R195, R197, R198): the coder's function on the selected record, the coder's own state in records 4,080 to
4,095, the element held, and the input. Encoding changes the output, decoding the input, AC result and AC_BIT. -/
def Micro.acOp (m : Micro) (w coder : Nat) : Micro :=
  let op := bits w 97 94
  if op = 0 then m
  else
    let sel := bits w 99 98
    let idx := if sel = 0 then elemCtx m.elem else if sel = 1 then bits w 54 43 else (m.gr (bits w 66 63)).toNat % 4096
    let rec_ := fun (k : Nat) => Tbl.getD m.ctx k (List.replicate 16 0)
    let o := Config.coder { coder := coder, op := op, ctx := if sel = 3 then [] else rec_ idx, own := (List.range 16).map fun i => rec_ (4080 + i)
                            size := elemN (m.elem.getD 0), value := elemVal m.elem, input := m.input, at_ := m.inPos }
    let m := m.acStore sel idx o
    if acEncodes op then { m with outB := m.outB ++ (if op = 8 then [] else o.bytes), left := if acEmpties coder op then 0 else o.left }
    else { m.skip o.taken with acr := o.value, acBit := o.bit, errf := m.errf || o.bad }

/-- CTX_OP on a record: a read and a write are of its low word; initialising leaves the rest free. -/
def Micro.ctxOp (m old : Micro) (w : Nat) (free : Nat) : Micro :=
  let k := (old.gr (bits w 66 63)).toNat % 4096
  let r := Tbl.getD old.ctx k (List.replicate 16 0)
  match bits w 101 100 with
  | 1 => { m with ctxD := word (leAt r 0 4) }
  | 2 => { m with ctx := Tbl.set m.ctx k (leBytes 4 (old.gr (bits w 31 28)).toNat ++ r.drop 4) }
  | 3 => { m with ctx := Tbl.set m.ctx k (leBytes 4 old.tblD.toNat ++ leBytes 12 free) }
  | _ => m

/-- MEM_OP (R194): SETA, the start of READ and WRITE with MAR moved on, GETW and PUTW. -/
def Micro.memOp (m old : Micro) (w : Nat) : Micro :=
  let ga := old.gr (bits w 31 28)
  let gb := old.gr (bits w 66 63)
  let k := bits w 46 43
  match bits w 111 109 with
  | 1 => { m with mar := 2 ^ 32 * (gb.toNat % 256) + ga.toNat }
  | 2 => { m with mem := some (2, m.mar / 64 * 64), mar := (m.mar + 64) % 2 ^ 40 }
  | 3 => { m with mem := some (3, m.mar / 64 * 64), mar := (m.mar + 64) % 2 ^ 40 }
  | 4 => { m with memD := Tbl.getD m.line k 0 }
  | 5 => { m with line := Tbl.set m.line k ga }
  | _ => m

/-- The operations of a word, every source read at its start (R195). -/
def Micro.ops (m : Micro) (w coder : Nat) (inp : RunnerInput) (free : Nat → Nat) : Micro :=
  let ga := m.gr (bits w 31 28)
  let gb := m.gr (bits w 66 63)
  let aop := bits w 27 24
  let bB := m.asb w
  let ra := uAlu aop ga bB
  let rb := uAlu (bits w 62 59) gb (m.gr (bits w 70 67))
  let fl := uFlags aop ga bB (free 0)
  let src := match bits w 93 92 with | 0 => ra | 1 => word (bits w 58 43) | 2 => ga | _ => word (elemVal m.elem)
  let x := m.acOp w coder
  let x := x.binOp (bits w 78 76) (bitCount (bits w 83 79) gb (free 1)) ga.toNat (free 2)
  let x := x.boutOp (bits w 86 84) (bitCount (bits w 91 87) gb (free 3)) src
  let x := x.ctxOp m w (free 4)
  let t := m.tblAt w (free 5)
  let x := match bits w 104 102 with
    | 1 => { x with tblD := Tbl.getD m.tab t 0 }
    | 2 => { x with tab := Tbl.set x.tab t ga }
    | _ => x
  let x := match bits w 108 107 with
    | 0 => x
    | k => { x with cpy := some (k, ga.toNat, if k = 3 then bits w 50 43 else gb.toNat) }
  let x := x.memOp m w
  let x := if bits w 113 112 = 1 then { x with elem := inp.elem } else x
  let x := match bits w 115 114 with
    | 1 => { x with lc := ga.toNat % 65536 }
    | 2 => { x with lc := bits w 58 43 }
    | 3 => { x with lc := (m.lc + 65535) % 65536 }
    | _ => x
  let x := if bits w 119 118 = 0 then x else { x with marks := x.outPos }
  let x := if bitOf w 75 then { x with g := Tbl.set x.g (bits w 74 71) rb, bz := rb == 0 } else x
  let x := if bitOf w 41 then { x with g := Tbl.set x.g (bits w 40 37) ra } else x
  let x := if bitOf w 42 then { x with z := fl.z, n := fl.n, c := fl.c, v := fl.v } else x
  if bits w 121 120 = 3 then { x with ckpt := true } else x

/-- The dispatch index of DSP_SEL (R194). -/
def Micro.dispatch (m : Micro) (w : Nat) : Nat :=
  match bits w 117 116 with
  | 0 => elemOp m.elem
  | 1 => m.bin.toNat % 16
  | 2 => (m.gr (bits w 31 28)).toNat % 16
  | _ => m.tblD.toNat % 16

/-- The next address and micro-stack (R196), from the word's start: none is a stack fault. LOOP's decrement gives way to a
LC operation of the same word. -/
def Micro.goOn (m x : Micro) (u : Uop) (size : Nat) (c : Bool) : Option Micro :=
  let on := { x with pc := (m.pc + 1) % size, waited := false }
  let jmp := fun (a : Nat) => { x with pc := (u.page + a) % size, waited := false }
  let addr := bits u.w 23 11
  match u.nxt with
  | 0 => some on
  | 1 => some (jmp addr)
  | 2 => some (if c then jmp addr else on)
  | 3 => if !c then some on else if m.stack.length = 8 then none
         else some { (jmp addr) with stack := (m.pc + 1) % size :: m.stack }
  | 4 => if !c then some on else match m.stack with
         | [] => none
         | a :: t => some { x with pc := a, stack := t, waited := false }
  | 5 => some (jmp (addr + m.dispatch u.w))
  | 6 => some (if c then on else { x with waited := true })
  | _ => if m.lc ≠ 0 then some (if bits u.w 115 114 = 0 then { (jmp addr) with lc := m.lc - 1 } else jmp addr) else some on

/-! ## The runner around the word (R195, R197 to R200) -/

/-- A unit fails: the runner goes on with its next one at ENTRY[1], and a segment of it and those after it in its tile column are coded
again (R197, R200, R213). -/
def State.unitDrop (n : Nat) (s : State) : State :=
  let x := s.runner n
  let s := s.setRunner n { x with busy := false, unit := none, resume := false, inited := true }
  match x.unit with
  | some (k, row, col) => s.segsBack k fun g => g.col == col && decide (row ≤ g.row)
  | none => match (s.assign x.logical).side with
    | 2 => s.setPipe (s.assign x.logical).target { s.pipe (s.assign x.logical).target with answers := [] }
    | _ => s

/-- A unit ends in a fault of R197 or R200, or in bad data. -/
def State.unitFail (n src pc : Nat) (s : State) : State := (s.unitDrop n).raiseErr .runners0 0 src (runCap n pc)

/-- The fixed latency of a word (R195): 2 VCLK for AV1 coder, CTX and TBL operations. -/
def uwLatency (w coder : Nat) : Nat :=
  if (bits w 97 94 ≠ 0 ∧ coder = 2) ∨ bits w 101 100 ≠ 0 ∨ bits w 104 102 ≠ 0 then 2 else 1

/-- The coding element that a word's POP takes: the head of its segment's queue, or its pipeline's request (R198). -/
def State.nextElem (s : State) (n : Nat) (inp : RunnerInput) : Option DWord :=
  match (s.runner n).unit with
  | some (k, row, col) => (((s.ses k).active.bind fun f => f.seg? row col).map fun g => g.queue.head?).getD none
  | none => inp.elem

/-- The lane that a unit's output goes to takes no more (R196, R219). -/
def State.outRefused (s : State) (n : Nat) : Bool :=
  match (s.runner n).unit with
  | some (k, _, _) => s.laneFull (dLane (s.ses k).desc)
  | none => false

/-- A word writes to the output path. -/
def uwWrites (w : Nat) : Bool :=
  bits w 86 84 != 0 || bits w 108 107 != 0 || (bits w 97 94 != 0 && acEncodes (bits w 97 94) && bits w 97 94 != 8)

/-- What a word does outside its runner (R198, R199): a POP takes its element and lets the stone go on; a REPORT reaches the stone; a PUSH
answers the pipeline; and the lane finds room for what has been written. -/
def State.microOut (n : Nat) (m z : Micro) (w : Nat) (s : State) : State :=
  let x := s.runner n
  match x.unit with
  | some (k, row, col) =>
    let s := if bits w 113 112 = 1 then s.mapSeg k row col fun g => { g with queue := g.queue.drop 1 } else s
    let s := if bits w 119 118 = 1 then s.mapSeg k row col fun g => { g with reports := g.reports ++ [z.outPos - m.marks] } else s
    let s := if bits w 113 112 = 1 ∨ bits w 119 118 = 1 then s.feed k row col (dNx (s.ses k).desc) else s
    if z.outB.length = m.outB.length then s else s.laneFit (dLane (s.ses k).desc)
  | none =>
    let a := s.assign x.logical
    if a.side = 2 ∧ bits w 113 112 = 2 then
      s.setPipe a.target { s.pipe a.target with answers := (s.pipe a.target).answers ++ [m.gr (bits w 31 28)] }
    else s

/-- The newest 256 KiB of the history and a unit's output: the local window (R195). -/
def Micro.keepWin (m : Micro) : Micro :=
  let l := m.win ++ m.outB
  { m with win := l.drop (l.length - 262144) }

/-- A unit is DONE: for a segment its bytes are the fragment, and its checkpoint the newest complete one (R113, R200). -/
def State.unitDone (n : Nat) (z : Micro) (s : State) : State :=
  let x := s.runner n
  let s := match x.unit with
    | some (k, row, col) =>
      let s := s.mapSeg k row col fun g => { g with out := some (if g.cut then [] else z.outB), wrote := z.outBase + z.outB.length }
      { s with runners := { s.runners with ckpts := Tbl.set s.runners.ckpts (8 * k + col) (1 - s.ckptAlt k col) } }
    | none => s
  (s.setRunner n { x with m := z.keepWin }).unitEnd n (z.outBase + z.outB.length)

/-- One microword of a runner's unit. -/
def State.microword (n : Nat) (inp : RunnerInput) (s : State) : State :=
  let x := s.runner n
  let img := s.lib (x.lib.getD 0)
  let m := x.m
  let free := fun i => Config.freeNat (s.free + i)
  let u := img.fetch m.pc (free 6)
  let coder := img.word1 29 28
  let s := { s with free := s.free + 24 }
  let inp := { inp with elem := s.nextElem n inp, outFull := inp.outFull || s.outRefused n }
  if uwBad u.w coder u.nxt u.cond then s.unitFail n 4 m.pc
  else
    let memHeld := bits u.w 111 109 != 0 && m.mem.isSome
    let outHeld := uwWrites u.w && s.outRefused n
    if !m.waited && (memHeld || outHeld || (bits u.w 108 107 != 0 && m.cpy.isSome)) then
      s.setRunner n { x with stall := if memHeld || outHeld then sat32 (x.stall + 1) else x.stall }
    else
      let c := m.cond u.cond inp (s.asgWaits x.logical) != u.cinv
      let size := if img.word1 30 30 = 1 then 32768 else 8192
      let y := if m.waited then m else m.ops u.w coder inp free
      let evt := if m.waited then 0 else bits u.w 121 120
      match m.goOn y u size c with
      | none => s.unitFail n 3 m.pc
      | some z =>
        let stalled := z.waited && (u.cond == 14 || u.cond == 16)
        let s := s.setRunner n { x with
          m := z, stall := if stalled then sat32 (x.stall + bits u.w 1 0 + 1) else x.stall
          xcyc := if bits u.w 1 0 + 1 < uwLatency u.w coder then sat32 (x.xcyc + 1) else x.xcyc
          failed := if evt = 2 then (m.gr (bits u.w 31 28)).toNat % 256 else x.failed }
        let s := if m.waited then s else s.microOut n m z u.w
        if evt = 1 then
          if x.inited = false then s.setRunner n { s.runner n with busy := false, inited := true }
          else if x.unit.isSome && !z.ckpt then s.unitFail n 4 m.pc
          else s.unitDone n z
        else if evt = 2 then s.unitDrop n
        else s

/-- A runner's unit is in work and its clock runs. -/
def State.unitOn (s : State) (n : Nat) : Bool :=
  s.works .runners0 0 && decide (n < s.part.runnersPhys) && (s.runner n).busy

/-- RUNNER_MICROWORD. -/
def execRunnerMicroword (n : Nat) (inp : RunnerInput) (s : State) : Result :=
  .next (if s.unitOn n then s.microword n inp else s)

/-- RUNNER_MEM_OP_DONE: a READ brings the line at the address that MAR held, a WRITE has stored the line buffer (R194,
R195); a line that fails restarts the unit (R214). -/
def State.memOpDone (n : Nat) (s : State) : State :=
  let x := s.runner n
  match x.m.mem with
  | some (2, a) =>
    match s.readBytes (runMaster n) 0x0 a 64 with
    | (some l, s) => s.setRunner n { x with m := { x.m with mem := none, line := (List.range 16).map fun i => (i, word (leAt l (4 * i) 4)) } }
    | (none, s) => (s.setRunner n { x with m := { x.m with mem := none } }).unitFail n 1 x.m.pc
  | some (_, a) =>
    let l := (List.range 16).flatMap fun i => leBytes 4 (Tbl.getD x.m.line i 0).toNat
    (s.setRunner n { x with m := { x.m with mem := none } }).writeBytes (runMaster n) 0x1 a l
  | none => s

/-- RUNNER_MEM_OP_DONE. -/
def execRunnerMemOpDone (n : Nat) (s : State) : Result := .next (if s.unitOn n ∧ s.memServes then s.memOpDone n else s)

/-- The bytes that a MATCH copies, one after another, from `dist` bytes back (R194). -/
def copyBack (dist : Nat) : Nat → List Byte → List Byte
  | 0, l => l
  | k + 1, l => copyBack dist k (l ++ [l.getD (l.length - dist) 0])

/-- RUNNER_CPY_OP_DONE (R194): the bytes join the output. Input past its end, and a distance beyond the history, are data
errors whose bytes are not stated. -/
def State.cpyOpDone (n : Nat) (s : State) : State :=
  let x := s.runner n
  let m := x.m
  let wrong := { m with cpy := none, errf := true }
  let put := fun (m : Micro) => s.setRunner n { x with m := m }
  match m.cpy with
  | none => s
  | some (1, len, _) =>
    let at_ := ceilDiv m.inPos 8
    if at_ + len ≤ m.input.length then
      put { m with cpy := none, inPos := 8 * (at_ + len), outB := m.outB ++ slice m.input at_ len }
    else ((put { wrong with outB := m.outB ++ leBytes len (Config.freeNat s.free) }).spend)
  | some (2, len, dist) =>
    let hist := m.win ++ m.outB
    if 0 < dist ∧ dist ≤ hist.length then
      put { m with cpy := none, outB := (copyBack dist len hist).drop m.win.length }
    else ((put { wrong with outB := m.outB ++ leBytes len (Config.freeNat s.free) }).spend)
  | some (_, len, v) => put { m with cpy := none, outB := m.outB ++ List.replicate len (byte v) }

/-- RUNNER_CPY_OP_DONE. -/
def execRunnerCpyOpDone (n : Nat) (s : State) : Result := .next (if s.unitOn n then s.cpyOpDone n else s)

end Sys2Proof.Machine
end

