-- ==== Sys2Proof/Machine/Ports.lean ====
section
/-!
DEFINITION. Ethernet ports and the switch: quads and their ports, reception, egress, ports going up and down, and the
commands of the forwarding tables (R240 to R259, R268 to R271).
-/

namespace Sys2Proof.Machine

/-! ## The ring agent's discovery starts (R263) -/

/-- The part's serial as a number. -/
def State.serialNo (s : State) : Nat := s.dev.serial.toNat

/-- SW_RING_CTL.EN. -/
def State.ringEn (s : State) : Bool := flag (s.reg Reg.swRingCtl) 0

/-- A ring port is up. -/
def State.ringUp (s : State) (east : Bool) : Bool := (s.port (if east then s.ringEast else s.ringWest)).up

/-- Stores the ring agent. -/
def State.setRing (r : Ring) (s : State) : State := { s with net := { s.net with ring := r } }

/-- Discovery runs (R263, R269): ELECT with the part's own serial, or LINKING while no ring port is up; restarting it after
it had begun sets RING_CHANGE. -/
def State.discover (s : State) : State :=
  if s.ringEn && s.coreUp then
    let r := s.net.ring
    let s := (s.setRing { r with st := if s.ringUp true || s.ringUp false then .elect else .linking, min := s.serialNo,
                                   minAt := s.tick, topo := 0, east := [], west := [], eastLine := false,
                                   isMaster := false }).bump Reg.swRingChanges
    if r.st = .off ∨ r.st = .linking then s else s.raiseErr .switch 0 3 Cap.none
  else s

/-- Discovery runs where port `p` is a ring port. -/
def State.discoverAt (p : Nat) (s : State) : State := if s.isRing p then s.discover else s

/-! ## Ports up and down (R242, R243, R256, R267) -/

/-- A port's quad is powered and, on a ring quad, the weir is not closed (R245, R267, R424). -/
def State.portLit (s : State) (p : Nat) : Bool :=
  let q := p / 4
  let ringQuad := s.part.hasWeir && decide (s.part.quads ≤ q + 2)
  s.live && !s.clk.quadsOff.contains q && !s.net.quadsLost.contains q && !(ringQuad && s.net.weir.closed) && !(s.pg (ordOf .quad q)).resetting

/-- PORT_UP (R243, R256): the hold timer stops, a dead port serves again, and discovery runs on a ring port. -/
def State.portUp (p : Nat) (s : State) : State :=
  let x := s.port p
  let q := s.quadCfg (p / 4)
  if s.portLit p ∧ s.portEn p ∧ x.up = false then
    (s.setPort p { x with up := true, anDone := flag q 6, ltDone := true, fecLock := !(s.laneMode (p / 4) == 1 && flag q 7),
                          held := false, dead := false }).discoverAt p
  else s

/-- PORT_UP. -/
def execPortUp (port : Nat) (s : State) : Result := .next (s.portUp port)

/-- The frame in transmission on a port is lost (R256). -/
def State.txLose (p : Nat) (s : State) : State :=
  match (s.port p).tx with
  | none => s
  | some id =>
    let l := ((s.swFrame id).map (·.bytes)).getD []
    (((s.setPort p { s.port p with tx := none }).frameDone id).portCount p cTxAbort 1).emit (.frameCut p l)

/-- The queued frames of a port are discarded and counted in DROP_HELD (R242, R256). -/
def State.portPurge (p : Nat) (s : State) : State :=
  let l := (s.port p).queued
  let s := s.setPort p { s.port p with q0 := [], q1 := [], q2 := [], q3 := [] }
  l.foldl (fun s id => ((s.portCount p cDropHeld 1).swDrop 4).frameDone id) s

/-- The lanes of a port have gone: what was under way is lost, and the down event is counted. -/
def State.portLost (p : Nat) (s : State) : State :=
  let s := s.txLose p
  let x := s.port p
  s.setPort p { x with up := false, anDone := false, ltDone := false, fecLock := false, downs := sat (x.downs + 1) 65535, rx := none }

/-- PORT_DOWN (R256): the hold timer starts and the queued frames stay. -/
def State.portDown (p : Nat) (s : State) : State :=
  if (s.port p).up then
    let s := s.portLost p
    let s := s.setPort p { s.port p with held := true, heldAt := s.tick }
    (s.raiseErr .quad (p / 4) 1 (Cap.obj p)).discoverAt p
  else s

/-- PORT_DOWN. -/
def execPortDown (port : Nat) (s : State) : Result := .next (if s.live then s.portDown port else s)

/-- PORT_HOLD_EXPIRY (R256). -/
def State.portDead (p : Nat) (s : State) : State :=
  let x := s.port p
  if x.held then
    let s := s.reach (x.heldAt + usTicks (fld (s.reg Reg.swPortHoldUs) 23 0))
    (s.setPort p { x with held := false, dead := true }).portPurge p
  else s

/-- PORT_HOLD_EXPIRY. -/
def execPortHoldExpiry (port : Nat) (s : State) : Result := .next (if s.live then s.portDead port else s)

/-- AN_RETRY (R243): a port that shares no ability with its partner stays down and sets AN_FAIL. -/
def State.anFail (p : Nat) (s : State) : State :=
  if s.portLit p ∧ s.portEn p ∧ (s.port p).up = false ∧ flag (s.quadCfg (p / 4)) 6 then s.raiseErr .quad (p / 4) 3 (Cap.obj p)
  else s

/-- AN_RETRY. -/
def execAnRetry (port : Nat) (s : State) : Result := .next (s.anFail port)

/-- A port is taken down with no hold (R242). -/
def State.portOff (p : Nat) (s : State) : State :=
  let up := (s.port p).up
  let s := if up then s.portLost p else s
  let s := (s.setPort p { s.port p with held := false, dead := false }).portPurge p
  if up then s.discoverAt p else s

/-- A QUAD_PORT[k].EN of a quad is 1. -/
def State.quadEn (s : State) (q : Nat) : Bool := (List.range 4).any fun k => flag (s.reg (Reg.quadPort q k)) 16

/-- The pair of a quad disagrees while its port is enabled: the port stays down, with CFG (R241). -/
def State.pairCheck (p : Path) (q : Nat) (s : State) : State :=
  let a := q / 2 * 2
  if s.quadRole a = 1 ∧ s.quadMode a = 5 ∧ flag (s.reg (Reg.quadPort a 0)) 16 ∧ s.pairAgrees a = false then
    (s.portOff (4 * a)).raiseErr .quad a 4 (Cap.reg p (Reg.quadCfg q))
  else s

/-- QUAD_CFG_WRITE (R242, R245): a change of ROLE, PMODE, MEDIUM or FEC_OFF with a port enabled, and ROLE 2 on a quad that
is not PCIe-capable, are discarded with CFG; KEEPALIVE stays 0 but with PMODE 1 or 2. -/
def State.quadWrite (p : Path) (q : Nat) (v : Word) (s : State) : State :=
  let old := s.quadCfg q
  let changes := fld old 5 0 != fld v 5 0 || flag old 7 != flag v 7
  if (changes && s.quadEn q) || (fld v 1 0 == 2 && decide (s.part.pcieQuads ≤ q)) then
    s.raiseErr .quad q 4 (Cap.reg p (Reg.quadCfg q))
  else
    let keep := fld v 4 2 == 1 || fld v 4 2 == 2
    (s.setReg (Reg.quadCfg q) (v &&& (if keep then 0x1FF#32 else 0xFF#32))).pairCheck p q

/-- QUAD_PORT_EN_WRITE (R242): clearing EN takes the port down at once; setting it starts training. -/
def State.quadPortWrite (p : Path) (q k : Nat) (v : Word) (s : State) : State :=
  let r := Reg.quadPort q k
  let was := flag (s.reg r) 16
  let s := s.setReg r (v &&& 0x10FFF#32)
  if was ∧ flag v 16 = false then s.portOff (4 * q + k)
  else if flag v 16 then s.pairCheck p q else s

/-- QUAD_PORT_EN_WRITE. -/
def execQuadPortEnWrite (p : Path) (q k : Nat) (value : Word) (s : State) : Result :=
  .next (if s.takes p ∧ q < s.part.quads ∧ k < 4 then s.quadPortWrite p q k value else s)

/-! ## Reception (R244, R246, R253) -/

/-- A port takes and sends frames: up, with the CORE domain powered. -/
def State.portOn (s : State) (p : Nat) : Bool :=
  s.works .switch 0 && (s.port p).up

/-- A capture at ingress, where the port or the result mirrors (R258). -/
def State.captureRx (p : Nat) (mirror : Bool) (reason at_ : Nat) (l : List Byte) (s : State) : State :=
  if mirror || s.mirrors (Reg.mirRx 0) p then (s.capture p 0 reason at_ (s.isRing p) l).mirrorDrain else s

/-- FRAME_HEADER_RECEIVED: the frame takes its cells, or is dropped as NOMEM, and its header is classified under the tables
in force (R246, R251, R253). -/
def State.header (p : Nat) (l : List Byte) (s : State) : State :=
  if !s.portOn p || (s.port p).rx.isSome then s
  else if s.cellsFor p (frameCells l) then
    let (dest, mirror) := s.classify p l
    (s.setPort p { s.port p with rx := some { bytes := l, at_ := s.tick, dest := dest, mirror := mirror } }).cellsMark
  else ((s.swDrop 2).raiseErr .switch 0 2 (Cap.obj p)).captureRx p false 2 s.tick l

/-- FRAME_HEADER_RECEIVED. -/
def execFrameHeaderReceived (port : Nat) (bytes : List Byte) (s : State) : Result := .next (s.header port bytes)

/-- The drop reason of a destination, for its capture (R258). -/
def FwdDest.reason : FwdDest → Nat
  | .drop r => r
  | _ => 0

/-- FRAME_STORED (R244, R246): a frame of a bad length or FCS and a MAC control frame count in RX_ERR; any other goes where
its header was classified to. -/
def State.stored (p : Nat) (fcsOk : Bool) (s : State) : State :=
  match (s.port p).rx with
  | none => s
  | some r =>
    let n := r.bytes.length + 4
    let s := s.setPort p { s.port p with rx := none }
    let bad := fun (reason : Nat) => ((s.portCount p cRxErr 1).swDrop reason).captureRx p r.mirror reason r.at_ r.bytes
    if !fcsOk || decide (n < 64) || decide (9600 < n) then bad 1
    else if frType r.bytes = 0x8808 then bad 8
    else
      let s := (s.portCount p cRxFrames 1).portCount p cRxBytes n
      (s.captureRx p r.mirror r.dest.reason r.at_ r.bytes).deliver p r

/-- FRAME_STORED. -/
def execFrameStored (port : Nat) (fcsOk : Bool) (s : State) : Result := .next (if s.portOn port then s.stored port fcsOk else s)

/-! ## Egress (R255, R257, R294) -/

/-- Takes the head frame off a queue of a port. -/
def State.unqueue (p q : Nat) (s : State) : State := s.setPort p ((s.port p).setQueue q (((s.port p).queue q).drop 1))

/-- A PTP event frame that the channel sent on a ring port has passed its timestamp point: a record goes back (R280).
Event messages are messageType 0 to 3. -/
def State.ptpSent (p : Nat) (f : SwFrame) (s : State) : State :=
  if s.isRing p ∧ frType f.bytes = 0x88F7 ∧ f.src = srcSluice ∧ beAt (frIp f.bytes) 0 1 % 16 < 4 then
    s.toChannel (fld (s.reg Reg.swRingCh) 25 16) (ptpRecord s.tick p 1 f.bytes) []
  else s

/-- A frame starts: send time, capture and timestamp record (R228, R258, R279, R280). -/
def State.txBegin (p id : Nat) (f : SwFrame) (s : State) : State :=
  let s := s.setPort p { s.port p with tx := some id }
  let s := match f.tag with
    | some (n, idx) => s.packetSent n idx
    | none => s
  let s := if s.mirrors (Reg.mirTx 0) p then (s.capture p 1 0 s.tick (s.isRing p) f.bytes).mirrorDrain else s
  s.ptpSent p f

/-- A head frame that no run of open entries can hold is dropped and counted, with GATE_DROP (R294, R296). -/
def State.gateDrop (p q id : Nat) (s : State) : State :=
  ((((s.unqueue p q).frameDone id).bump Reg.sluGateDrop).raiseErr .sluice 0 3 (Cap.obj p)).raiseInt .sluice 0 1 0

/-- FRAME_TX_START: strict priority among the queues whose head frame may start; an aged head frame is dropped at its
dequeue, and one that no run of open entries can hold is dropped from the head (R255, R257, R294). -/
def State.txPick (p : Nat) : Nat → Nat → State → State
  | 0, _, s => s
  | fuel + 1, q, s =>
    if 4 ≤ q then s
    else
      match ((s.port p).queue q).head? with
      | none => txPick p fuel (q + 1) s
      | some id =>
        match s.swFrame id with
        | none => txPick p fuel q (s.unqueue p q)
        | some f =>
          if q ≠ 0 ∧ s.gateNever p q f.bytes.length then
            txPick p fuel q (s.gateDrop p q id)
          else if q ≠ 0 ∧ s.gateLets p q f.bytes.length = false then txPick p fuel (q + 1) s
          else if f.at_ + usTicks (fld (s.reg Reg.swAgeMaxUs) 23 0) < s.tick then
            txPick p fuel q ((((s.unqueue p q).portCount p cDropAge 1).swDrop 5).frameDone id)
          else (s.unqueue p q).txBegin p id f

/-- FRAME_TX_START. -/
def execFrameTxStart (port : Nat) (s : State) : Result :=
  .next (if s.portOn port ∧ (s.port port).tx.isNone then s.txPick port ((s.port port).queued.length + 4) 0 else s)

/-- FRAME_TX_DONE (R254): the last copy frees the cells; a frame with an uncorrectable cell ends with an inverted FCS. -/
def State.txDone (p : Nat) (s : State) : State :=
  match (s.port p).tx with
  | none => s
  | some id =>
    match s.swFrame id with
    | none => s.setPort p { s.port p with tx := none }
    | some f =>
      if f.bad then
        (s.txLose p).raiseErr .switch 0 1 ⟨BitVec.ofNat 64 (0x21 * 2 ^ 24 + s.freeBelow 131072), 0xFFF, 0xF⟩ |>.spend
      else
        let s := (s.setPort p { s.port p with tx := none }).frameDone id
        ((s.portCount p cTxFrames 1).portCount p cTxBytes (f.bytes.length + 4)).emit (.frame p f.bytes)

/-- FRAME_TX_DONE. -/
def execFrameTxDone (port : Nat) (s : State) : Result := .next (if s.portOn port then s.txDone port else s)

/-! ## Commands of the forwarding tables (R249 to R251, R270) -/

/-- Stores the forwarding tables. -/
def State.setFwd (x : Fwd) (s : State) : State := { s with net := { s.net with fwd := x } }

/-- The path's place in the per-path results. -/
def pathNo (p : Path) : Nat := match p with | .i3c => 0 | .regload => 1

/-- A FWD_CMD ends with a RESULT. -/
def State.fwdEnd (p : Path) (res : Nat) (s : State) : State :=
  let x := s.net.fwd
  s.setFwd { x with result := Tbl.set x.result (pathNo p) res }

/-- FWD_KEY of a path. -/
def State.fwdKey (s : State) (p : Path) : List Word := (List.range 10).map fun i => s.preg p (Reg.fwdKey i)
/-- FWD_DATA of a path. -/
def State.fwdData (s : State) (p : Path) : List Word := (List.range 4).map fun i => s.preg p (Reg.fwdData i)

/-- A key with non-zero reserved words or bits (R249, R270). -/
def keyBad (flow : Bool) (k : List Word) : Bool :=
  if flow then fld (k.getD 0 0) 31 14 != 0 else fld (k.getD 1 0) 31 28 != 0 || (k.drop 2).any (· != 0)

/-- The bucket of a key (R249). -/
def keyBucket (flow : Bool) (k : List Word) : Nat :=
  let l := (k.take (if flow then 10 else 2)).flatMap fun w => leBytes 4 w.toNat
  crc32c l % (if flow then 2048 else 8192)

/-- The entries as they will be once the staged changes are published (R250, R251): a replaced entry keeps its way, a new
one takes the lowest free way of its bucket. -/
def fwdApply (l : List FwdEntry) (c : FwdChange) : List FwdEntry :=
  let same := fun (e : FwdEntry) => e.flow == c.flow && e.key == c.key
  match c.data with
  | none => l.filter fun e => !same e
  | some d =>
    if l.any same then l.map fun e => if same e then { e with data := d } else e
    else
      let b := keyBucket c.flow c.key
      let used := (l.filter fun e => e.flow == c.flow && e.bucket == b).map (·.way)
      match (List.range 8).find? fun w => !used.contains w with
      | some w => l ++ [{ flow := c.flow, bucket := b, way := w, key := c.key, data := d }]
      | none => l

/-- The tables with the staged changes. -/
def Fwd.next (x : Fwd) : List FwdEntry := x.staged.foldl fwdApply x.entries

/-- FWD_INDEX of an entry (R270). -/
def FwdEntry.index (e : FwdEntry) : Nat := 8 * e.bucket + e.way

/-- Stages a change, or ends with STAGE_FULL; an INSERT of a key whose last staged change is an INSERT replaces its data
(R250). -/
def State.fwdStage (p : Path) (c : FwdChange) (idx : Nat) (s : State) : State :=
  let x := s.net.fwd
  let same := fun (d : FwdChange) => d.flow == c.flow && d.key == c.key
  let put := fun (l : List FwdChange) =>
    (s.setFwd { x with staged := l, index := Tbl.set x.index (pathNo p) idx }).fwdEnd p 0
  if c.data.isSome ∧ (x.staged.any same) ∧ (x.staged.filter same).all (·.data.isSome) then
    put (x.staged.map fun d => if same d then c else d)
  else if 256 ≤ x.staged.length then s.fwdEnd p 3
  else put (x.staged ++ [c])

/-- FWD_CMD INSERT (R250). -/
def State.fwdInsert (p : Path) (flow : Bool) (s : State) : State :=
  let k := s.fwdKey p
  let c : FwdChange := { flow := flow, key := k, data := some (s.fwdData p) }
  if keyBad flow k then s.fwdEnd p 4
  else
    let same := fun (e : FwdEntry) => e.flow == flow && e.key == k
    match (fwdApply s.net.fwd.next c).find? same with
    | some e => s.fwdStage p c e.index
    | none => s.fwdEnd p 1

/-- FWD_CMD DELETE (R250). -/
def State.fwdDelete (p : Path) (flow : Bool) (s : State) : State :=
  let k := s.fwdKey p
  if keyBad flow k then s.fwdEnd p 4
  else
    match s.net.fwd.next.find? fun e => e.flow == flow && e.key == k with
    | some e => s.fwdStage p { flow := flow, key := k, data := none } e.index
    | none => s.fwdEnd p 2

/-- FWD_CMD READ: the committed entry, into FWD_DATA (R250, R270). -/
def State.fwdRead (p : Path) (flow : Bool) (s : State) : State :=
  let k := s.fwdKey p
  if keyBad flow k then s.fwdEnd p 4
  else
    match s.fwdFind flow k with
    | none => s.fwdEnd p 2
    | some e =>
      let s := (e.data.zipIdx).foldl (fun s d => s.setReg (bank p (Reg.fwdData d.2)) d.1) s
      let x := s.net.fwd
      (s.setFwd { x with index := Tbl.set x.index (pathNo p) e.index }).fwdEnd p 0

/-- Every staged change becomes the next generation (R250, R251). -/
def State.fwdPublish (s : State) : State :=
  let x := s.net.fwd
  s.setFwd { x with entries := x.next, staged := [], gen := (x.gen + 1) % 2 ^ 32, busy := true }

/-- FWD_CMD COMMIT: at once, or behind the one in progress (R251). -/
def State.fwdCommit (p : Path) (s : State) : State :=
  let s := if s.net.fwd.busy then s.setFwd { s.net.fwd with waiting := s.net.fwd.waiting + 1 } else s.fwdPublish
  s.fwdEnd p 0

/-- FWD_COMMIT_DONE (R251). -/
def State.fwdDone (s : State) : State :=
  let x := s.net.fwd
  if x.busy = false then s
  else if x.waiting = 0 then s.setFwd { x with busy := false }
  else (s.setFwd { x with waiting := x.waiting - 1 }).fwdPublish

/-- FWD_CMD DISCARD (R250). -/
def State.fwdDiscard (p : Path) (s : State) : State := (s.setFwd { s.net.fwd with staged := [] }).fwdEnd p 0

/-- FWD_INSERT. -/
def execFwdInsert (p : Path) (flow : Bool) (s : State) : Result := .next (if s.coreTakes p then s.fwdInsert p flow else s)
/-- FWD_DELETE. -/
def execFwdDelete (p : Path) (flow : Bool) (s : State) : Result := .next (if s.coreTakes p then s.fwdDelete p flow else s)
/-- FWD_READ. -/
def execFwdRead (p : Path) (flow : Bool) (s : State) : Result := .next (if s.coreTakes p then s.fwdRead p flow else s)
/-- FWD_COMMIT. -/
def execFwdCommit (p : Path) (s : State) : Result := .next (if s.coreTakes p then s.fwdCommit p else s)
/-- FWD_COMMIT_DONE. -/
def execFwdCommitDone (s : State) : Result := .next (if s.coreUp then s.fwdDone else s)
/-- FWD_DISCARD. -/
def execFwdDiscard (p : Path) (s : State) : Result := .next (if s.coreTakes p then s.fwdDiscard p else s)

end Sys2Proof.Machine
end

