-- ==== Sys2Proof/Machine/RingOps.lean ====
section
/-!
DEFINITION. The ring agent and the weir (R260 to R267, R269, R272). The hand-off frames that the agent takes come as the
RING commands (assumption 31); those it sends go through the switch.
-/

namespace Sys2Proof.Machine

/-! ## Hand-off frames (R261, R262) -/

/-- The header and payload that CHECK covers (R261). -/
def handBody (h : HandOff) : List Byte :=
  [byte (h.ver % 16 + h.typ % 16 * 16), byte h.hops] ++ leBytes 2 h.payload.length ++ leBytes 8 h.src.toNat ++
  leBytes 8 h.dst.toNat ++ leBytes 4 h.seq.toNat ++ leBytes 4 h.tag.toNat ++ leBytes 4 0 ++ h.payload

/-- SW_RING_DA as bytes (R269). -/
def State.ringDa (s : State) : List Byte :=
  leBytes 4 (s.reg Reg.swRingDaLo).toNat ++ leBytes 2 (fld (s.reg Reg.swRingDaHi) 15 0)

/-- A hand-off frame from DA up to the FCS, from a source address (R261). -/
def State.handFrame (s : State) (sa : List Byte) (h : HandOff) : List Byte :=
  let l := s.ringDa ++ padTo 6 sa ++ beBytes 2 (fld (s.reg Reg.swRingCtl) 31 16) ++ handBody h ++ leBytes 4 (crc32c (handBody h))
  l ++ List.replicate (60 - l.length) 0

/-- The ring port of a side. -/
def State.ringPort (s : State) (east : Bool) : Nat := if east then s.ringEast else s.ringWest

/-- The agent sends a frame on an up ring port, in queue 0 (R248, R255). -/
def State.ringPut (east : Bool) (h : HandOff) (s : State) : State :=
  if s.ringUp east then
    let l := s.handFrame (Config.ownMac s.dev.serial) h
    if s.cellsFor srcAgent (frameCells l) then s.storeFrame l srcAgent s.tick 0 none [s.ringPort east] else s.swDrop 2
  else s

/-- The agent sends a frame of its own: SRC is the part, and SEQ counts its frames of the TYPE (R261). -/
def State.ringSend (east : Bool) (typ : Nat) (payload : List Byte) (s : State) : State :=
  if s.ringUp east then
    let r := s.net.ring
    let n := Tbl.getD r.seq typ 0
    let h : HandOff := { ver := 1, typ := typ, hops := 0, src := s.dev.serial, dst := BitVec.allOnes 64, seq := word n, tag := 0,
                         payload := payload, checkOk := true }
    (s.setRing { r with seq := Tbl.set r.seq typ (n + 1) }).ringPut east h
  else s

/-- The agent takes a frame of a TYPE: dropped and counted with a bad CHECK, a reserved TYPE or VER, or the part's own SRC
(R262); a frame of another TYPE is another command's. -/
def State.ringTake (s : State) (east : Bool) (typ : Nat) (h : HandOff) (f : State → State) : State :=
  if s.coreUp && s.ringEn && s.ringUp east then
    if !h.checkOk || h.ver != 1 || decide (4 ≤ h.typ) || h.src == s.dev.serial then s.bump Reg.swRingBad
    else if h.typ = typ then f s else s
  else s

/-! ## Discovery (R263) -/

/-- A TOPO or READY payload (R261). -/
def topoBytes (west line : Bool) (l : List Nat) : List Byte :=
  leBytes 2 (l.length % 256 + 256 * b2n west + 512 * b2n line) ++ l.flatMap fun n => leBytes 8 n

/-- DIR (1 is west) and LINE of a payload. -/
def topoDir (l : List Byte) : Bool := bitOf (leAt l 0 2) 8
/-- LINE of a payload. -/
def topoLine (l : List Byte) : Bool := bitOf (leAt l 0 2) 9
/-- The serials of a payload. -/
def topoList (l : List Byte) : List Nat := (List.range (leAt l 0 1)).map fun i => leAt l (2 + 8 * i) 8

/-- RING_ANNOUNCE_TIMER. -/
def State.announce (s : State) : State :=
  if s.coreUp ∧ s.ringEn ∧ s.net.ring.st = .elect then
    let m := leBytes 8 s.net.ring.min
    (s.ringSend true 0 m).ringSend false 0 m
  else s

/-- RING_ANNOUNCE_TIMER. -/
def execRingAnnounceTimer (s : State) : Result := .next s.announce

/-- An ANNOUNCE lowers MIN, and below its own MIN it restarts a discovery that had ended (R263). -/
def State.announced (m : Nat) (s : State) : State :=
  if m < s.net.ring.min then
    let s := if s.net.ring.st = .elect then s else s.discover
    let r := s.net.ring
    if m < r.min then s.setRing { r with min := m, minAt := s.tick } else s
  else s

/-- RING_ANNOUNCE_RX. -/
def execRingAnnounceRx (east : Bool) (h : HandOff) (s : State) : Result :=
  .next (s.ringTake east 0 h fun s => s.announced (leAt h.payload 0 8))

/-- RING_ELECT_TIMEOUT: MIN unchanged for 20 ms and the part's own makes it master (R263). -/
def State.elected (s : State) : State :=
  let r := s.net.ring
  if s.coreUp ∧ s.ringEn ∧ r.st = .elect ∧ r.isMaster = false ∧ r.min = s.serialNo then
    let s := s.reach (r.minAt + msTicks 20)
    let s := s.setRing { r with isMaster := true, topo := 1, topoAt := s.tick, east := [], west := [], eastLine := false }
    s.ringSend true 1 (topoBytes false false [s.serialNo])
  else s

/-- RING_ELECT_TIMEOUT. -/
def execRingElectTimeout (s : State) : Result := .next s.elected

/-- The part takes its place on the ring or line (R263, R269): RING_READY, or RING_CHANGE where it had another place. -/
def State.ringReady (line : Bool) (l : List Nat) (s : State) : State :=
  match l.findIdx? (· == s.serialNo) with
  | none => s
  | some i =>
    let r := s.net.ring
    let moved := r.count != 0 && (r.pos != i || r.count != l.length || r.master != l.headD 0)
    (s.setRing { r with st := if line then .readyLine else .readyRing, pos := i, count := l.length, master := l.headD 0,
                        isMaster := i == 0, topo := 0 }).raiseInt .switch 0 (if moved then 2 else 1) 0

/-- The master sends READY for a line: the east list, then the west list without the master again (R263). -/
def State.lineReady (s : State) : State :=
  let r := s.net.ring
  let l := (if r.east.isEmpty then [s.serialNo] else r.east) ++ r.west.drop 1
  let p := topoBytes false true l
  ((s.ringSend true 2 p).ringSend false 2 p).ringReady true l

/-- The master tries the west side (R263). -/
def State.topoWest (s : State) : State :=
  let r := s.net.ring
  (s.setRing { r with topo := 2, topoAt := s.tick }).ringSend false 1 (topoBytes true false [s.serialNo])

/-- A TOPO at the master, of the west side where DIR is 1: the east one back on the west port without LINE makes a ring; otherwise the
west side is tried, and once both lists are back the line is ready (R263). -/
def State.topoBack (east dir line : Bool) (l : List Nat) (s : State) : State :=
  let r := s.net.ring
  if r.topo = 1 ∧ dir = false then
    if !east && !line then (s.ringSend true 2 (topoBytes false false l)).ringReady false l
    else (s.setRing { r with east := l, eastLine := true }).topoWest
  else if r.topo = 2 then
    let r := if dir then { r with west := l } else { r with east := l, eastLine := true }
    let s := s.setRing r
    if r.eastLine && !r.west.isEmpty then s.lineReady else s
  else s

/-- A TOPO at another part: it is extended and sent on, or returned with LINE; one on its way back passes through (R263). -/
def State.topoPass (east : Bool) (p : List Byte) (s : State) : State :=
  let l := topoList p
  if l.contains s.serialNo then s.ringSend (!east) 1 p
  else
    let l := l ++ [s.serialNo]
    if s.ringUp (!east) then s.ringSend (!east) 1 (topoBytes (topoDir p) false l)
    else s.ringSend east 1 (topoBytes (topoDir p) true l)

/-- RING_TOPO_RX. -/
def execRingTopoRx (east : Bool) (h : HandOff) (s : State) : Result :=
  .next (s.ringTake east 1 h fun s =>
    let l := topoList h.payload
    if l.head? = some s.serialNo then
      (if s.net.ring.isMaster then s.topoBack east (topoDir h.payload) (topoLine h.payload) l else s)
    else s.topoPass east h.payload)

/-- RING_TOPO_TIMEOUT (R263): after 10 ms the master tries west, and then ends with what has come back. -/
def State.topoLate (s : State) : State :=
  let r := s.net.ring
  if s.coreUp ∧ r.isMaster ∧ r.topo ≠ 0 then
    let s := s.reach (r.topoAt + msTicks 10)
    if r.topo = 1 then s.topoWest else s.lineReady
  else s

/-- RING_TOPO_TIMEOUT. -/
def execRingTopoTimeout (s : State) : Result := .next s.topoLate

/-- RING_READY_RX: the part takes its place and sends the READY on, up to the last part of the ring or line (R263). -/
def State.readyRx (east : Bool) (h : HandOff) (s : State) : State :=
  let l := topoList h.payload
  let line := topoLine h.payload
  if l.contains s.serialNo then
    let s := s.ringReady line l
    let last := !line && s.net.ring.pos + 1 == s.net.ring.count
    if last then s else s.ringPut (!east) { h with hops := h.hops + 1 }
  else s

/-- RING_READY_RX. -/
def execRingReadyRx (east : Bool) (h : HandOff) (s : State) : Result :=
  .next (s.ringTake east 2 h fun s => s.readyRx east h)

/-- RING_DATA_RX (R262). The source address of the sender before it is not in the hand-off fields: free. -/
def State.dataRx (east : Bool) (h : HandOff) (s : State) : State :=
  let all := h.dst == BitVec.allOnes 64
  let mine := h.dst == s.dev.serial
  let s := if all || mine then
      (s.toChannel (fld (s.reg Reg.swRingCh) 9 0) [] (s.handFrame (leBytes 6 (Config.freeNat s.free)) h)).spend
    else s
  if mine || decide (15 ≤ h.hops) then s else s.ringPut (!east) { h with hops := h.hops + 1 }

/-- RING_DATA_RX. -/
def execRingDataRx (east : Bool) (h : HandOff) (s : State) : Result :=
  .next (s.ringTake east 3 h fun s => s.dataRx east h)

/-! ## The weir (R265, R266, R272) -/

/-- Stores the weir. -/
def State.setWeir (w : Weir) (s : State) : State := { s with net := { s.net with weir := w } }

/-- The weir is to be closed (R265). -/
def State.weirShut (s : State) : Bool :=
  !s.up || s.dev.mode == .slack || s.dev.mode == .halt || !s.dev.resetN || !s.dev.pwrOk || flag (s.reg Reg.weirCtl) 0

/-- Quad `q` is a ring quad that the weir keeps from its balls, or is taking from them (R265, R267). -/
def State.weirTakes (s : State) (q : Nat) : Bool :=
  let w := s.net.weir
  s.part.hasWeir && decide (s.part.quads ≤ q + 2) && (w.closed || (match w.change with
    | some (c, _) => c
    | none => false))

/-- The ring quads' ports and PCIe links go down (R266, R267). -/
def State.weirPorts (s : State) : State :=
  if s.part.hasWeir then
    let s := (List.range 8).foldl (fun s k => s.portDown (4 * (s.part.quads - 2) + k)) s
    ((List.range s.part.pcieQuads).filter fun n => (s.linkQuads n).any fun q => decide (s.part.quads ≤ q + 2)).foldl
      (fun s n => s.linkDown n) s
  else s

/-- The weir follows R265: a change begins where its state is not the one asked for; closing takes the ring ports down. -/
def State.weirCheck (s : State) : State :=
  let w := s.net.weir
  if s.part.hasWeir = false ∨ w.stuck then s
  else
    let want := s.weirShut
    let going := match w.change with
      | some (c, _) => c
      | none => w.closed
    if going = want then s
    else
      let s := s.setWeir { w with change := if w.closed = want then none else some (want, s.tick) }
      if want then s.weirPorts else s

/-- WEIR_SWITCH_DONE (R265, R266). -/
def State.weirDone (s : State) : State :=
  let w := s.net.weir
  match w.change with
  | none => s
  | some (c, _) => (s.setWeir { w with closed := c, change := none }).bump Reg.weirSwitches

/-- WEIR_SWITCH_DONE. -/
def execWeirSwitchDone (s : State) : Result := .next (if s.part.hasWeir then s.weirDone else s)

/-- WEIR_HOLD_CLOSED_WRITE (R265). -/
def State.weirHold (v : Word) (s : State) : State := (s.setReg Reg.weirCtl (v &&& 1#32)).weirCheck

/-- WEIR_HOLD_CLOSED_WRITE. -/
def execWeirHoldClosedWrite (p : Path) (value : Word) (s : State) : Result :=
  .next (if s.takes p ∧ s.part.hasWeir then s.weirHold value else s)

end Sys2Proof.Machine
end

