-- ==== Sys2Proof/Machine/Pcie.lean ====
section
/-!
DEFINITION. PCIe links: configuration, link state, configuration space, inbound requests through BARs and root-port windows,
and completions (R298 to R311, R319). Where capability registers stand in configuration space is PRESUMED (assumption 14).
-/

namespace Sys2Proof.Machine

/-! ## Configuration (R298, R299) -/

/-- A configuration breaks a width or an alignment of R298 and R299. -/
def cfgShape (n : Nat) (v : Word) : Bool :=
  let w := fld v 5 4
  let r := fld v 1 0
  w == 3 || n % widthQuads w != 0 || (r == 2 && w == 2) || (r == 3 && w != 0)

/-- An enabled configuration of page `n` breaks a count of R298 or takes another enabled link's quads or renderer index. -/
def State.cfgClash (s : State) (n : Nat) (v : Word) : Bool :=
  let others := (List.range s.part.pcieQuads).filter fun k => k != n && s.linkEn k
  let mine := (List.range (widthQuads (fld v 5 4))).map (n + ·)
  let r := fld v 1 0
  let same := others.filter fun k => s.linkRole k == r
  flag v 16 && (others.any (fun k => (s.linkQuads k).any mine.contains) ||
    (r == 1 && !same.isEmpty) || (r == 2 && (decide (8 ≤ same.length) || same.any fun k => fld (s.pcieCfg k) 10 8 == fld v 10 8)) ||
    (r == 3 && decide (16 ≤ same.length)))

/-- A PCIE_CFG write that R299 discards. -/
def State.cfgRefused (s : State) (n : Nat) (v : Word) : Bool :=
  let old := s.pcieCfg n
  let changes := fld old 5 0 != fld v 5 0 || fld old 10 8 != fld v 10 8 || fld old 14 12 != fld v 14 12
  cfgShape n v || decide (s.part.pcieQuads < n + widthQuads (fld v 5 4)) || s.isMember n || (flag old 16 && changes) ||
    s.cfgClash n v

/-- A root port's controller after its link is gone for good: DOWN. -/
def State.nvmeDown (n : Nat) (s : State) : State :=
  let x := s.nvme n
  let s := x.cmds.foldl (fun s e => (s.nvmeDrop n e.1).nvmeFail e.2.chan 0x12 0) s
  s.setNvme n { Nvme.reset with resets := x.resets, nextCid := x.nextCid }

/-- A transfer in flight uses a link (R424). -/
def State.linkBusy (s : State) (n : Nat) : Bool :=
  (List.range 32).any fun e => match (s.dma e).cur with
    | some x => [bits x.ctl 3 0, bits x.ctl 7 4].any fun sp => decide (1 ≤ sp) && decide (sp ≤ 9) && s.openLink (sp - 1) == some n
    | none => false

/-- The domains of a link's quads are asked to power down (R424): transfers in flight run on for a time; with none, the link goes
down at once. `busy` is whether there were any before the write that asked. -/
def State.linkPowerOff (n : Nat) (busy : Bool) (s : State) : State :=
  if (s.link n).up then
    if busy then
      let ds := (s.linkQuads n).map fun q => ({ dom := .quad q, since := s.tick } : Drain)
      { s with clk := { s.clk with drains := s.clk.drains ++ ds } }
    else s.linkLost n
  else s

/-- Transfers still in flight on a link that powers down end with DOMAIN_OFF, and the link goes down (R424 step 3). -/
def State.linkCut (n : Nat) (s : State) : State :=
  let s := (List.range 32).foldl (fun s e =>
    match (s.dma e).cur with
    | none => s
    | some x =>
      if [bits x.ctl 3 0, bits x.ctl 7 4].any fun sp => decide (1 ≤ sp) && decide (sp ≤ 9) && s.openLink (sp - 1) == some n then
        let s := (s.setDma e { s.dma e with ending := some 6 }).dmaFinish e
        let s := match (s.dma e).cur with
          | some x => s.dmaEnd e x 6 0
          | none => s
        (s.bump Reg.pdDomainOff).raiseErr .clkpwr 0 2 Cap.none
      else s) s
  let s := { s with clk := { s.clk with drains := s.clk.drains.filter fun d => !((s.linkQuads n).any fun q => d.dom == Domain.quad q) } }
  s.linkLost n

/-- The pages of an enabled link's other quads hold no configuration (R299). -/
def State.membersClear (n : Nat) (s : State) : State :=
  { s with regs := s.regs.filter fun e => !((s.linkQuads n).any fun q => q != n && (pcieConfig e.1 && (Reg.pcieCfg q - 0x40) / 1024 == e.1 / 1024)) }

/-- A write to PCIE_CFG: discarded where it is refused; clearing EN powers the quads of the link down, and an NVMe command on a
root port then ends as at link loss (R299, R424). -/
def State.pcieWrite (p : Path) (n : Nat) (v : Word) (s : State) : State :=
  let v := v &&& 0x17733#32
  if s.cfgRefused n v then s.raiseErr .pcie n 1 (Cap.reg p (Reg.pcieCfg n))
  else
    let was := s.linkEn n
    let busy := s.linkBusy n
    let s := if s.linkDraining n then s.linkCut n else s
    let s := s.setReg (Reg.pcieCfg n) v
    let s := if flag v 16 then s.membersClear n else s
    if was ∧ flag v 16 = false then (s.linkPowerOff n busy).nvmeDown n else s

/-- PCIE_CFG_WRITE. -/
def execPcieCfgWrite (p : Path) (n : Nat) (value : Word) (s : State) : Result :=
  .next (if s.takes p ∧ n < s.part.pcieQuads then s.pcieWrite p n value else s)

/-! ## Link state (R299, R307) -/

/-- Every quad of a link has ROLE 2 and power, and the weir leaves it attached (R267, R299, R424). -/
def State.linkReady (s : State) (n : Nat) : Bool :=
  !(s.dev.mode == .off) && !(s.dev.mode == .halt) && s.linkEn n && s.linkRole n != 0 && !(s.link n).dead &&
    (s.linkQuads n).all fun q => s.quadRole q == 2 && !s.clk.quadsOff.contains q && !s.weirTakes q

/-- An endpoint can master again: RD_MIRROR is written once for each session that names it (R307). -/
def State.masterAgain (n : Nat) (s : State) : State :=
  if s.canMaster n then
    if s.linkRole n = 2 then
      (s.sessions.filter fun e => e.2.st != .free && dRenderer e.2.desc == fld (s.pcieCfg n) 10 8).foldl
        (fun s e => s.rdMirror e.1) s
    else s.msixFlush n
  else s

/-- PCIE_LINK_UP: the link trains to a rate and width within its configuration; 64 GT/s is in FLIT mode (R299, R300). -/
def State.linkGo (n rate width : Nat) (flit : Bool) (s : State) : State :=
  let ok := decide (1 ≤ rate) && decide (rate ≤ fld (s.pcieCfg n) 14 12) && decide (rate ≤ 6) &&
    [1, 2, 4, 8, 16].contains width && decide (width ≤ 4 * (s.linkQuads n).length) && (!(s.dev.mode == .slack) || rate == 1)
  if s.linkReady n ∧ (s.link n).up ∧ ok then s.setLink n { s.link n with rate := rate, width := width, flit := flit || rate == 6 }
  else if s.linkReady n ∧ ok then
    let l := s.link n
    let s := (s.setLink n { l with up := true, rate := rate, width := width, flit := flit || rate == 6, ltssm := 16 }).pawlEvent n 3
    if s.linkRole n = 3 then s.nvmeBegin n else s.masterAgain n
  else s

/-- PCIE_LINK_DOWN. -/
def execPcieLinkDown (n : Nat) (s : State) : Result := .next (s.linkDown n)

/-! ## Configuration space (R300, R302, R304, R306) -/

/-- Device ID by role (R302). -/
def State.deviceId (s : State) (role : Nat) : Nat := s.part.idWord + (if role = 2 then 0x100 else if role = 3 then 0x200 else 0)

/-- Size of the BAR that starts at a BAR register of an endpoint; 0 where there is none (R304). -/
def State.barSize (s : State) (n k : Nat) : Nat :=
  if k = 0 then 65536
  else if s.linkRole n = 1 ∧ k = 4 then 16384
  else if s.linkRole n = 2 ∧ k = 2 then
    let l := fld (s.reg (Reg.pcieAp n)) 5 0
    2 ^ (if 20 ≤ l ∧ l ≤ 36 then l else 20)
  else 0

/-- A BAR register: 64-bit memory, and the address bits that its size leaves writable. -/
def State.barWord (s : State) (n r : Nat) : Word :=
  let k := (r - 4) / 2 * 2
  let z := s.barSize n k
  if z = 0 then 0
  else
    let a := pair64 ((s.link n).cfgWord (4 + k)) ((s.link n).cfgWord (5 + k)) / z * z
    if r = 4 + k then loWord (a + 4 + (if k = 2 then 8 else 0)) else hiWord a

/-- The dwords of an endpoint's configuration space that the spec gives; none for the others, whose content the base
specification gives. -/
def State.cfgRead (s : State) (n r : Nat) : Option Word :=
  let l := s.link n
  let id := s.reg (Reg.pcieId n)
  if r = 0 then some (pack [(0, fld id 15 0), (16, s.deviceId (s.linkRole n))])
  else if r = 1 then some (l.cfgWord 1 &&& 0x7FF#32 ||| 0x100000#32)
  else if r = 2 then some (pack [(8, if s.linkRole n = 1 then 0x120000 else 0x048000)])
  else if r = 3 then some 0
  else if r < 10 then some (s.barWord n r)
  else if r = 11 then some (pack [(0, fld id 15 0), (16, fld id 31 16)])
  else if r = cfgPmcsr then some (l.cfgWord r &&& 3#32)
  else if r = cfgMsix ∧ s.linkRole n = 1 then some (pack [(0, 0x11), (16, 63)] ||| (l.cfgWord r &&& 0xC0000000#32))
  else if r = cfgDevCtl then some (l.cfgWord r &&& 0x7FFF#32)
  else none

/-- The writable bits of those dwords. -/
def cfgMask (r : Nat) : Word :=
  if r = 1 then 0x546#32 else if 4 ≤ r ∧ r < 10 then 0xFFFFFFFF#32 else if r = cfgPmcsr then 3#32
  else if r = cfgMsix then 0xC0000000#32 else if r = cfgDevCtl then 0x7FFF#32 else 0

/-- PCIE_CONFIG_REQUEST (R303): Retry Status during BRINGUP; otherwise read or written. -/
def State.configReq (n : Nat) (r : CfgReq) (s : State) : State :=
  if s.dev.mode = .bringup ∧ s.dev.resetN ∧ n < s.part.pcieQuads then s.emit (.answer n 3 [])
  else if !s.linkEn n || !(s.link n).up || s.linkRole n == 3 || s.linkRole n == 0 || !s.live then s
  else
    match r with
    | .read k =>
      match s.cfgRead n k with
      | some w => s.emit (.answer n 0 (leBytes 4 w.toNat))
      | none => (s.emit (.answer n 0 (leBytes 4 (Config.freeNat s.free)))).spend
    | .write k d =>
      let m := cfgMask k
      let before := s.canMaster n
      let l := s.link n
      let s := if m = 0 then s else s.setLink n { l with cfg := Tbl.set l.cfg k ((d &&& m) ||| (l.cfgWord k &&& ~~~m)) }
      let s := s.emit (.answer n 0 [])
      if before = false then s.masterAgain n else if k = cfgMsix then s.msixFlush n else s

/-! ## Inbound requests (R48, R65, R66, R304 to R311) -/

/-- A request that no BAR or window takes: Unsupported Request, counted (R305). -/
def State.urWrite (n : Nat) (s : State) : State := s.bump (Reg.pcieUrRx n)
/-- The same for a read, which is answered. -/
def State.urRead (n : Nat) (s : State) : State := (s.bump (Reg.pcieUrRx n)).emit (.answer n 1 [])

/-- CHAN_DB (R48). -/
def State.chanDb (v : Word) (s : State) : State :=
  match chanAction (fld v 15 12) with
  | some a =>
    if fld v 11 10 = 0 ∧ fld v 31 16 = 0 then s.chanCmd a .doorbell (fld v 9 0)
    else if s.coreUp then s.chanDiscard 3 (s.dbCap 0) else s
  | none => if s.coreUp then s.chanDiscard 3 (s.dbCap 0) else s

/-- A single-DWORD write to the host doorbell page (R48). -/
def State.hostDb (n off : Nat) (v : Word) (s : State) : State :=
  if off = 0 then s.chanDb v
  else if off = 0x100 then s.evqCons v.toNat (s.dbCap 0x100)
  else if off = 0x200 then s.srcDb v
  else s.bump (Reg.pcieDiscard n)

/-- A vector's 16 bytes (R304): address, data, mask. -/
def MsixVec.bytes (x : MsixVec) : List Byte := leBytes 8 x.addr ++ leBytes 4 x.data ++ leBytes 4 (b2n x.mask)

/-- One byte written to the MSI-X table. -/
def Link.msixPut (l : Link) (off : Nat) (b : Byte) : Link :=
  if off < 1024 then
    let x := l.vec (off / 16)
    let y := x.bytes.set (off % 16) b
    { l with vecs := Tbl.set l.vecs (off / 16) { x with addr := leAt y 0 8, data := leAt y 8 4, mask := bitOf (leAt y 12 1) 0 } }
  else l

/-- The content of the MSI-X BAR: the table, and the pending bits at 0x2000 (R304). -/
def Link.msixByte (l : Link) (off : Nat) : Byte :=
  if off < 1024 then (l.vec (off / 16)).bytes.getD (off % 16) 0
  else if 0x2000 ≤ off ∧ off < 0x2008 then
    byte ((List.range 8).foldl (fun a k => a + b2n (l.vec (8 * (off - 0x2000) + k)).pend * 2 ^ k) 0)
  else 0

/-- A write to the MSI-X BAR, the first DWORD under its byte enables. -/
def State.msixWrite (n off : Nat) (bytes : List Byte) (be : BitVec 4) (s : State) : State :=
  let l := bytes.zipIdx.foldl (fun l e => if e.2 < 4 ∧ be.getLsbD e.2 = false then l else l.msixPut (off + e.2) e.1) (s.link n)
  (s.setLink n l).msixFlush n

/-- The base and limit of a root port's inbound window (R310, R319). -/
def State.inWindow (s : State) (n a len : Nat) : Bool :=
  let base := 4096 * (s.reg64 (Reg.pcieInBaseLo n) / 4096)
  let limit := 4096 * (s.reg64 (Reg.pcieInLimitLo n) / 4096) + 4095
  decide (base ≤ a) && decide (a + len ≤ limit + 1)

/-- The NVMe commands in flight whose data lies at a part DRAM address. -/
def State.nvmeAt (s : State) (n a : Nat) : List (Nat × NvmeCmd) :=
  (s.nvme n).cmds.filter fun e => e.2.pieces.any fun p => decide (p.1 ≤ a) && decide (a < p.1 + p.2)

/-- The commands whose data an inbound write spoils end with DATA (R311, R318). -/
def State.nvmeSpoil (n a : Nat) (s : State) : State :=
  (s.nvmeAt n a).foldl (fun s e => (s.nvmeDrop n e.1).nvmeFail e.2.chan 0x15 0) s

/-- A refused request of a controller (R310). -/
def State.inRange (n a acc : Nat) (s : State) : State :=
  (s.bump (Reg.pcieUrRx n)).raiseErr .pcie n 4 (Cap.mem a (0x1C0 + n) acc)

/-- An inbound write at a root port: the MSI-X address, its window under R311, or refused (R310). -/
def State.rootWrite (n a : Nat) (bytes : List Byte) (be : BitVec 4) (s : State) : State :=
  if bytes.length = 4 ∧ be = 15 ∧ a = 0x1FFFFFFF000 then
    (s.setPawl n { s.pawl n with msi := (s.pawl n).msi ++ [leNat bytes % 65536] }).pawlEvent n 1
  else if s.inWindow n a bytes.length then
    if a % 64 ≠ 0 ∨ bytes.length % 64 ≠ 0 then s.nvmeSpoil n a
    else s.writeLines (0x1C0 + n) 0x1 a bytes
  else s.inRange n a 0x1

/-- A BAR write over a host link that SLACK keeps is discarded and counted (R422). -/
def State.slackWrite (n : Nat) (bar : Option Nat) (a len : Nat) (s : State) : State :=
  if !s.linkEn n || !(s.link n).up || s.linkRole n != 1 then s
  else if (bar = some 0 ∧ a + len ≤ 65536) ∨ (bar = some 4 ∧ a + len ≤ 16384) then s.bump (Reg.pcieDiscard n)
  else s.urWrite n

/-- PCIE_INBOUND_WRITE (R13, R65, R66, R305, R307, R308, R310). While part DRAM serves no request an endpoint that writes into it takes
no write at all, so that no doorbell passes a write before it (R13; DEDUCED, assumption 90). -/
def State.inWrite (n : Nat) (bar : Option Nat) (a : Nat) (bytes : List Byte) (be : BitVec 4) (poison : Bool) (s : State) : State :=
  let role := s.linkRole n
  if !s.coreUp || !(s.linkEn n || s.linkDraining n) || !(s.link n).up || (role != 1 && !s.memServes) then s
  else if poison then
    let s := s.bump (Reg.pciePoison n)
    if role = 3 then s.nvmeSpoil n a else s
  else if role = 3 then s.rootWrite n a bytes be
  else
    let dword := bytes.length == 4 && be == 15
    match bar with
    | some 0 =>
      if 65536 < a + bytes.length then s.urWrite n
      else if role = 1 then
        if !s.canMaster n then s
        else if dword then s.hostDb n a (word (leNat bytes)) else s.bump (Reg.pcieDiscard n)
      else if role = 2 then
        if !s.canMaster n then s
        else if dword && a == 0 then s.stripe (fld (s.pcieCfg n) 10 8) (word (leNat bytes)) else s.bump (Reg.pcieDiscard n)
      else s.urWrite n
    | some 2 =>
      if role = 2 ∧ a + bytes.length ≤ s.barSize n 2 then
        if !s.canMaster n then s
        else if a % 64 ≠ 0 ∨ bytes.length % 64 ≠ 0 ∨ bytes = [] then s.bump (Reg.pcieDiscard n)
        else s.writeLines (0x1C0 + n) 0x1 (s.reg64 (Reg.pcieApBaseLo n) + a) bytes
      else s.urWrite n
    | some 4 => if role = 1 ∧ a + bytes.length ≤ 16384 then s.msixWrite n a bytes be else s.urWrite n
    | _ => s.urWrite n

/-- A posted write: it stalls while the mode is BRINGUP (R303, R420). -/
def State.inbound (x : Inbound) (s : State) : State :=
  if s.dev.mode = .bringup then
    if s.dev.resetN ∧ x.link < s.part.pcieQuads then { s with stalled := s.stalled ++ [x] } else s
  else if s.live ∧ s.dev.mode = .slack then s.slackWrite x.link x.bar x.off x.bytes.length
  else s.inWrite x.link x.bar x.off x.bytes x.be x.poison

/-- PCIE_INBOUND_WRITE. -/
def execPcieInboundWrite (n : Nat) (bar : Option Nat) (addr : Nat) (bytes : List Byte) (be : BitVec 4) (poison : Bool)
    (s : State) : Result := .next (s.inbound ⟨n, bar, addr, bytes, be, poison⟩)

/-- The writes that stalled in BRINGUP come in once the endpoint takes them (R420; DEDUCED, assumption 131). -/
def State.unstall (n : Nat) (s : State) : State :=
  if s.canMaster n then
    (s.stalled.filter fun x => x.link == n).foldl (fun s x => s.inbound x) { s with stalled := s.stalled.filter fun x => !(x.link == n) }
  else s

/-- PCIE_LINK_UP. -/
def execPcieLinkUp (n rate width : Nat) (flit : Bool) (s : State) : Result := .next ((s.linkGo n rate width flit).unstall n)

/-- PCIE_CONFIG_REQUEST. -/
def execPcieConfigRequest (n : Nat) (r : CfgReq) (s : State) : Result := .next ((s.configReq n r).unstall n)

/-- PCIE_INBOUND_READ (R48, R304, R305, R310): a doorbell page and an aperture answer Unsupported Request, and so
does every BAR of a host link that SLACK keeps (assumption 131). -/
def State.inRead (n : Nat) (bar : Option Nat) (a len : Nat) (s : State) : State :=
  let role := s.linkRole n
  if s.live && s.dev.mode == .slack && s.linkEn n && (s.link n).up && role == 1 then s.emit (.answer n 1 [])
  else if !s.coreUp || !(s.linkEn n || s.linkDraining n) || !(s.link n).up then s
  else if role = 3 then
    if s.inWindow n a len then
      if s.memServes then
        match s.readBytes (0x1C0 + n) 0x0 a len with
        | (some l, s) => s.emit (.answer n 0 l)
        | (none, s) => s.emit (.answer n 2 [])
      else s
    else (s.inRange n a 0x0).emit (.answer n 1 [])
  else if role = 1 ∧ bar = some 4 ∧ a + len ≤ 16384 then s.emit (.answer n 0 ((List.range len).map fun i => (s.link n).msixByte (a + i)))
  else s.urRead n

/-- PCIE_INBOUND_READ. -/
def execPcieInboundRead (n : Nat) (bar : Option Nat) (addr len : Nat) (s : State) : Result := .next (s.inRead n bar addr len)

/-! ## Completions of the part's reads (R308) -/

/-- The outside memory behind an endpoint. -/
def State.spaceOf (s : State) (n : Nat) : Option Nat :=
  if s.linkRole n = 1 then some 0 else if s.linkRole n = 2 then some (fld (s.pcieCfg n) 10 8 + 1) else none

/-- PCIE_COMPLETION: data, or an errored completion (R308). -/
def State.completion (n a : Nat) (bytes : List Byte) (ok : Bool) (s : State) : State :=
  if !s.coreUp || !(s.linkEn n || s.linkDraining n) || !(s.link n).up then s
  else
    let s := if ok then s else s.bump (Reg.pciePoison n)
    match s.spaceOf n with
    | none => s
    | some sp =>
      { s with ext := Tbl.setAll s.ext (bytes.zipIdx.map fun e => (extKey sp (a + e.2), if ok then some e.1 else none)) }

/-- PCIE_COMPLETION. -/
def execPcieCompletion (n addr : Nat) (bytes : List Byte) (ok : Bool) (s : State) : Result :=
  .next (s.completion n addr bytes ok)

/-- PCIE_CPL_TIMEOUT: the request that starts at an address fails (R308). -/
def State.cplTimeout (n a : Nat) (s : State) : State :=
  if !s.coreUp || !(s.linkEn n || s.linkDraining n) || !(s.link n).up then s
  else
    let s := s.bump (Reg.pcieCplTo n)
    match s.spaceOf n with
    | none => s
    | some sp => { s with ext := Tbl.set s.ext (extKey sp a) none }

/-- PCIE_CPL_TIMEOUT. -/
def execPcieCplTimeout (n addr : Nat) (s : State) : Result := .next (s.cplTimeout n addr)

/-! ## Quad roles and power domains (R240, R299, R424) -/

/-- A QUAD_CFG write; a PCIe link whose quad leaves ROLE 2 goes down, after a drain where ROLE 0 powers the quad down. -/
def State.quadCfgPut (p : Path) (q : Nat) (v : Word) (s : State) : State :=
  let l := s.linkOfQuad q
  let busy := (l.map s.linkBusy).getD false
  let s := s.quadWrite p q v
  match l with
  | some n =>
    if s.quadRole q = 2 ∨ (s.link n).up = false then s
    else if s.quadRole q = 0 ∧ busy then s.linkPowerOff n true else s.linkDown n
  | none => s

/-- QUAD_CFG_WRITE. -/
def execQuadCfgWrite (p : Path) (q : Nat) (value : Word) (s : State) : Result :=
  .next (if s.takes p ∧ q < s.part.quads then s.quadCfgPut p q value else s)

/-- PD_DRAIN_EXPIRY (R424): PD_DRAIN_US has passed since the domain was asked to power down. -/
def State.drainExpiry (dom : Domain) (s : State) : State :=
  match s.clk.drains.find? fun d => d.dom == dom, dom with
  | some d, .quad q =>
    let s := s.reach (d.since + usTicks (max 1 (fld (s.reg Reg.pdDrainUs) 15 0)))
    ((List.range s.part.pcieQuads).filter fun n => s.linkDraining n && (s.linkQuads n).contains q).foldl (fun s n => s.linkCut n) s
  | some _, .core => { s with clk := { s.clk with drains := s.clk.drains.filter fun d => !(d.dom == .core) } }
  | none, _ => s

/-- PD_DRAIN_EXPIRY. -/
def execPdDrainExpiry (dom : Domain) (s : State) : Result := .next (if s.up then s.drainExpiry dom else s)

end Sys2Proof.Machine
end

