-- ==== Sys2Proof/Machine/Ibreham.lean ====
section
/-!
DEFINITION. Ibreham: derived keys, the commands on key slots, attestation, and the opening of sealed chunks (R333, R453 to
R460, R462, R464). The cryptographic primitives are the named standards' (assumption 25).
-/

namespace Sys2Proof.Machine

/-! ## Derived keys (R453, R454) -/

/-- The device root secret in use: zero while the debug lock is not fused (R454). -/
def State.drs (s : State) : List Byte := if s.ibr.locked then s.ibr.drs else List.replicate 32 0

/-- KDF(DRS, L) to `bits` bits (R453). -/
def State.kdf (s : State) (label : List Byte) (outBits : Nat) : List Byte :=
  let blocks := (List.range (ceilDiv outBits 128)).flatMap fun i =>
    Config.cmac s.drs (beBytes 4 (i + 1) ++ label ++ [0] ++ leBytes 8 s.serialNo ++ beBytes 4 outBits)
  blocks.take (outBits / 8)

/-- DKEK: label "ZKEK". -/
def State.dkek (s : State) : List Byte := s.kdf [0x5A, 0x4B, 0x45, 0x4B] 256

/-- The order of P-384 (FIPS 186-5). -/
def p384Order : Nat :=
  0xFFFFFFFFFFFFFFFFFFFFFFFFFFFFFFFFFFFFFFFFFFFFFFFFC7634D81F4372DDF581A0DB248B0A77AECEC196ACCC52973

/-- IDK, the identity key's private scalar: label "ZIDK" (R453). -/
def State.idk (s : State) : List Byte := beBytes 48 (beNat (s.kdf [0x5A, 0x49, 0x44, 0x4B] 448) % (p384Order - 1) + 1)

/-! ## Commands on key slots (R456 to R459) -/

/-- A slot that a session names, or the KEK of a queued IMPORT (R231, R459). -/
def State.slotBound (s : State) (n : Nat) : Bool :=
  (s.sessions.any fun e => e.2.st != .free &&
    (let x := e.2.pkt
     x.tx.slot == n || x.rx.slot == n || x.old.contains n ||
       (match x.armed with
        | some (_, t, r) => t.slot == n || r.slot == n
        | none => false))) ||
  (s.decs.any fun e => e.2.st != .free && eeNet e.2.desc && eeKey e.2.desc == n) ||
  (s.ibr.queue.any fun c => c.cmd == 1 && c.kek == n)

/-- Stores Ibreham. -/
def State.setIbr (x : Ibreham) (s : State) : State := { s with ibr := x }

/-- A command of a path ends with a RESULT (R457). -/
def State.ibrResult (p : Path) (res : Nat) (s : State) : State :=
  match p with
  | .i3c => s.setIbr { s.ibr with resI3c := res }
  | .regload => s.setIbr { s.ibr with resReg := res }

/-- The plaintext of a blob (R456): its TYPE, tag, key and salt, where its fields are as R456 gives. -/
def blobFields (p : List Byte) (tail : List Byte) : Option KeySlot :=
  let t := leAt p 0 1
  let want := if t = 2 then 56 else 40
  if 1 ≤ t ∧ t ≤ 3 ∧ leAt p 1 1 = 1 ∧ leAt p 2 2 = 0 ∧ p.length = want ∧ leAt p 52 4 = 0 ∧ leNat tail = 0 then
    some { typ := t, tag := leAt p 4 4, key := slice p 8 32, salt := slice p 40 12, uses := 0 }
  else none

/-- What a blob unwraps to: BAD_WRAP, BAD_TYPE, or a slot's content (R456 to R458). Its wrapped length is 48 or 64 bytes. -/
def unwrapBlob (kek l : List Byte) : Except Nat KeySlot :=
  match Config.keyUnwrap kek (l.take 48) with
  | some p =>
    match blobFields p (l.drop 48) with
    | some x => .ok x
    | none => .error 2
  | none =>
    match Config.keyUnwrap kek l with
    | some p =>
      match blobFields p [] with
      | some x => .ok x
      | none => .error 2
    | none => .error 1

/-- A read of a key blob, nonce or public key; none where it fails (R492). -/
def State.blobRead (a n : Nat) (s : State) : Option (List Byte) × State := s.readBytes 0x127 0x0 a n

/-- IMPORT, its conditions in the order of R458; a line that fails gives no blob that unwraps. -/
def State.importKey (c : IbrCmd) (s : State) : Nat × State :=
  if s.dramSize < c.addr + 64 then (7, s)
  else if c.kek ≠ 0xFFFF ∧ (4096 ≤ c.kek ∨ (s.slot c.kek).typ ≠ 3) then (4, s)
  else if (s.slot c.slot).typ ≠ 0 then (3, s)
  else
    match s.blobRead c.addr 64 with
    | (none, s) => (1, s)
    | (some l, s) =>
      match unwrapBlob (if c.kek = 0xFFFF then s.dkek else (s.slot c.kek).key) l with
      | .error e => (e, s)
      | .ok x => (0, s.setSlot c.slot x)

/-- CLEAR (R459). -/
def State.clearKey (n : Nat) (s : State) : Nat × State :=
  if s.slotBound n then (3, s) else (0, s.setSlot n KeySlot.empty)

/-- The DIGEST of a library slot, or zero bytes for one absent. -/
def State.libDigest (s : State) (k : Nat) : List Byte :=
  if (s.lib k).valid then slice (s.lib k).image 0x40 48 else List.replicate 48 0

/-- A digest list entry: 48 bytes, zero where the image is absent. -/
def digest48 (l : List Byte) : List Byte := padTo 48 l

/-- The digest of the first core that holds an image of a kind. -/
def firstDigest (l : List (List Byte)) : List Byte := digest48 ((l.find? fun d => !d.isEmpty).getD [])

/-- MEASURE (R462): library slots, CP base image, CP extension image, pawl image, and the reserved IMAGE_ID 0. -/
def State.measure (s : State) : List Byte :=
  let cps := (List.range s.part.cpsPhys).map s.cp
  let pawls := (List.range s.part.quads).map s.pawl
  Config.sha384 ((List.range 16).flatMap s.libDigest ++ firstDigest (cps.map (·.baseDig)) ++ firstDigest (cps.map (·.extDig)) ++
    firstDigest (pawls.map (·.dig)) ++ List.replicate 48 0)

/-- The report up to its signature (R462). -/
def State.report_ (s : State) (nonce : List Byte) : List Byte :=
  let w := b2n s.ibr.locked + 2 * b2n s.ibr.cpk.isSome + 4 * b2n (s.ibr.tamper != 0) + 16 * s.dev.mode.code
  leBytes 4 0x5A415431 ++ leBytes 4 1 ++ leBytes 8 s.serialNo ++ leBytes 4 (s.part.idWord + 0xB00000) ++ leBytes 4 w ++
    leBytes 8 s.tick ++ nonce ++ padTo 48 s.measure ++ padTo 96 (Config.ecdsaPublic s.idk)

/-- ATTEST (R462). -/
def State.attest (c : IbrCmd) (s : State) : Nat × State :=
  if s.dramSize < c.addr + 64 + 320 then (7, s)
  else
    match s.blobRead c.addr 48 with
    | (none, s) => (7, s)
    | (some nonce, s) =>
      let r := s.report_ nonce
      (0, s.writeBytes 0x127 0x1 (c.addr + 64) (r ++ padTo 96 (Config.ecdsaSign s.idk r)))

/-- FUSE_CUST (R457): the key is fused once, in STANDBY. -/
def State.fuseCust (c : IbrCmd) (s : State) : Nat × State :=
  if s.ibr.cpk.isSome then (5, s)
  else if s.dev.mode ≠ .standby then (6, s)
  else if s.dramSize < c.addr + 96 then (7, s)
  else
    match s.blobRead c.addr 96 with
    | (none, s) => (7, s)
    | (some l, s) => (0, s.setIbr { s.ibr with cpk := if leNat l = 0 then none else some l })

/-- What a command does when it ends (R457). -/
def State.ibrRun (c : IbrCmd) (s : State) : Nat × State :=
  if c.cmd = 1 then s.importKey c
  else if c.cmd = 2 then s.clearKey c.slot
  else if c.cmd = 3 then s.attest c
  else s.fuseCust c

/-- The command at the head of the queue ends. -/
def State.ibrHead (s : State) : State :=
  match s.ibr.queue with
  | [] => s
  | c :: t =>
    let (r, s) := (s.setIbr { s.ibr with queue := t }).ibrRun c
    s.ibrResult c.path r

/-- CLEARs at the head of the queue end as soon as they are reached. -/
def State.ibrClears : Nat → State → State
  | 0, s => s
  | k + 1, s =>
    match s.ibr.queue with
    | c :: _ => if c.cmd = 2 then s.ibrHead.ibrClears k else s
    | [] => s

/-- A command joins the queue (R457); a CLEAR at its head ends at once. -/
def State.ibrPut (p : Path) (cmd slot kek : Nat) (s : State) : State :=
  let c : IbrCmd := ⟨p, cmd, slot, kek, s.preg64 p Reg.ibrAddrLo / 64 * 64⟩
  (s.setIbr { s.ibr with queue := s.ibr.queue ++ [c] }).ibrClears 1

/-- IBR_IMPORT. -/
def execIbrImport (p : Path) (slot kek : Nat) (s : State) : Result :=
  .next (if s.takes p ∧ slot < 4096 then s.ibrPut p 1 slot kek else s)

/-- IBR_CLEAR. -/
def execIbrClear (p : Path) (slot : Nat) (s : State) : Result :=
  .next (if s.takes p ∧ slot < 4096 then s.ibrPut p 2 slot 0 else s)

/-- IBR_ATTEST. -/
def execIbrAttest (p : Path) (s : State) : Result := .next (if s.takes p then s.ibrPut p 3 0 0 else s)

/-- IBR_FUSE_CUST. -/
def execIbrFuseCust (p : Path) (s : State) : Result := .next (if s.takes p then s.ibrPut p 4 0 0 else s)

/-- IBR_COMMAND_DONE (R457): the command in progress ends, and CLEARs behind it with it. -/
def State.ibrDone (s : State) : State := let s := s.ibrHead; s.ibrClears s.ibr.queue.length

/-- IBR_COMMAND_DONE. -/
def execIbrCommandDone (s : State) : Result := .next (if s.live ∧ s.memServes then s.ibrDone else s)

/-! ## Sealed chunks (R333, R460) -/

/-- A failed authentication counts (R460). -/
def State.authFail (s : State) : State := (s.bump Reg.ibrAuthFail).raiseErr .ibreham 0 4 Cap.none

/-- Opens a sealed chunk under a latched key: the plaintext, or an authentication failure (R333, R460). -/
def State.openChunk (key chunk : List Byte) (s : State) : Option (List Byte) × State :=
  let n := leAt chunk 12 4
  if chunk.length < 32 ∨ chunk.length - 32 < n then (none, s.authFail)
  else
    match gcmOpened key (chunk.take 12) (slice chunk 12 4) (slice chunk 32 n) (slice chunk 16 16) with
    | some p => (some p, s.add64 Reg.ibrOpenedLo p.length)
    | none => (none, s.authFail)

/-- KCV of a slot (R464). -/
def KeySlot.kcv (x : KeySlot) : Nat := if x.typ = 0 then 0 else beAt (Config.aes256 x.key (List.replicate 16 0)) 0 3

end Sys2Proof.Machine
end

