-- ==== Sys2Proof/Machine/Ledger.lean ====
section
/-!
DEFINITION. The Ledger: records, the writes that the part makes, and the commands (R427 to R434). The flash itself is the two
banks as R430 reads them; its sectors and pages show only in the time a write takes.
-/

namespace Sys2Proof.Machine

/-- The master of Ledger accesses to part DRAM (R492). -/
def ldgMaster : Nat := 0x129

/-! ## Records (R428 to R430) -/

/-- SEQ `a` is ahead of `b` (R430). -/
def seqAhead (a b : Nat) : Bool :=
  let d := (a + 2 ^ 32 - b % 2 ^ 32) % 2 ^ 32
  decide (1 ≤ d) && decide (d < 2 ^ 31)

/-- The record of a bank, where it is valid. -/
def LdgBank.record? : LdgBank → Option LdgRecord
  | .valid r => some r
  | _ => none

/-- The newest valid record and its bank (R430). -/
def Ledger.newest (l : Ledger) : Option (Nat × LdgRecord) :=
  match l.bank0, l.bank1 with
  | .valid a, .valid b => if seqAhead b.seq a.seq then some (1, b) else some (0, a)
  | .valid a, _ => some (0, a)
  | _, .valid b => some (1, b)
  | _, _ => none

/-- The valid records, newest first (R430). -/
def Ledger.records (l : Ledger) : List LdgRecord :=
  match l.newest with
  | none => []
  | some (k, r) => r :: ((if k = 0 then l.bank1 else l.bank0).record?).toList

/-- The record that a section is taken from: the newest, or the other where the newest has a failing SCRC and the other has the
section (R430). -/
def Ledger.source (l : Ledger) (t : Nat) : Option LdgRecord := l.records.find? fun r => !r.bad.contains t

/-- The bytes of a section that software or the board supplied (R429). -/
def Ledger.section? (l : Ledger) (t : Nat) : Option (List Byte) :=
  (l.source t).bind fun r => Tbl.get? r.secs t

/-- The fault history that the Ledger holds. -/
def Ledger.history (l : Ledger) : List LdgFault := ((l.source 7).map fun r => r.faults).getD []

/-- Stores what a bank holds. -/
def Ledger.setBank (l : Ledger) (k : Nat) (b : LdgBank) : Ledger := if k = 0 then { l with bank0 := b } else { l with bank1 := b }

/-- Stores the Ledger. -/
def State.setLdg (l : Ledger) (s : State) : State := { s with ldg := l }

/-- The 32 bytes of a fault entry (R429). -/
def LdgFault.bytes (e : LdgFault) : List Byte :=
  leBytes 8 e.time ++ [byte e.page, byte e.src, byte e.cls, byte e.mode] ++
  leBytes 4 (2 ^ 20 * e.master.toNat + 2 ^ 16 * e.acc.toNat + e.merged) ++ leBytes 8 e.addr.toNat ++ leBytes 4 e.por ++
  [byte e.buFail, 0, 0, 0]

/-- Updates that no record carries yet (R431). -/
def Ledger.updates (l : Ledger) : Bool := !l.faults.isEmpty || l.retireP || l.wearP

/-- LDG_STAT.BUSY (R434). -/
def Ledger.busy (l : Ledger) : Bool := l.write.isSome || l.read.isSome

/-- The record that a section table makes now: SEQ one ahead of the newest, the part's own WEAR, FAULTS and RETIRE (R429,
R431). -/
def Ledger.next (l : Ledger) (secs : Tbl (List Byte)) : LdgRecord :=
  let all := l.history ++ l.faults
  { seq := ((l.newest.map fun e => e.2.seq).getD 0 + 1) % 2 ^ 32, wear := { l.wear with writes := sat32 (l.wear.writes + 1) },
    faults := all.drop (all.length - 4096), retire := l.retire, secs := secs, bad := [] }

/-- The sections that a new record takes over from those in the flash. -/
def Ledger.secs (l : Ledger) : Tbl (List Byte) :=
  [1, 2, 3, 4, 5, 9, 10].filterMap fun t => (l.section? t).map fun b => (t, b)

/-- A record write begins (R431): into the bank that does not hold the newest valid record. The erase takes its MAGIC, and the
header comes last, so that bank is blank until the write ends (DEDUCED, assumption 130). -/
def Ledger.start (l : Ledger) (cmd : Option LdgCmd) (secs : Tbl (List Byte)) (now : Nat) : Ledger :=
  let k := match l.newest with
    | some (0, _) => 1
    | _ => 0
  let w : LdgWrite := { bank := k, record := l.next secs, added := l.faults, retireP := l.retireP, wearP := l.wearP, cmd := cmd,
                        retry := false, since := now }
  { l.setBank k .blank with write := some w, faults := [], retireP := false, wearP := false }

/-- A write that a reset abandons: its updates stay pending (R431). -/
def Ledger.abandon (l : Ledger) : Ledger :=
  match l.write with
  | none => { l with read := none }
  | some w => { l with write := none, read := none, faults := w.added ++ l.faults, retireP := l.retireP || w.retireP,
                       wearP := l.wearP || w.wearP }

/-- LDG_MIN_INTERVAL_S has passed since the last write, or HALT ignores it (R431). -/
def State.ldgDue (s : State) : Bool :=
  s.dev.mode == .halt ||
  match s.ldg.lastAt with
  | none => true
  | some t => decide (t + secTicks (fld (s.reg Reg.ldgMinIntervalS) 15 0) ≤ s.tick)

/-- The part writes the merged updates now (R431). -/
def State.ldgFlush (s : State) : State :=
  if (s.up ∨ s.dev.stuck) ∧ s.ldg.updates ∧ s.ldg.busy = false then s.setLdg (s.ldg.start none s.ldg.secs s.tick) else s

/-- The part writes the merged updates, when it may (R431). -/
def State.ldgWrite (s : State) : State := if s.ldgDue then s.ldgFlush else s

/-- LEDGER_RECORD_WRITE. -/
def execLedgerRecordWrite (s : State) : Result := .next s.ldgWrite

/-- LEDGER_INTERVAL_EXPIRY (R431). -/
def State.ldgInterval (s : State) : State :=
  match s.ldg.lastAt with
  | some t => if s.up ∧ s.ldg.updates then (s.reach (t + secTicks (fld (s.reg Reg.ldgMinIntervalS) 15 0))).ldgWrite else s
  | none => s.ldgWrite

/-- LEDGER_INTERVAL_EXPIRY. -/
def execLedgerIntervalExpiry (s : State) : Result := .next s.ldgInterval

/-- LEDGER_WEAR_UPDATE (R431): WEAR is one of the updates that the next write carries. -/
def State.ldgWear (s : State) : State := ({ s with ldg := { s.ldg with wearP := true } }).ldgWrite

/-- LEDGER_WEAR_UPDATE. -/
def execLedgerWearUpdate (s : State) : Result := .next (if s.up then s.ldgWear else s)

/-- WEAR_HOUR_COUNT (R429): one hour in the band of DEV_TJ_MAX, in sixteenths of a degree (R432). -/
def State.wearHour (s : State) : State :=
  let t := signed 16 (fld (s.reg Reg.devTjMax) 15 0)
  let w := s.ldg.wear
  let w := if t < 1760 then { w with hoursLow := sat32 (w.hoursLow + 1) }
    else if t ≤ 2400 then { w with hoursMid := sat32 (w.hoursMid + 1) } else { w with hoursTop := sat32 (w.hoursTop + 1) }
  s.setLdg { s.ldg with wear := w }

/-- WEAR_HOUR_COUNT. -/
def execWearHourCount (s : State) : Result := .next (if s.up then s.wearHour else s)

/-! ## The end of a write (R431) -/

/-- A failed verification: WRITE_FAIL and one retry; then the updates stay pending and a command ends with FLASH_ERR. -/
def State.ldgFailed (w : LdgWrite) (s : State) : State :=
  let s := if w.retry then
      let l := s.ldg
      s.setLdg { l.abandon.setBank w.bank .bad with lastAt := some s.tick, result := if w.cmd.isSome then 3 else l.result }
    else s.setLdg { s.ldg with write := some { w with retry := true, since := s.tick } }
  s.raiseErr .ledger 0 1 Cap.none

/-- LEDGER_WRITE_DONE. -/
def State.ldgDone (verified : Bool) (s : State) : State :=
  match s.ldg.write with
  | none => s
  | some w =>
    if verified then
      let l := s.ldg.setBank w.bank (.valid w.record)
      s.setLdg { l with write := none, lastAt := some s.tick, wear := { l.wear with writes := w.record.wear.writes },
                        result := if w.cmd.isSome then 0 else l.result }
    else s.ldgFailed w

/-- LEDGER_WRITE_DONE. -/
def execLedgerWriteDone (verified : Bool) (s : State) : Result := .next (if s.up ∨ s.dev.stuck then s.ldgDone verified else s)

/-- LEDGER_FLASH_TIMEOUT (R431): an erase or a program has run past its limit; at least the shorter limit, 10 ms, has passed. -/
def State.ldgLate (s : State) : State :=
  match s.ldg.write with
  | none => s
  | some w => (s.reach (w.since + msTicks 10)).ldgFailed w

/-- LEDGER_FLASH_TIMEOUT. -/
def execLedgerFlashTimeout (s : State) : Result := .next (if s.up ∨ s.dev.stuck then s.ldgLate else s)

/-! ## Records that software supplies (R428, R429, R434) -/

/-- One section of a record, by its directory entry. -/
def ldgSection (l : List Byte) (i : Nat) : Option (Nat × List Byte) :=
  let e := slice l (0x40 + 16 * i) 16
  let (typ, off, len) := (leAt e 0 4, leAt e 4 4, leAt e 8 4)
  if 1 ≤ typ ∧ typ ≤ 10 ∧ off % 64 = 0 ∧ off + len ≤ leAt l 8 4 ∧ crc32 (slice l off len) = leAt e 12 4 ∧
      (typ = 8 → len = 48) ∧ (typ = 9 → len ≤ 2 ^ 20) ∧ (typ = 7 → len % 32 = 0 ∧ len ≤ 131072) then
    some (typ, slice l off len)
  else none

/-- The sections of a record whose header, directory and SCRCs check, without those that the part replaces; none where they
do not. -/
def ldgParse (l : List Byte) : Option (Tbl (List Byte)) :=
  let n := leAt l 0xD 1
  let secs := (List.range n).filterMap (ldgSection l)
  let types := secs.map (·.1)
  if leAt l 0 4 = 0x5A4C4752 ∧ leAt l 0xC 1 = 1 ∧ 1 ≤ n ∧ n ≤ 16 ∧ leAt l 8 4 ≤ l.length ∧
      crc32 (l.take 0x10 ++ slice l 0x40 (16 * n)) = leAt l 0x10 4 ∧ secs.length = n ∧ types.dedup.length = n ∧
      [1, 2, 3, 4].all (fun k => types.contains k) then
    some (Tbl.setAll [] (secs.filter fun e => !([6, 7, 8].contains e.1)))
  else none

/-! ## Commands (R434) -/

/-- LDG_LEN. -/
def State.ldgLen (s : State) : Nat := fld (s.reg Reg.ldgLen) 24 0
/-- LDG_ADDR. -/
def State.ldgAddr (s : State) : Nat := s.reg64 Reg.ldgAddrLo / 64 * 64

/-- LDG_STAT.RESULT. -/
def State.ldgResult (r : Nat) (s : State) : State := s.setLdg { s.ldg with result := r }

/-- A command ends with BAD_LEN. -/
def State.ldgBadLen (p : Path) (s : State) : State := (s.ldgResult 1).raiseErr .ledger 0 2 (Cap.reg p Reg.ldgCmd)

/-- What a command has read; an unreadable line ends it with FLASH_ERR and the page's own CONTAIN error (R405). -/
def ldgTaken (addr : Nat) (r : Option (List Byte) × State) : Option (List Byte) × State :=
  match r with
  | (some l, s) => (some l, s)
  | (none, s) => (none, (s.ldgResult 3).raiseErr .ledger 0 1 (Cap.mem addr ldgMaster 0x0))

/-- The bytes that a command reads. -/
def State.ldgRead (s : State) : Option (List Byte) × State := ldgTaken s.ldgAddr (s.readBytes ldgMaster 0x0 s.ldgAddr s.ldgLen)

/-- WRITE_RECORD's checks and its write. -/
def State.ldgPut (l : List Byte) (s : State) : State :=
  match ldgParse l with
  | none => s.ldgResult 2
  | some secs =>
    let codes := [2, 3, 4].flatMap fun t => s.secImgs t (Tbl.getD secs t [])
    match codes.find? (· != 0) with
    | some c => (s.ldgResult 5).imgBad s.ldgAddr c
    | none => s.setLdg (s.ldg.start (some .writeRecord) secs s.tick)

/-- A Ledger command: BUSY while a command or a write is in progress. -/
def State.ldgCmd (p : Path) (c : LdgCmd) (s : State) : State :=
  if s.ldg.busy then s.ldgResult 4
  else
    match c with
    | .sync => if s.ldg.updates then s.setLdg (s.ldg.start (some .sync) s.ldg.secs s.tick) else s.ldgResult 0
    | .writeUser =>
      if s.ldgLen % 64 ≠ 0 ∨ 2 ^ 20 < s.ldgLen then s.ldgBadLen p
      else
        match s.ldgRead with
        | (none, s) => s
        | (some l, s) => s.setLdg (s.ldg.start (some .writeUser) (Tbl.set s.ldg.secs 9 l) s.tick)
    | .writeRecord =>
      if s.ldgLen % 64 ≠ 0 ∨ s.ldgLen = 0 ∨ 2 ^ 24 < s.ldgLen then s.ldgBadLen p
      else
        match s.ldgRead with
        | (none, s) => s
        | (some l, s) => s.ldgPut l
    | .clearRetire =>
      let l := s.ldg
      let join := fun (a b : List Nat) => (a ++ b).dedup
      let held : Retire := { stones := join l.retire.stones l.heldRetire.stones, runners := join l.retire.runners l.heldRetire.runners,
                             cps := join l.retire.cps l.heldRetire.cps }
      s.setLdg ({ l with retire := Retire.none, heldRetire := held }.start (some .clearRetire) l.secs s.tick)
    | c => s.setLdg { s.ldg with read := some (c, s.ldgAddr) }

/-- LDG_SYNC. -/
def execLdgSync (p : Path) (s : State) : Result := .next (if s.takes p then s.ldgCmd p .sync else s)
/-- LDG_WRITE_USER. -/
def execLdgWriteUser (p : Path) (s : State) : Result := .next (if s.takes p then s.ldgCmd p .writeUser else s)
/-- LDG_READ_USER. -/
def execLdgReadUser (p : Path) (s : State) : Result := .next (if s.takes p then s.ldgCmd p .readUser else s)
/-- LDG_WRITE_RECORD. -/
def execLdgWriteRecord (p : Path) (s : State) : Result := .next (if s.takes p then s.ldgCmd p .writeRecord else s)
/-- LDG_CLEAR_RETIRE. -/
def execLdgClearRetire (p : Path) (s : State) : Result := .next (if s.takes p then s.ldgCmd p .clearRetire else s)
/-- LDG_READ_FAULTS. -/
def execLdgReadFaults (p : Path) (s : State) : Result := .next (if s.takes p then s.ldgCmd p .readFaults else s)

/-- The bytes that a read command copies: the USER section, or the fault history of the newest record (R434). -/
def Ledger.readData (l : Ledger) (c : LdgCmd) : List Byte :=
  if c = .readUser then (l.section? 9).getD [] else l.history.flatMap LdgFault.bytes

/-- The section that a command reads fails its SCRC (R430). -/
def Ledger.spoilt (l : Ledger) (types : List Nat) : Bool := types.any fun t => l.records.any fun r => r.bad.contains t

/-- LEDGER_READ_DONE. -/
def State.ldgReadDone (s : State) : State :=
  match s.ldg.read with
  | none => s
  | some (c, a) =>
    let s := s.writeBytes ldgMaster 0x1 a (s.ldg.readData c)
    let s := if s.ldg.spoilt [if c = .readUser then 9 else 7] then s.raiseErr .ledger 0 0 Cap.none else s
    s.setLdg { s.ldg with read := none, result := 0 }

/-- LEDGER_READ_DONE. -/
def execLedgerReadDone (s : State) : Result := .next (if s.live ∧ s.memServes then s.ldgReadDone else s)

end Sys2Proof.Machine
end

