-- ==== Sys2Proof/Machine/ModeOps.lean ====
section
/-!
DEFINITION. What a change of mode does (R413 to R416, R45), the units in service (R432), and which pages are idle (R38).
-/

namespace Sys2Proof.Machine

/-- PG_ID.PAGE (R468). -/
def Fam.page : Fam → Nat
  | .runners1 | .leat1 => 1
  | .runners2 => 2
  | .runners3 => 3
  | _ => 0

/-- PG_ID of a page (R38, R468): TYPE, instance, version 1 and page index. -/
def pgIdOf (f : Fam) (n : Nat) : Nat :=
  f.info.typ * 2 ^ 24 + (if f.count .nrt9680 > 1 then n else 0) * 2 ^ 16 + 0x100 + f.page

/-- Every page of a family, in order. -/
def State.pagesOf (s : State) (f : Fam) : List (Fam × Nat) := (List.range (f.count s.part)).map fun n => (f, n)

/-! ## Units in service (R416, R432) -/

/-- Usable stones in service (R121). -/
def State.liveStones (s : State) : Nat := s.part.stonesUse - s.noStone.length
/-- Usable runners in service (R213). -/
def State.liveRunners (s : State) : Nat := s.part.runnersUse - s.runners.unmapped.length
/-- Decode pipelines in service (R188). -/
def State.livePipes (s : State) : Nat := ((List.range s.part.pipes).filter fun p => !(s.pipe p).lost).length
/-- Quads in service (R444). -/
def State.liveQuads (s : State) : Nat := s.part.quads - s.net.quadsLost.length
/-- Logical CPs that a CP carries (R358). -/
def State.liveCps (s : State) : Nat := ((List.range s.part.cpsUse).filter fun l => (s.physOf l).isSome).length
/-- DMA engines in service (R390). -/
def State.liveDmas (s : State) : Nat := ((List.range 32).filter fun e => !(s.dma e).retired).length

/-- A count field of DEV_CAP_LIVE is below DEV_CAP, or the weir is lost (R416). -/
def State.short (s : State) : Bool :=
  decide (s.liveStones < s.part.stonesUse) || decide (s.liveRunners < s.part.runnersUse) ||
  decide (s.livePipes < s.part.pipes) || decide (s.liveQuads < s.part.quads) || decide (s.liveCps < s.part.cpsUse) ||
  decide (s.liveDmas < 32) || (s.part.hasWeir && s.net.weir.stuck)

/-! ## Mode changes (R45, R75, R415, R432) -/

/-- An entry in DEV_MODE_LOG. -/
def State.logMode (from_ to_ : Mode) (cause : Nat) (s : State) : State :=
  let i := fld (s.reg Reg.devLogIdx) 3 0
  (s.setReg (Reg.devModeLog i) (pack [(0, from_.code), (4, to_.code), (8, cause), (12, bits s.tick 43 24)])).setReg Reg.devLogIdx
    (word ((i + 1) % 16))

/-- The pages that DRAIN freezes (R45). -/
def drainFams : List Fam :=
  [.sessions, .bolter, .stone, .dec, .runners0, .runners1, .runners2, .runners3, .millrace, .cp, .pawl, .dma, .memctl, .memarb]

/-- The pages of those families. -/
def State.drainPages (s : State) : List Nat := drainFams.flatMap fun f => (s.pagesOf f).map fun e => ordOf e.1 e.2

/-- FREEZE comes into force in the pages of DRAIN (R45). -/
def State.freezeAll (s : State) : State :=
  s.drainPages.foldl (fun s o => s.setPg o { (s.pg o).setFreeze true s.tick with drainFreeze := some (s.pg o).freeze }) s

/-- FREEZE takes the value that software last wrote (R45). -/
def State.thawAll (s : State) : State :=
  s.drainPages.foldl (fun s o =>
    s.setPg o { (s.pg o).setFreeze ((s.pg o).drainFreeze.getD (s.pg o).freeze) s.tick with drainFreeze := none }) s

/-- Sessions with no frame or picture in progress become HELD in DRAIN (R75, R174). -/
def State.holdAll (s : State) : State :=
  let s := s.sessions.foldl (fun s e => s.sesHold e.1) s
  s.decs.foldl (fun s e => s.decHold e.1) s

/-- HELD sessions go on (R75, R174). -/
def State.resumeAll (s : State) : State :=
  let s := s.sessions.foldl (fun s e => s.sesResume e.1) s
  s.decs.foldl (fun s e => if (s.dec e.1).st = .held then s.setDec e.1 { s.dec e.1 with st := .running } else s) s

/-- INT_STAT.MODE_CHANGE of the DEV page; in HALT no message goes out (R415, R417, R432). -/
def State.modeInt (s : State) : State :=
  if s.dev.mode = .halt then s.setPg 0 { s.pg 0 with int := (s.pg 0).int ||| 2#32 } else s.raiseInt .dev 0 1 0

/-- A change of mode, with its cause code (R415, R432). -/
def State.setMode (to_ : Mode) (cause : Nat) (s : State) : State :=
  let from_ := s.dev.mode
  let s := ({ s with dev := { s.dev with mode := to_, prev := from_ } }.logMode from_ to_ cause).modeInt
  let s := if from_ = .drain then s.thawAll else s
  let s := if to_ = .drain then s.freezeAll.holdAll else if from_ = .drain ∧ s.running then s.resumeAll else s
  s.weirCheck

/-- RUN becomes DEGRADED (R414); in any other mode a DEGRADE-class error leaves the mode as it is (R415). -/
def State.degrade (s : State) : State := if s.dev.mode = .run then s.setMode .degraded 5 else s

/-! ## PG_STAT.IDLE (R38) -/

/-- The port has nothing under way. -/
def Port.idle (x : Port) : Bool := x.tx.isNone && x.rx.isNone && x.queued.isEmpty

/-- No work is in flight in a page. -/
def State.idle (s : State) (f : Fam) (n : Nat) : Bool :=
  match f with
  | .dev => !s.dev.sreset
  | .clkpwr => s.clk.drains.isEmpty
  | .cfgchk => !s.cfg.passBusy && !s.cfg.commitBusy
  | .ledger => !s.ldg.busy
  | .ibreham => s.ibr.queue.isEmpty
  | .weir => s.net.weir.change.isNone
  | .stone => !(s.stone n).busy
  | .dec => !(s.pipe n).busy
  | .runners0 | .runners1 | .runners2 | .runners3 => s.runners.phys.all (fun e => !e.2.busy) && s.runners.cmd.isNone
  | .bolter => !(s.bolter n).busy
  | .sessions | .governor => s.sessions.all fun e => e.2.active.isNone
  | .packetizer => s.sessions.all fun e => e.2.pkt.fb.isEmpty && e.2.pkt.rtxWait.isEmpty
  | .leat0 | .leat1 => s.leat.lanes.all fun e => e.2.units.isEmpty && (s.laneFrags e.1).isEmpty && e.2.frames.isEmpty
  | .quad => (List.range 4).all fun k => (s.port (4 * n + k)).idle
  | .switch => s.net.frames.isEmpty
  | .fwd => !s.net.fwd.busy
  | .mirror => s.net.mirror.isEmpty
  | .sluice => s.flows.all fun e => e.2.pkts.isEmpty
  | .pcie => (s.nvme n).cmds.isEmpty
  | .pawl => (s.nvme n).cmds.isEmpty && (s.pawl n).rq.isNone && (s.pawl n).memCmd.isNone
  | .millrace => s.chans.all fun e => e.2.run.isNone
  | .cp => (s.stepsOn n).isEmpty && (s.cp n).call.isNone
  | .dma => (s.dma n).cur.isNone && !(s.dma n).armed
  | .hopper => s.hop.busy.isNone
  | .memarb => s.mem.scrub.isNone
  | .i3c | .evq | .timebase | .refpool | .memctl => true

/-- DEV_STAT.DRAINED (R414). -/
def State.drained (s : State) : Bool :=
  s.dev.mode == .drain && drainFams.all fun f => (s.pagesOf f).all fun e => s.idle e.1 e.2

/-- MR_ACTIVE: channels ACTIVE, WAITING or HELD (R346). -/
def State.mrActive (s : State) : Nat :=
  (s.chans.filter fun e => e.2.st == .active || e.2.st == .waiting || e.2.st == .held).length

/-- Every encode and decode session is FREE. -/
def State.sessionsFree (s : State) : Bool := s.sessions.all (fun e => e.2.st == .free) && s.decs.all (fun e => e.2.st == .free)

/-! ## Eviction (R444, R445) -/

/-- Every encode and decode session is evicted for an error of a page. -/
def State.evictAll (f : Fam) (n : Nat) (s : State) : State :=
  let s := s.sessions.foldl (fun s e => s.sesEvict e.1 (pgIdOf f n)) s
  s.decs.foldl (fun s e => s.decEvict e.1 (pgIdOf f n)) s

end Sys2Proof.Machine
end

