-- ==== Sys2Proof/Machine/Faults.lean ====
section
/-!
DEFINITION. What the part does when a page detects an error (R41, R42, R435 to R449): the class of the error, its reporting, the
reaction of its minimum class, takeovers, migration, the watchdogs of stones, pipelines and runners, and HALT.
-/

namespace Sys2Proof.Machine

/-! ## Units out of service (R120, R121, R213, R358, R439) -/

/-- A unit's retirement waits for the next record (R431, R435). -/
def State.ledgerRetire (f : Retire → Retire) (s : State) : State :=
  s.setLdg { s.ldg with retire := f s.ldg.retire, retireP := true }

/-- The capture of a forced error (R41). -/
def Cap.forced : Cap := ⟨0, 0xFFF, 0xE⟩

/-- The lowest spare stone. -/
def State.spareStone (s : State) : Option Nat := (List.range s.part.stonesPhys).find? fun n => (s.stone n).role == .spare

/-- A retired stone that no spare has replaced yet. -/
def State.stoneOwed (s : State) (n : Nat) : Bool := (s.stone n).role == .retired && s.stoneOf (s.stone n).lstone == some n

/-- A retired runner that no spare has replaced yet. -/
def State.runnerOwed (s : State) (n : Nat) : Bool := (s.runner n).role == .retired && s.runnerOf (s.runner n).logical == some n

/-- The spare CP, unless the load that it was in has failed (R437). -/
def State.spareCp (s : State) (failed : Nat) : Option Nat :=
  (List.range s.part.cpsPhys).find? fun n =>
    (s.cp n).role == .spare && ((s.cp n).img.isSome || (s.cp n).running || !(s.cp failed).running)

/-- An error of a usable unit finds no spare beyond those that takeovers already owe (R121, R213, R358). -/
def State.noSpare (s : State) (f : Fam) (n src unit : Nat) : Bool :=
  match f with
  | .stone =>
    src == 3 && (s.stone n).role == .usable &&
    decide (((List.range s.part.stonesPhys).filter fun k => (s.stone k).role == .spare).length ≤
      ((List.range s.part.stonesPhys).filter s.stoneOwed).length)
  | .runners0 =>
    src == 2 && (s.runner unit).role == .usable &&
    decide (((List.range s.part.runnersPhys).filter fun k => (s.runner k).role == .spare).length ≤
      ((List.range s.part.runnersPhys).filter s.runnerOwed).length)
  | .cp =>
    src == 2 && (s.cp n).role == .usable &&
    ((s.spareCp n).isNone || (List.range s.part.cpsPhys).any fun k => (s.cp k).failed)
  | _ => false

/-! ## Segments that are coded again (R120, R121, R122) -/

/-- The uncommitted segments of a physical stone are coded again; the count of them. -/
def State.recode (n : Nat) (s : State) : Nat × State :=
  let p := fun (g : Seg) => g.phys == n
  let k := (s.sessions.map fun e => match e.2.active with
    | some f => f.unfinished p
    | none => 0).sum
  let s := s.sessions.foldl (fun s e => s.segsBack e.1 p) s
  (k, s.setStone n { s.stone n with busy := false, units := [] })

/-- The tile columns in progress of a logical stone: session and column. -/
def State.columnsOn (s : State) (l : Nat) : List (Nat × Nat) :=
  s.sessions.flatMap fun e => if e.2.active.isNone then [] else
    ((List.range (dCols e.2.desc)).filter fun c => dStone e.2.desc c == l).map fun c => (e.1, c)

/-- The rest of a tile column is coded in floor mode, within its floor bound, and its region is LOST (R121, R130, R131). -/
def State.columnFloor (n c : Nat) (s : State) : State :=
  match (s.ses n).active with
  | none => s
  | some f =>
    let d := (s.ses n).desc
    let done := fun r => f.segs.any fun g => g.row == r && g.col == c && g.st == .committed
    let rows := (List.range (dNy d)).filter fun r => !done r
    let f := { f with floorCols := (f.floorCols ++ [c]).dedup,
                      segs := f.segs.map fun g => if g.col = c ∧ g.st ≠ .committed then
                        { g with floor := true, q := 51, floorAt := if g.st = .coding then some (g.floorAt.getD g.passed) else g.floorAt } else g }
    (s.setFrame n (match rows.head? with
      | some r => f.floorRow r
      | none => f)).refRegion f.buf ((rows.flatMap fun r => (colBlocks d c).map (blk64 d r)).dedup)

/-- A stone reads the newest complete checkpoint of a tile column's picture (R120); it reads nothing where the column has none. -/
def State.ckptRead (m n c : Nat) (s : State) : Bool × State :=
  let k := ((s.ses n).active.map (·.k)).getD 0
  let a := 1 - s.ckptArea n c
  match Tbl.get? s.ckpts (16 * n + 2 * c + a), s.ckptAt n c a with
  | some x, some (head, data) =>
    if !x.complete || x.frame != k then (true, s)
    else
      match s.readBytes m 0x0 head 1024 with
      | (none, s) => (false, s)
      | (some _, s) =>
        match s.readBytes m 0x0 data (x.samples.length * s.clsB (s.rses n).cls + x.modes.length) with
        | (none, s) => (false, s)
        | (some _, s) => (true, s)
  | _, _ => (true, s)

/-- A spare loads the checkpoints of the columns that it takes over; a read that fails is CKPT_ERR, and the column goes on in floor
mode (R120, R121). -/
def State.ckptLoad (m l : Nat) (s : State) : State :=
  (s.columnsOn l).foldl (fun s e =>
    match s.ckptRead m e.1 e.2 with
    | (true, s) => s
    | (false, s) => (s.raiseErr .stone m 5 (Cap.obj e.1)).columnFloor e.1 e.2) s

/-! ## Migration and eviction (R442, R443) -/

/-- A logical stone that can take a column of a session (R442). -/
def State.columnHome (s : State) (d : List Byte) (c : Nat) : Option Nat :=
  (List.range s.part.stonesUse).find? fun l =>
    (s.stoneOf l).isSome && !(dStones d).contains l &&
    (match s.imageAt 1 l with
     | some i => encServes i.id (dCodec d) (dEntropy d)
     | none => false) &&
    (let (a, b) := fracSum [s.stoneSum s.admitted l, s.colLoad d c]
     decide (a ≤ b))

/-- A stone goes on with a tile column from its newest complete checkpoint, and so does its runner (R120 steps 3 to 5, R442). -/
def State.columnResume (l n c : Nat) (s : State) : State :=
  match s.stoneOf l, (s.ses n).active with
  | some m, some f =>
    let k := f.unfinished fun g => g.col == c
    let s := s.segsBack n fun g => g.col == c
    let s := match s.ckptRead m n c with
      | (true, s) => s
      | (false, s) => (s.raiseErr .stone m 5 (Cap.obj n)).columnFloor n c
    { s.addSat (Reg.stoneResumed m) 16 k with runners := { s.runners with again := ((n, c) :: s.runners.again).dedup } }
  | _, _ => s

/-- One column of a session leaves its lost stone, or the session is evicted for an error of a page. -/
def State.columnMove (n c pgId : Nat) (s : State) : State :=
  let x := s.ses n
  if x.st = .free then s
  else
    match s.columnHome x.desc c with
    | none => s.sesEvict n pgId
    | some l =>
      let s := (s.setSes n { x with desc := setBytes x.desc (0x40 + c) [byte l] }).columnResume l n c
      s.sesEvent n 0x0A (bitOf (dEventEn x.desc) 10) (s.sesHead n (s.ses n).frameNo 0 0 0 ++ [byte c, byte l])

/-- The sessions that name a lost logical stone move their columns or are evicted (R442). -/
def State.stoneMigrate (l pgId : Nat) (s : State) : State :=
  s.sessions.foldl (fun s e =>
    ((List.range (dCols e.2.desc)).filter fun c => dStone e.2.desc c == l).foldl (fun s c => s.columnMove e.1 c pgId) s) s

/-- The picture in progress goes back to the head of its session's access units. -/
def State.pictureBack (p : Nat) (s : State) : State :=
  let y := s.pipe p
  match y.busy, y.au with
  | true, some a =>
    let x := s.dec y.ses
    (s.setDec y.ses { x with aus := a :: x.aus }).pipeDrop p
  | _, _ => s

/-- The sessions of a lost pipeline move to another or are evicted (R443). -/
def State.pipeMigrate (p pgId : Nat) (s : State) : State :=
  let s := s.pictureBack p
  s.decs.foldl (fun s e =>
    let x := s.dec e.1
    if x.st = .free ∨ eePipe x.desc ≠ p then s
    else
      match (List.range s.part.pipes).find? fun q => q != p && !(s.pipe q).lost && s.pipeServes q (dCodec x.desc) &&
          decide (s.pipeSum q + s.eeLoad x.desc ≤ 10 ^ 12) with
      | none => s.decEvict e.1 pgId
      | some q =>
        let b := (x.desc.getD 2 0).toNat
        (s.setDec e.1 { x with desc := setBytes x.desc 2 [byte (b / 8 * 8 + q)] }).decEvent e.1 0x0A 10 [] q) s

/-- Transforms whose format no asset runner holds end with IMAGE, and XFORM_ERR (R211, R214, R443). -/
def State.assetGone (s : State) : State :=
  s.runners.queue.foldl (fun s q =>
    let held := (List.range s.part.runnersUse).any fun l => (s.assign l).side == 3 && match s.runnerOf l with
      | some n => match (s.runner n).lib with
        | some k => (s.lib k).id == q.id
        | none => false
      | none => false
    if held then s
    else (((s.xformDrop q.chan).xformRun q.chan fun r => { r with phase := .moved }).endStep q.chan ⟨0x0C, 8, 0⟩).raiseErr
      .runners0 0 7 Cap.none) s

/-! ## Takeovers -/

/-- The runner of a logical stone resumes from its checkpoint with the next unit (R120 step 3, R201). -/
def State.stoneRunnerAgain (l : Nat) (s : State) : State :=
  match (s.runnerAt 1 l).bind s.runnerOf with
  | some n => s.setRunner n { s.runner n with resume := true, busy := false, unit := none }
  | none => s

/-- A stone is stopped and retired (R120 step 1). -/
def State.stoneRetire (n : Nat) (forced : Bool) (s : State) : State :=
  let x := s.stone n
  if x.role = .retired then s
  else
    let s := s.setStone n { x with role := .retired, busy := false }
    if forced then s else s.ledgerRetire fun r => { r with stones := (r.stones ++ [n]).dedup }

/-- What takes the place of a retired stone (R120, R121): a spare, which loads the checkpoints and codes again what has not committed; or
nothing, and the logical stone is lost. -/
def State.stoneGive (n : Nat) (spare : Option Nat) (s : State) : State :=
  if s.stoneOwed n then
    let l := (s.stone n).lstone
    let (k, s) := s.recode n
    match spare with
    | none => ({ s with noStone := s.noStone ++ [l] }.degrade).stoneMigrate l (pgIdOf .stone n)
    | some m =>
      let s := ({ s with lmap := Tbl.set s.lmap l m }.setStone m { s.stone m with role := .usable, lstone := l }).ckptLoad m l
      (s.stoneRunnerAgain l).addSat (Reg.stoneResumed m) 16 k
  else s

/-- STONE_TAKEOVER (R120): the lowest spare. -/
def State.stoneTake (n : Nat) (s : State) : State := s.stoneGive n s.spareStone

/-- STONE_TAKEOVER. -/
def execStoneTakeover (n : Nat) (s : State) : Result := .next (if s.live then s.stoneTake n else s)

/-- A runner is retired (R213 step 1); a transform's units are whole, so that another takes it from its last state. -/
def State.runnerRetire (n : Nat) (forced : Bool) (s : State) : State :=
  let x := s.runner n
  if x.role = .retired ∨ s.part.runnersPhys ≤ n then s
  else
    let s := s.setRunner n { x with role := .retired, busy := false, unit := none, loading := none }
    if forced then s else s.ledgerRetire fun r => { r with runners := (r.runners ++ [n]).dedup }

/-- What the side of a runner does again (R213 steps 2 and 3). -/
def State.sideAgain (a : Assign) (s : State) : State :=
  if a.side = 1 then
    match s.stoneOf a.target with
    | some p => (s.recode p).2
    | none => s
  else if a.side = 2 then s.setPipe a.target { s.pipe a.target with since := s.tick, answers := [] }
  else s

/-- A logical runner with no spare left is lost, with its side (R213, R442, R443). -/
def State.runnerLost (l : Nat) (s : State) : State :=
  let a := s.assign l
  let s := ({ s with runners := { s.runners with unmapped := s.runners.unmapped ++ [l] } }).degrade
  if a.side = 1 then s.stoneMigrate a.target (pgIdOf .runners0 0)
  else if a.side = 2 then s.pipeMigrate a.target (pgIdOf .runners0 0)
  else if a.side = 3 then s.assetGone else s

/-- What takes the place of a retired runner (R213): a spare, or nothing. -/
def State.runnerGive (n : Nat) (spare : Option Nat) (s : State) : State :=
  if s.runnerOwed n then
    let l := (s.runner n).logical
    let a := s.assign l
    let s := s.sideAgain a
    match spare with
    | none => s.runnerLost l
    | some m =>
      let s := s.runMap l m
      let s := if a.side = 0 ∨ ((s.runner m).lib = some a.lib ∧ (s.runner m).loading = none) then s else s.runLoad m a.lib
      let s := s.setRunner m { s.runner m with resume := a.side == 1 }
      (s.bump Reg.runTakeovers).raiseInt .runners0 0 3 0
  else s

/-- RUNNER_TAKEOVER (R213). -/
def State.runnerTake (n : Nat) (s : State) : State := s.runnerGive n s.spareRunner

/-- RUNNER_TAKEOVER. -/
def execRunnerTakeover (n : Nat) (s : State) : Result := .next (if s.live then s.runnerTake n else s)

/-- A CP is retired (R358 step 1). -/
def State.cpRetire (n : Nat) (forced : Bool) (s : State) : State :=
  let c := s.cp n
  if c.role = .retired then s
  else
    let s := s.setCp n { c with role := .retired, failed := c.role == .usable, img := none }
    if forced then s else s.ledgerRetire fun r => { r with cps := (r.cps ++ [n]).dedup }

/-- The engine work and NVMe commands of a step that is dispatched again are dropped. -/
def State.stepDrop (c : Nat) (s : State) : State :=
  let e := (s.chan c).dma
  let d := s.dma e
  let mine := fun (x : DmaSet) => x.owner.isChan c
  let s := s.setDma e { d with cur := if d.cur.any mine then none else d.cur, armed := d.armed && !d.shOwner.isChan c }
  let s := s.nvmes.foldl (fun s q => q.2.cmds.foldl (fun s k => if k.2.chan = c then s.nvmeDrop q.1 k.1 else s) s) s
  let s := (s.xformDrop c).hopCancelAll (.chan c)
  let s := { s with regload := s.regload.filter (· != c) }
  let out := (s.chan c).run.bind (·.out)
  (s.setChan c { s.chan c with run := none, hopWait := false }).hopRelease out

/-- A step in progress under a failed CP (R358 step 3): one whose effect has left completes with it; a WAIT goes on waiting; every
other runs again from its start and spends no RETRY. -/
def State.stepAgain (c : Nat) (s : State) : State :=
  match (s.chan c).run with
  | none => s
  | some r =>
    if r.sent then s.endStep c ⟨0, 0, r.done⟩
    else if (s.chan c).st = .waiting then s
    else s.stepDrop c

/-- The channels of a logical CP. -/
def State.chansOf (s : State) (l : Nat) : List Nat := (s.chans.filter fun e => e.2.lcp == l).map (·.1)

/-- A logical CP with no spare is left unbound, and its channels become FAULTED with FETCH (R358). -/
def State.cpLost (l : Nat) (s : State) : State :=
  (s.chansOf l).foldl (fun s c =>
    if (s.chan c).st = .idle ∨ (s.chan c).st = .faulted then s
    else let done := ((s.chan c).run.map (·.done)).getD 0; (s.dmaStop c).chanFault c ⟨0x09, 0, done⟩) s.degrade

/-- CP_TAKEOVER (R358, R437): waits for a load that the spare is in. -/
def State.cpTake (n : Nat) (s : State) : State :=
  let c := s.cp n
  if c.failed ∧ c.role = .retired then
    match s.spareCp n with
    | none => (s.setCp n { c with failed := false }).cpLost c.logical
    | some m =>
      if (s.cp m).img.isSome then s
      else
        let s := (s.setCp n { c with failed := false }).cpBind c.logical m
        (s.chansOf c.logical).foldl (fun s k => s.stepAgain k) s
  else s

/-- CP_TAKEOVER. -/
def execCpTakeover (n : Nat) (s : State) : Result := .next (if s.live then s.cpTake n else s)

/-! ## HALT (R417, R455) -/

/-- The fault entry of R417: class 4 and mode 7, with the page's capture. -/
def State.haltEntry (f : Fam) (n src : Nat) (s : State) : State :=
  let h := s.pg (ordOf f n)
  let e : LdgFault := { time := s.tick, page := ordOf f n, src := src, cls := 4, mode := 7, master := h.capMaster, acc := h.capAcc,
                        merged := h.merged, addr := h.capAddr, por := s.ldg.wear.por, buFail := 0 }
  s.setLdg { s.ldg with faults := s.ldg.faults ++ [e] }

/-- Every engine stops, and every stream and channel ends with no further record (R417). -/
def State.stopAll (s : State) : State :=
  let s := s.sessions.foldl (fun s e => if e.2.st = .free then s else (s.sesKill e.1).sesFree e.1) s
  let s := s.decs.foldl (fun s e => if e.2.st = .free then s else s.decFree e.1) s
  let s := s.chans.foldl (fun s e =>
    let s := s.dropBufs e.1
    s.setChan e.1 { s.chan e.1 with st := .idle, run := none, nextPc := none, latch := false, retries := 0 }) s
  let s := { s with waits := [], regload := [], runners := { s.runners with queue := [] } }
  let s := (List.range 32).foldl (fun s e => s.setDma e { s.dma e with cur := none, armed := false, ending := none }) s
  let s := s.runners.phys.foldl (fun s e => s.setRunner e.1 { s.runner e.1 with busy := false, unit := none }) s
  s.bolters.foldl (fun s e => s.setBolter e.1 { s.bolter e.1 with busy := false, drop := false }) s

/-- Every Ethernet lane goes to electrical idle and every PCIe link goes down (R417). -/
def State.linesOff (s : State) : State :=
  let s := s.net.ports.foldl (fun s e => if (s.port e.1).up then s.portLost e.1 else s) s
  let s := s.nvmes.foldl (fun s e => s.setNvme e.1 { s.nvme e.1 with cmds := [], st := .down }) s
  s.links.foldl (fun s e => s.setLink e.1 { Link.reset with dead := (s.link e.1).dead }) s

/-- The part enters HALT for an error of a page (R417, R447). -/
def State.enterHalt (f : Fam) (n src : Nat) (cap : Cap) (s : State) : State :=
  if s.dev.mode = .off then s
  else
    let o := ordOf f n
    let h := (s.pg o).record src cap s.tick
    let h := if flag (s.reg (baseOf f n + 0x14)) src then h else { h with int := h.int ||| 1#32 }
    let s := s.setPg o h
    if s.dev.mode = .halt then s
    else
      let s := (s.haltEntry f n src).stopAll.linesOff
      let s := { s with ibr := { s.ibr with slots := [], queue := [] }, ldg := { s.ldg with read := none },
                        dev := { s.dev with changing := none, sreset := false } }
      (s.setMode .halt 5).ldgWrite

/-! ## Reactions (R122, R188, R214, R346, R435, R436, R444) -/

/-- A segment restarts on its stone from its checkpoint, with those after it in its column (R122, SRAM_UE outside the reference cache). -/
def State.segRestart (n : Nat) (s : State) : State :=
  let x := s.stone n
  if x.busy then
    let s := s.segsBack x.ses fun g => g.phys == n && g.col == x.col && decide (x.row ≤ g.row)
    let s := match s.ckptRead n x.ses x.col with
      | (true, s) => s
      | (false, s) => (s.raiseErr .stone n 5 (Cap.obj x.ses)).columnFloor x.ses x.col
    ((s.setStone n { s.stone n with busy := false }).stoneRunnerAgain x.lstone).bump (Reg.stoneRecode n)
  else s

/-- A unit of work starts again (R205, R211, R214): the runner reloads the word or drops what it has, and its side does the work again. -/
def State.unitAgain (n : Nat) (s : State) : State :=
  let x := s.runner n
  if x.busy = false then s
  else
    let s := s.setRunner n { x with busy := false, unit := none, resume := x.unit.isSome }
    match x.unit with
    | some (k, row, col) => s.segsBack k fun g => g.col == col && decide (row ≤ g.row)
    | none => s

/-- The session that owns lost state is evicted (R444): 0 to 511 encode, 512 to 639 decode. -/
def State.ownerEvict (f : Fam) (n o : Nat) (s : State) : State :=
  if o < 512 then s.sesEvict o (pgIdOf f n) else s.decEvict (o - 512) (pgIdOf f n)

/-- The owner of a flow whose state is lost. -/
def State.flowEvict (fl : Nat) (s : State) : State :=
  match s.flow? fl with
  | some x => match x.owner with
    | .session n => s.sesEvict n (pgIdOf .sluice 0)
    | .device _ => s
  | none => s

/-- A DMA engine is lost: every step that uses it ends with DMA_ERR and NOT_RUN (R390). -/
def State.dmaLost (e : Nat) (s : State) : State :=
  let s := match (s.dma e).cur with
    | some x => s.dmaTell x.owner 8 0
    | none => s
  let s := s.dmaNotRun e
  s.setDma e { s.dma e with cur := none, armed := false, ending := none, retired := true }

/-- A Hopper cache entry is lost with its index (R389): the object names the pool and, times 8, the entry's place. -/
def State.cacheLost (obj : Nat) (s : State) : State :=
  let x := s.pool (obj % 8)
  if obj / 8 < x.cache.length then
    (s.setPool (obj % 8) { x with cache := x.cache.eraseIdx (obj / 8), count := x.count - 1 }).addSat Reg.hopLeaked 32 1
  else s

/-- The reactions that a unit takes whether its error is detected or forced (R41, R438). -/
def State.reactOwn (f : Fam) (n src unit : Nat) (forced : Bool) (s : State) : State :=
  match f, src with
  | .stone, 3 =>
    let lost := s.noSpare f n src unit
    let s := s.stoneRetire n forced
    if lost then s.stoneGive n none else s
  | .runners0, 2 =>
    let lost := s.noSpare f n src unit
    let s := s.runnerRetire unit forced
    if lost then s.runnerGive unit none else s
  | .cp, 2 =>
    let lost := s.noSpare f n src unit
    let s := s.cpRetire n forced
    if lost then (s.setCp n { s.cp n with failed := false }).cpLost (s.cp n).logical else s
  | .dec, 2 => ((s.setPipe n { s.pipe n with lost := true }).degrade).pipeMigrate n (pgIdOf .dec n)
  | .quad, 5 =>
    let s := { s with net := { s.net with quadsLost := (s.net.quadsLost ++ [n]).dedup } }.degrade
    (List.range 4).foldl (fun s k => s.portDown (4 * n + k)) s
  | .pcie, 6 => ((s.setLink n { s.link n with dead := true }).degrade).linkDown n
  | .pawl, 3 => ((s.setPawl n { s.pawl n with dead := true }).degrade).nvmeDead n
  | .dma, 4 => s.degrade.dmaLost n
  | .memctl, 5 => ((s.setSite n { s.site n with trained := false }).degrade).evictAll .memctl n
  | .weir, 0 => ({ s with net := { s.net with weir := { s.net.weir with stuck := true } } }).degrade
  | .governor, 2 | .refpool, 2 | .packetizer, 2 | .sluice, 2 | .clkpwr, 0 => s.degrade
  | _, _ => s

/-- The reactions that answer the physical event, which forcing does not perform (R41). The object is the session, flow, channel,
queue, frame or place that the error strikes. -/
def State.reactEvent (f : Fam) (n src unit obj : Nat) (s : State) : State :=
  match f, src with
  | .bolter, 2 => s.rowAgain n
  | .stone, 1 => if obj = 0 then s.segRestart n else s
  | .stone, 5 => s.columnFloor (obj / 8) (obj % 8)
  | .dec, 1 => s.picAgain n
  | .runners0, 1 => s.unitAgain unit
  | .governor, 2 | .refpool, 2 | .packetizer, 2 => s.ownerEvict f n obj
  | .sluice, 1 => if obj = 0 then s else s.setGate (obj - 1) { s.gate (obj - 1) with openAll := true }
  | .sluice, 2 => s.flowEvict obj
  | .millrace, 2 => if (s.chan obj).st = .idle then s else
      let done := ((s.chan obj).run.map (·.done)).getD 0
      (s.dmaStop obj).chanFault obj ⟨0x09, 0, done⟩
  | .leat0, 1 => s.queueReset obj
  | .switch, 1 =>
    match s.swFrame obj with
    | some x => { s with net := { s.net with frames := Tbl.set s.net.frames obj { x with bad := true } } }
    | none => s
  | .fwd, 2 => s.setFwd { s.net.fwd with entries := s.net.fwd.entries.filter fun e => !(e.index == obj % 65536 && b2n e.flow == obj / 65536) }
  | .hopper, 1 => s.cacheLost obj
  | .cp, 1 => if obj = 1 then s.cpTrap n .memerr 0 else s
  | .timebase, 0 => s.setTb { s.tb with refE := true, pllLock := false }
  | _, _ => s

/-- The class in force of an error (R436): a SPARE-class one with no spare left is DEGRADE; a forced one never HALTs. -/
def State.faultClass (s : State) (f : Fam) (n src unit : Nat) : Nat :=
  if s.noSpare f n src unit then 3 else s.classOf f n src

/-- The runner that a capture of the RUNNERS page names (R214). -/
def capRunner (c : Cap) : Nat := bits c.addr.toNat 22 16

/-- An error of a page, detected or forced: held while the page resets, recorded alone in HALT, and otherwise recorded, reported
and reacted to; a detected INTEGRITY or TAMPER leads to HALT (R40, R417, R435 to R438). -/
def State.fault (f : Fam) (n src obj : Nat) (cap : Cap) (forced : Bool) (s : State) : State :=
  let o := ordOf f n
  let h := s.pg o
  if h.resetting then s.setPg o { h with held := h.held ++ [⟨src, cap, obj⟩] }
  else if s.dev.mode = .halt then s.raiseErrAs f n src 0 cap
  else if f = .ibreham ∧ (src = 2 ∨ src = 3) ∧ forced = false then s.enterHalt f n src cap
  else
    let s := s.raiseErrAs f n src (s.faultClass f n src (capRunner cap)) cap
    let s := s.reactOwn f n src (capRunner cap) forced
    if forced then s else s.reactEvent f n src (capRunner cap) obj

/-- The correctable-error sources, which the bucket of R408 lets through. -/
def Fam.correctable (f : Fam) (src : Nat) : Bool :=
  match f with
  | .bolter => src == 1
  | .memctl => src ≤ 1
  | .sessions | .i3c | .clkpwr | .ledger | .weir | .timebase | .evq | .cfgchk => false
  | _ => src == 0

/-- ERROR_DETECT (R435); a protocol error also shows in GETSTATUS (R29). -/
def State.detect (o src : Nat) (cap : Cap) (obj : Nat) (s : State) : State :=
  match pageAt s.part o with
  | none => s
  | some (f, n) =>
    if s.dev.mode = .off ∨ f.info.classes.length ≤ src ∨ (f = .weir ∧ s.part.hasWeir = false) then s
    else
    let s := if f = .quad ∧ src = 2 then s.portCount (4 * n + obj % 4) 0x8C 1 else s
    let s := if f = .pcie ∧ src = 2 then s.bump (Reg.pcieCorr n) else s
    let s := if f = .i3c ∧ src = 4 then { s with i3c := { s.i3c with proto := true } } else s
    if f.correctable src then s.correctable f n src cap
    else s.fault f n src obj cap false

/-- ERROR_DETECT. -/
def execErrorDetect (page src : Nat) (cap : Cap) (obj : Nat) (s : State) : Result := .next (s.detect page src cap obj)

/-- ERR_FORCE (R41): each bit of a source acts as a detection of it. -/
def State.forceErr (o : Nat) (w : BitVec 16) (s : State) : State :=
  match pageAt s.part o with
  | none => s
  | some (f, n) =>
    (List.range f.info.classes.length).foldl (fun s k => if w.getLsbD k then s.fault f n k 0 Cap.forced true else s) s

/-- ERR_FORCE. -/
def execErrForce (p : Path) (page : Nat) (bits : BitVec 16) (s : State) : Result :=
  .next (if s.takes p then s.forceErr page bits else s)

/-! ## Watchdogs (R122, R188, R214, R266) -/

/-- The most VCLK cycles that a segment may take (R122). -/
def segLimit (d : List Byte) (col preset : Nat) : Nat := 4 * dColW d col * (dBlk d * dBlk d * 28 / rate20 preset) + 8192

/-- STONE_WATCHDOG: the limit of the preset that the segment runs at (R102). -/
def State.stoneLate (n : Nat) (s : State) : State :=
  let x := s.stone n
  if s.stoneOn n ∧ x.busy then
    let preset := (((s.ses x.ses).active.bind fun f => f.seg? x.row x.col).map (·.preset)).getD 3
    (s.reach (x.since + vclkTicks (segLimit (s.ses x.ses).desc x.col preset))).fault .stone n 3 0 (Cap.obj n) false
  else s

/-- STONE_WATCHDOG. -/
def execStoneWatchdog (n : Nat) (s : State) : Result := .next (s.stoneLate n)

/-- DEC_WATCHDOG (R182, R188): a picture has run past 4 times its time plus 100 µs. -/
def State.decLate (p : Nat) (s : State) : State :=
  let y := s.pipe p
  match y.head with
  | some h => if s.coreUp ∧ y.busy ∧ p < s.part.pipes then
      (s.reach (y.since + nsTicks (4 * decNs (dCodec (s.dec y.ses).desc) h) + usTicks 100)).fault .dec p 2 0 (Cap.obj p) false else s
  | none => s

/-- DEC_WATCHDOG. -/
def execDecWatchdog (pipe : Nat) (s : State) : Result := .next (s.decLate pipe)

/-- RUNNER_WATCHDOG (R214). -/
def State.runnerLate (n : Nat) (s : State) : State :=
  if s.unitLong n then
    (s.reach ((s.runner n).since + usTicks 100)).fault .runners0 0 2 0 (runCap n (s.runner n).m.pc) false
  else s

/-- RUNNER_WATCHDOG. -/
def execRunnerWatchdog (n : Nat) (s : State) : Result := .next (s.runnerLate n)

/-- WEIR_STUCK_TIMEOUT (R266). -/
def State.weirLate (s : State) : State :=
  match s.net.weir.change with
  | some (_, t) => if s.part.hasWeir ∧ s.net.weir.stuck = false ∧ s.dev.mode ≠ .off then
      (s.reach (t + usTicks 100)).fault .weir 0 0 0 Cap.none false else s
  | none => s

/-- WEIR_STUCK_TIMEOUT. -/
def execWeirStuckTimeout (s : State) : Result := .next s.weirLate

/-! ## Conditions of HALT (R447, R463) -/

/-- TAMPER (R463): the cause is latched until POR, and the part enters HALT. -/
def State.tamper (c : TamperCause) (s : State) : State :=
  if s.dev.mode = .off then s
  else
    let k := match c with
      | .supply => 0 | .clock => 1 | .temperature => 2 | .mesh => 3
    let s := { s with ibr := { s.ibr with tamper := s.ibr.tamper ||| BitVec.ofNat 4 (2 ^ k) } }
    s.enterHalt .ibreham 0 3 Cap.none

/-- TAMPER. -/
def execTamper (cause : TamperCause) (s : State) : Result := .next (s.tamper cause)

/-- KEY_STORE_INTEGRITY_FAIL (R463). -/
def execKeyStoreIntegrityFail (what : KeyFailure) (s : State) : Result :=
  .next (s.enterHalt .ibreham 0 2 (match what with
    | .slot n => Cap.obj n
    | .fuse => Cap.none))

/-- LOCKSTEP_DOUBLE_PARITY (R447). -/
def execLockstepDoubleParity (cp : Nat) (s : State) : Result :=
  .next (if cp < s.part.cpsPhys then s.enterHalt .cp cp 2 Cap.none else s)

end Sys2Proof.Machine
end

