-- ==== Sys2Proof/Machine/I3cBus.lean ====
section
/-!
DEFINITION. The I3C target: common command codes, in-band interrupts and the target reset pattern (R24 to R29, R34,
R37). Register transfers are in Registers.lean. The spec gives the fields of the GETMWL, GETMRL, GETPID, GETSTATUS and ENTDAA
replies and not the order of their bytes: the most significant byte goes first (DESIGN CHOICE, assumption 83).
-/

namespace Sys2Proof.Machine

/-- Stores the target's state. -/
def State.setI3c (x : I3c) (s : State) : State := { s with i3c := x }

/-- Answers a directed read with bytes, or not at all where the target does not answer its address (R26). -/
def State.i3cReply (l : List Byte) (s : State) : State :=
  if s.i3cAddressed then s.emit (.i3cData l) else s.emit .i3cNack

/-- ENEC: the INT event, bit 0, enables IBIs (R37). -/
def State.enec (ev : Byte) (s : State) : State :=
  if s.i3cUp ∧ ev.getLsbD 0 then s.setI3c { s.i3c with ibiEn := true } else s
/-- ENEC. -/
def execEnec (events : Byte) (s : State) : Result := .next (s.enec events)

/-- DISEC: the INT event, bit 0, disables IBIs; causes stay pending (R37). -/
def State.disec (ev : Byte) (s : State) : State :=
  if s.i3cUp ∧ ev.getLsbD 0 then s.setI3c { s.i3c with ibiEn := false } else s
/-- DISEC. -/
def execDisec (events : Byte) (s : State) : Result := .next (s.disec events)

/-- RSTDAA clears the dynamic address; pending causes survive (R26, R37). -/
def State.rstdaa (s : State) : State := if s.i3cUp then s.setI3c { s.i3c with da := none } else s
/-- RSTDAA. -/
def execRstdaa (s : State) : Result := .next s.rstdaa

/-- PID[47:0] (R25): the manufacturer, 1, and the low 32 bits of DEV_SERIAL. -/
def State.pid (s : State) : Nat := 0x1B4C * 2 ^ 33 + 2 ^ 32 + s.dev.serial.toNat % 2 ^ 32

/-- BCR (R25). -/
def bcr : Byte := 0x26
/-- DCR (R25). -/
def dcr : Byte := 0x00

/-- ENTDAA: the part without an address arbitrates with its PID, BCR and DCR and takes the address given (R25, R26). -/
def State.entdaa (a : BitVec 7) (s : State) : State :=
  if s.i3cUp ∧ s.i3c.da.isNone then
    (s.emit (.i3cData (beBytes 6 s.pid ++ [bcr, dcr]))).setI3c { s.i3c with da := some a }
  else s
/-- ENTDAA. -/
def execEntdaa (addr : BitVec 7) (s : State) : Result := .next (s.entdaa addr)

/-- SETDASA at the static address 0x5A, answered until a dynamic address is assigned (R25, R26). -/
def State.setdasa (target a : BitVec 7) (s : State) : State :=
  if s.i3cUp ∧ s.i3c.da.isNone ∧ target = 0x5A#7 then s.setI3c { s.i3c with da := some a } else s
/-- SETDASA. -/
def execSetdasa (target addr : BitVec 7) (s : State) : Result := .next (s.setdasa target addr)

/-- A value brought into a range: outside it the nearer end is stored (R34). -/
def clamp (lo hi v : Nat) : Nat := max lo (min hi v)

/-- SETMWL (R34). -/
def State.setmwl (v : Nat) (s : State) : State :=
  if s.i3cUp then s.setI3c { s.i3c with mwl := clamp 7 1027 v } else s
/-- SETMWL. -/
def execSetmwl (value : Nat) (s : State) : Result := .next (s.setmwl value)

/-- SETMRL (R34). -/
def State.setmrl (v : Nat) (s : State) : State :=
  if s.i3cUp then s.setI3c { s.i3c with mrl := clamp 4 1024 v } else s
/-- SETMRL. -/
def execSetmrl (value : Nat) (s : State) : Result := .next (s.setmrl value)

/-- GETMWL reports the value in force (R34). -/
def execGetmwl (s : State) : Result := .next (s.i3cReply (beBytes 2 s.i3c.mwl))

/-- GETMRL reports the value in force and the IBI payload of 4 bytes (R25, R34). -/
def execGetmrl (s : State) : Result := .next (s.i3cReply (beBytes 2 s.i3c.mrl ++ [4]))

/-- GETPID (R25). -/
def execGetpid (s : State) : Result := .next (s.i3cReply (beBytes 6 s.pid))

/-- GETBCR (R25). -/
def execGetbcr (s : State) : Result := .next (s.i3cReply [bcr])

/-- GETDCR (R25). -/
def execGetdcr (s : State) : Result := .next (s.i3cReply [dcr])

/-- The status word of GETSTATUS (R29). -/
def State.i3cStatus (s : State) : Nat :=
  sat s.i3c.ibis.length 15 + b2n s.i3c.proto * 2 ^ 5 + s.dev.mode.code * 2 ^ 8

/-- GETSTATUS returns the status and clears bit 5 (R29). -/
def State.getstatus (s : State) : State :=
  if s.i3cAddressed then (s.emit (.i3cData (beBytes 2 s.i3cStatus))).setI3c { s.i3c with proto := false }
  else s.emit .i3cNack
/-- GETSTATUS. -/
def execGetstatus (s : State) : Result := .next s.getstatus

/-- The action of a write-form RSTACT's defining byte (R28). -/
def rstAction (db : Byte) : Option RstAction :=
  if db = 0x00 then some .none else if db = 0x01 then some .target else if db = 0x02 then some .whole else none

/-- RSTACT, write forms (R28): arms an action; another defining byte is NACKed directly and ignored in a broadcast.
RSTACT has no effect in HALT (R417). -/
def State.rstact (form : CccForm) (db : Byte) (s : State) : State :=
  if !s.i3cUp || s.dev.mode == .halt then s
  else
    match rstAction db, form with
    | some a, .broadcast => s.setI3c { s.i3c with armed := some a }
    | some a, .direct => if s.i3c.da.isSome then s.setI3c { s.i3c with armed := some a } else s.emit .i3cNack
    | none, .broadcast => s
    | none, .direct => s.emit .i3cNack
/-- RSTACT. -/
def execRstact (form : CccForm) (db : Byte) (s : State) : Result := .next (s.rstact form db)

/-- RSTACT, direct read form (R28): the time of action 0x01 or 0x02, or a NACK. -/
def State.rstactRead (db : Byte) (s : State) : State :=
  if db = 0x81 then s.i3cReply [Config.mipiResetTime 2]
  else if db = 0x82 then s.i3cReply [Config.mipiResetTime 1200]
  else s.emit .i3cNack
/-- RSTACT_READ. -/
def execRstactRead (db : Byte) (s : State) : Result := .next (s.rstactRead db)

/-- IBI_ISSUE (R37): the oldest pending cause is raised; accepted, it is done, and NACKed it is raised again. -/
def State.ibiIssue (accepted : Bool) (s : State) : State :=
  match s.i3c.ibis with
  | [] => s
  | b :: rest =>
    if s.i3cAddressed ∧ s.i3c.ibiEn then
      if accepted then
        ((s.setI3c { s.i3c with ibis := rest }).emit (.ibi b.code b.payload)).wrap Reg.i3cIbis 1
      else s.bump Reg.i3cIbiNacks
    else s
/-- IBI_ISSUE. -/
def execIbiIssue (accepted : Bool) (s : State) : Result := .next (s.ibiIssue accepted)

/-- A page's counters, ERR_STAT, INT_STAT and capture return to reset; the plain header registers stay (R45, R495). -/
def State.clearPage (o : Nat) (s : State) : State :=
  let h := s.pg o
  s.setPg o { PageHdr.reset with enable := h.enable, freeze := h.freeze, frozenAt := h.frozenAt, drainFreeze := h.drainFreeze,
                                 resetting := h.resetting, repost := h.repost, held := h.held }

/-- The I3C target logic goes into reset: the dynamic address is lost, the enable and the limits return to their reset
values, and pending causes survive (R28, R37, R426). -/
def State.i3cTargetReset (s : State) : State :=
  let s := s.setI3c { I3c.reset with ibis := s.i3c.ibis, resetting := true }
  let s := [Reg.i3cXfers, Reg.i3cAccFaults, Reg.i3cIbis, Reg.i3cIbiNacks].foldl (fun s a => s.setReg a 0) s
  s.clearPage (ordOf .i3c 0)

/-- I3C_TARGET_RESET_END (R28): the reset of the target logic ends, at most 2 ms after it began. -/
def State.i3cResetEnd (s : State) : State := s.setI3c { s.i3c with resetting := false, armed := none }
/-- I3C_TARGET_RESET_END. -/
def execI3cTargetResetEnd (s : State) : Result := .next (if s.i3c.resetting then s.i3cResetEnd else s)

end Sys2Proof.Machine
end

