-- ==== Sys2Proof/Machine/Modes.lean ====
section
/-!
DEFINITION. Resets of pages and of the part, power, and requests for a mode (R28, R45, R414 to R426, R444, R495).
-/

namespace Sys2Proof.Machine

/-! ## PG_CTL (R38, R45) -/

/-- PG_CTL.ENABLE of a page. -/
def State.pgEnable (o : Nat) (on : Bool) (s : State) : State := s.setPg o { s.pg o with enable := on }

/-- PG_CTL.FREEZE of a page: in DRAIN the value of a page that DRAIN freezes is stored for later (R45). -/
def State.pgFreeze (o : Nat) (on : Bool) (s : State) : State :=
  let h := s.pg o
  s.setPg o (if h.drainFreeze.isSome then { h with drainFreeze := some on } else h.setFreeze on s.tick)

/-- The page exists. -/
def State.pageOk (s : State) (o : Nat) : Bool := (pageAt s.part o).isSome

/-- PG_CTL_ENABLE. -/
def execPgCtlEnable (p : Path) (page : Nat) (on : Bool) (s : State) : Result :=
  .next (if s.takes p ∧ s.pageOk page then s.pgEnable page on else s)

/-- PG_CTL_FREEZE. -/
def execPgCtlFreeze (p : Path) (page : Nat) (on : Bool) (s : State) : Result :=
  .next (if s.takes p ∧ s.pageOk page then s.pgFreeze page on else s)

/-! ## What a page reset ends (R495) -/

/-- The registers of a page go to their reset values, but for its C registers; where the table keeps every function, only the
counters do. The mode log and temperatures of DEV are no counters; RC status goes with them
(R426; assumption 132). -/
def State.clearRegs (f : Fam) (n : Nat) (countersOnly : Bool) (s : State) : State :=
  let b := baseOf f n
  let stays := fun (a : Nat) =>
    let a' := a % 2 ^ 24
    if a' < b ∨ b + 0x400 ≤ a' then true
    else
      match regDef f (a' - b) with
      | none => true
      | some d => d.cfg || (d.rc == 0 && (f == .dev || (countersOnly && d.rw + d.wo != 0)))
  { s with regs := s.regs.filter fun e => stays e.1 }

/-- Every encode session ends as ABORT leaves it, with its record under PG_CTL.SRESET (R495). -/
def State.endSessions (tell : Bool) (s : State) : State :=
  s.sessions.foldl (fun s e =>
    if e.2.st = .free then s else if tell then (s.sesAbort e.1).2 else (s.sesKill e.1).sesFree e.1) s

/-- Every decode session ends so. -/
def State.endDecodes (tell : Bool) (s : State) : State :=
  s.decs.foldl (fun s e => if e.2.st = .free then s else if tell then (s.decAbort e.1).2 else s.decFree e.1) s

/-- Every EGRESS_FLOW device closes. -/
def State.endEgress (s : State) : State :=
  let s := s.leat.lanes.foldl (fun s e => if e.2.isOpen ∧ e.2.device then s.laneClose e.1 else s) s
  { s with flows := s.flows.filter fun e => match e.2.owner with
      | .device _ => false
      | .session _ => true }

/-- The controller of a root port is brought up again; commands in flight behave as at a controller reset (R312, R317). -/
def State.nvmeAnew (q : Nat) (s : State) : State :=
  let x := s.nvme q
  if x.st = .down then s
  else x.cmds.foldl (fun s e => s.nvmeResetCmd q e none) (s.setNvme q { x with st := .init, resets := [] })

/-- Every channel becomes IDLE with no status record, and WAIT counts are cleared; configurations stay (R495). -/
def State.channelsIdle (s : State) : State :=
  let s := s.chans.foldl (fun s e =>
    let s := (s.stepDrop e.1).dropBufs e.1
    let x := s.chan e.1
    s.setChan e.1 { Chan.reset with cfg := x.cfg, priv := x.priv, prog := x.prog, srBase := x.srBase }) s
  { s with waits := [], wcnt := [], regload := [] }

/-- Queued frames are discarded and counted in DROP_HELD; receive queues are emptied; discovery restarts (R495). -/
def State.switchAnew (s : State) : State :=
  let s := s.net.ports.foldl (fun s e => s.portPurge e.1) s
  let s := s.chans.foldl (fun s e => s.setChan e.1 { s.chan e.1 with rx := [] }) s
  ({ s with net := { s.net with drops := [], low := s.cellsFree } }).discover

/-- Steps that open sealed data end with KEY (R495, IBREHAM). -/
def State.opensEnd (s : State) : State :=
  s.chans.foldl (fun s e => match e.2.run with
    | some r => if r.key.isEmpty then s else (s.dmaStop e.1).endStep e.1 ⟨0x0F, 0, r.done⟩
    | none => s) s

/-- What the reset of one page ends or clears beyond its registers (R495); `tell` is PG_CTL.SRESET, where an ended session makes
its ABORTED record. -/
def State.pageWork (f : Fam) (n : Nat) (tell : Bool) (s : State) : State :=
  match f with
  | .dev | .clkpwr | .i3c | .ledger | .weir | .memctl | .memarb => s
  | .timebase => { s with tb := { s.tb with hit := 0, skip := 0 } }
  | .cfgchk => { s with cfg := { s.cfg with passes := 0 } }
  | .hopper => { s with hop := { s.hop with waits := [] } }
  | .evq => { s with evq := { Evq.reset with suspended := true } }
  | .ibreham => { s.opensEnd with ibr := { s.ibr with slots := [], queue := [], resI3c := 0, resReg := 0 } }
  | .stone => s.segRestart n
  | .bolter => s.rowAgain n
  | .dec => s.picAgain n
  | .runners0 | .runners1 | .runners3 => s.runners.phys.foldl (fun s e => s.unitAgain e.1) s
  | .runners2 =>
    s.runners.phys.foldl (fun s e =>
      let s := s.unitAgain e.1
      s.setRunner e.1 { s.runner e.1 with units := 0, outNum := 0, stall := 0, xcyc := 0 }) s
  | .sessions =>
    let s := s.endSessions tell
    s.sessions.foldl (fun s e => s.setSes e.1 { s.ses e.1 with late := 0, dbDrop := 0, lastDur := 0 }) s
  | .governor =>
    let s := s.endSessions tell
    s.sessions.foldl (fun s e => s.setGov e.1 Gov.reset) s
  | .packetizer =>
    let s := s.endSessions tell
    s.sessions.foldl (fun s e => s.setPkt e.1 Pkt.reset) s
  | .refpool =>
    let s := (s.endSessions tell).endDecodes tell
    { s with refs := { bufs := [], owners := [] } }
  | .leat0 | .leat1 =>
    let s := (s.endSessions tell).endEgress
    let s := s.leat.lanes.foldl (fun s e => s.laneClose e.1) s
    { s with leat := { lanes := [], resets := [] } }
  | .sluice =>
    let s := (s.endSessions tell).endEgress
    { s with flows := [] }
  | .quad =>
    let s := (List.range 4).foldl (fun s k => s.portDown (4 * n + k)) s
    (List.range 4).foldl (fun s k => s.setPort (4 * n + k) { s.port (4 * n + k) with cnt := [], downs := 0 }) s
  | .switch => s.switchAnew
  | .fwd => { s with net := { s.net with fwd := { s.net.fwd with staged := [], busy := false, waiting := 0, result := [], index := [] } } }
  | .mirror => { s with net := { s.net with mirror := [], mirProd := 0 } }
  | .pcie =>
    let s := if (s.link n).up then s.linkLost n else s
    if s.linkRole n = 3 then s.nvmeAnew n else s
  | .millrace => s.channelsIdle
  | .cp =>
    let s := (s.stepsOn n).foldl (fun s c => s.endStep c ⟨0x09, 0, 0⟩) s
    s.setCp n { (s.cp n).restart with eic := Eic.reset }
  | .pawl => (s.setPawl n (s.pawl n).restart).nvmeAnew n
  | .dma =>
    let r := (s.dma n).retired
    let s := s.dmaLost n
    s.setDma n { Dma.reset with retired := r }

/-- A page reset begins: its work ends, its error state, counters and non-C registers go to reset (R45, R495). -/
def State.pageReset (f : Fam) (n : Nat) (tell : Bool) (s : State) : State :=
  let o := ordOf f n
  let s := (s.pageWork f n tell).clearRegs f n f.countersOnly
  let s := s.clearPage o
  let h := s.pg o
  let h := if f.countersOnly then h
    else { h.setFreeze h.drainFreeze.isSome s.tick with enable := false, drainFreeze := h.drainFreeze.map fun _ => false }
  let mine := fun (k : Nat) => baseOf f n ≤ k % 2 ^ 24 && k % 2 ^ 24 < baseOf f n + 0x400
  { s.setPg o { h with resetting := true } with
    shadows := s.shadows.filter fun e => !mine e.1
    heldLo := s.heldLo.filter fun e => !mine e.1 }

/-- PG_CTL_SRESET. -/
def State.pgSreset (o : Nat) (s : State) : State :=
  match pageAt s.part o with
  | some (f, n) => if (s.pg o).resetting then s else s.pageReset f n true
  | none => s

/-- PG_CTL_SRESET. -/
def execPgCtlSreset (p : Path) (page : Nat) (s : State) : Result := .next (if s.takes p then s.pgSreset page else s)

/-- A page reset ends: errors detected meanwhile are recorded now (R437, R495). -/
def State.pageDone (f : Fam) (n : Nat) (s : State) : State :=
  let o := ordOf f n
  let h := s.pg o
  if h.resetting then
    let s := s.setPg o { h with resetting := false, held := [] }
    h.held.foldl (fun s e => s.fault f n e.src e.obj e.cap (e.cap == Cap.forced)) s
  else s

/-- PG_SRESET_DONE: a page's own reset; those of DEV_CTL.SRESET end with it. -/
def execPgSresetDone (page : Nat) (s : State) : Result :=
  .next (match pageAt s.part page with
    | some (f, n) => if s.up ∧ s.dev.sreset = false then s.pageDone f n else s
    | none => s)

/-! ## DEV_CTL.SRESET (R425) -/

/-- DEV_CTL.SRESET leaves a family's pages as they are. -/
def Fam.keptBySreset : Fam → Bool
  | .dev | .clkpwr | .ledger | .i3c | .timebase | .quad | .pcie | .memctl | .memarb | .weir => true
  | _ => false

/-- The pages that DEV_CTL.SRESET resets. -/
def State.sresetPages (s : State) : List (Fam × Nat) := (Fam.all.filter fun f => !f.keptBySreset).flatMap s.pagesOf

/-- A device reset begins: sessions become FREE and channels IDLE with no record, and the pages reset. -/
def State.devReset (s : State) : State :=
  if s.dev.sreset = false ∧ (s.dev.mode = .standby ∨ s.running ∨ s.dev.mode = .drain) then
    let s := (s.endSessions false).endDecodes false
    let s := s.sresetPages.foldl (fun s e => s.pageReset e.1 e.2 false) s
    { s with dev := { s.dev with sreset := true, changing := some .standby } }
  else s

/-- DEV_SRESET. -/
def execDevSreset (p : Path) (s : State) : Result := .next (if s.takes p then s.devReset else s)

/-- A device reset ends within 10 ms: the mode becomes STANDBY, and DEV_RESET_CAUSE shows the reset. -/
def State.devResetDone (s : State) : State :=
  if s.dev.sreset then
    let s := { s with dev := { s.dev with sreset := false, changing := none } }
    let s := s.setMode .standby 4
    let s := s.setReg Reg.devResetCause (s.reg Reg.devResetCause ||| 8#32)
    s.sresetPages.foldl (fun s e => s.pageDone e.1 e.2) s
  else s

/-- DEV_SRESET_DONE. -/
def execDevSresetDone (s : State) : Result := .next (if s.live then s.devResetDone else s)

/-! ## Power (R414, R426, R482) -/

/-- The Ledger after a power loss: the flash as it is; a write in progress is abandoned and pending updates are lost (R426). -/
def Ledger.powerLost (l : Ledger) : Ledger :=
  { l with write := none, read := none, result := 0, faults := [], retireP := false, wearP := false, lastAt := none,
           heldRetire := Retire.none }

/-- The part with no power: only the flash, the fuses and the pins remain. -/
def State.powerOff (s : State) : State :=
  { State.reset with
    part := s.part, pending := s.pending, free := s.free, out := s.out, ldg := s.ldg.powerLost, regs := [],
    dev := { Dev.reset with mode := .off, prev := .off, pwrOk := false, resetN := s.dev.resetN, serial := s.dev.serial },
    clk := { Clkpwr.reset with core := false },
    ibr := { Ibreham.reset with locked := s.ibr.locked, drs := s.ibr.drs, zpk := s.ibr.zpk, cpk := s.ibr.cpk },
    net := { Net.reset with weir := { closed := true, change := none, stuck := false } } }

/-- PWR_OK_FALL. -/
def execPwrOkFall (s : State) : Result := .next s.powerOff

/-- RAIL_UNDERVOLTAGE (R482): acts as PWR_OK low. -/
def execRailUndervoltage (s : State) : Result := .next s.powerOff

/-- PWR_OK_RISE: POR releases and bring-up runs, with TB_COUNT from 0 (R273, R414). -/
def State.powerOn (s : State) : State :=
  if s.dev.pwrOk then s
  else
    let d := { s.dev with mode := .bringup, prev := .off, pwrOk := true, cause := .por }
    ({ s with dev := d, clk := Clkpwr.reset, tick := 0 }).logMode .off .bringup 1

/-- PWR_OK_RISE. -/
def execPwrOkRise (s : State) : Result := .next s.powerOn

/-! ## Warm resets (R28, R414, R426) -/

/-- What a warm reset leaves: TB_COUNT and the conversion, the Ledger with its pending updates, the fuses and the tamper latch. -/
def State.warm (k : ResetKind) (s : State) : State :=
  let t : State :=
    { State.reset with
      part := s.part, pending := s.pending, free := s.free, out := s.out, tick := s.tick, ldg := s.ldg.abandon, regs := [],
      dev := { Dev.reset with mode := .bringup, prev := s.dev.mode, cause := k, serial := s.dev.serial },
      tb := { TimeBase.reset with offset := s.tb.offset, rate := s.tb.rate, refE := s.tb.refE, pllLock := s.tb.pllLock },
      ibr := { Ibreham.reset with locked := s.ibr.locked, drs := s.ibr.drs, zpk := s.ibr.zpk, cpk := s.ibr.cpk, tamper := s.ibr.tamper },
      net := { Net.reset with weir := { s.net.weir with stuck := false } } }
  (t.setReg Reg.devTjMax (s.reg Reg.devTjMax)).weirCheck

/-- RESET_N_ASSERT (R414): no effect in OFF or HALT. -/
def State.resetLow (s : State) : State :=
  if s.dev.mode = .off ∨ s.dev.mode = .halt ∨ s.dev.resetN = false then { s with dev := { s.dev with resetN := false } }
  else
    let t := s.warm .resetN
    { t with dev := { t.dev with resetN := false } }

/-- RESET_N_ASSERT. -/
def execResetNAssert (s : State) : Result := .next s.resetLow

/-- RESET_N_RELEASE: bring-up runs from step 1. -/
def State.resetHigh (s : State) : State :=
  if s.dev.resetN then s
  else
    let s := { s with dev := { s.dev with resetN := true } }
    if s.dev.mode = .bringup ∧ s.dev.cause = .resetN then s.logMode s.dev.prev .bringup 2 else s

/-- RESET_N_RELEASE. -/
def execResetNRelease (s : State) : Result := .next s.resetHigh

/-- TARGET_RESET_PATTERN (R28): the armed action, or 0x01, then the default again; no effect in HALT (R417). -/
def State.resetPattern (s : State) : State :=
  if !s.i3cUp || s.dev.mode == .halt then s
  else
    match s.i3c.armed with
    | some .whole => (s.warm .rstact2).logMode s.dev.mode .bringup 3
    | some .none => s.setI3c { s.i3c with armed := none }
    | _ => (s.setI3c { s.i3c with armed := none }).i3cTargetReset

/-- TARGET_RESET_PATTERN. -/
def execTargetResetPattern (s : State) : Result := .next s.resetPattern

/-! ## Requests for a mode (R414 to R416, R422, R423) -/

/-- DEV_STAT.RESULT of a request. -/
def State.reqResult (r : Nat) (s : State) : State := { s with dev := { s.dev with result := r } }

/-- A request for RUN enters DEGRADED while the part is short of units (R416). -/
def State.goRun (s : State) : State := (s.setMode (if s.short then .degraded else .run) 0).reqResult 0

/-- What SLACK needs (R422). -/
def State.slackReady (s : State) : Bool :=
  s.sessionsFree && s.mrActive == 0 && s.mem.scrub.isNone && s.runners.cmd.isNone && s.cps.all (fun e => e.2.img.isNone) &&
  s.pawls.all (fun e => !e.2.loading) && !s.ldg.busy

/-- The quads that SLACK powers down (R422). -/
def State.slackQuads (s : State) : List Nat :=
  let host := if flag (s.reg Reg.slackCtl) 1 then (s.hostLink.map s.linkQuads).getD [] else []
  (List.range s.part.quads).filter fun q => !s.keepAlive q && !host.contains q

/-- The links of some quads go down, and their NVMe commands end. -/
def State.linksDown (qs : List Nat) (s : State) : State :=
  (List.range s.part.pcieQuads).foldl (fun s n =>
    if (s.link n).up ∧ (s.linkQuads n).any qs.contains then (s.linkLost n).nvmeDown n else s) s

/-- A PMODE 2 quad that is kept alive retrains its ports, as SLACK begins and as it ends (R245). -/
def State.keepRetrain (s : State) : State :=
  ((List.range s.part.quads).filter fun q => s.keepAlive q && s.quadMode q == 2).foldl (fun s q =>
    (List.range 4).foldl (fun s k => s.portDown (4 * q + k)) s) s

/-- SLACK entry (R422): the weir closes, the quads that are not kept and the CORE domain power down, and a host link that is kept
retrains to 2.5 GT/s. -/
def State.slackEnter (s : State) : State :=
  let qs := s.slackQuads
  let s := s.setMode .slack 0
  let s := qs.foldl (fun s q => (List.range 4).foldl (fun s k => if (s.port (4 * q + k)).up then s.portOff (4 * q + k) else s) s) s
  let s := (s.linksDown qs).keepRetrain
  let s := match s.hostLink with
    | some n => if (s.link n).up then s.setLink n { s.link n with rate := 1 } else s
    | none => s
  ({ s with clk := { s.clk with core := false, quadsOff := qs } }.bump Reg.slackEntries).reqResult 0

/-- SLACK exit (R423). -/
def State.slackExit (cause : Nat) (s : State) : State :=
  (({ s with clk := { s.clk with core := true, quadsOff := [] } }).setMode .standby cause).keepRetrain

/-- A write of DEV_CTL.REQ (R415): refused with its code, or the change of R414. -/
def State.request (code : Nat) (s : State) : State :=
  if s.dev.changing.isSome then s.reqResult 3
  else
    match s.dev.mode, code with
    | .standby, 3 => s.goRun
    | .drain, 3 => s.goRun
    | .run, 4 | .degraded, 4 => (s.setMode .drain 0).reqResult 0
    | .drain, 2 => if s.drained ∧ s.sessionsFree ∧ s.mrActive = 0 then (s.setMode .standby 0).reqResult 0 else s.reqResult 2
    | .standby, 5 => if s.slackReady then s.slackEnter else s.reqResult 2
    | .slack, 2 => (s.slackExit 0).reqResult 0
    | _, _ => s.reqResult 1

/-- REQ_STANDBY. -/
def execReqStandby (p : Path) (s : State) : Result := .next (if s.takes p then s.request 2 else s)
/-- REQ_RUN. -/
def execReqRun (p : Path) (s : State) : Result := .next (if s.takes p then s.request 3 else s)
/-- REQ_DRAIN. -/
def execReqDrain (p : Path) (s : State) : Result := .next (if s.takes p then s.request 4 else s)
/-- REQ_SLACK. -/
def execReqSlack (p : Path) (s : State) : Result := .next (if s.takes p then s.request 5 else s)

/-- SLACK_WAKE_FRAME (R423): a frame with a good FCS and the wake DA, whose first byte is in bits 7 to 0, on a keep-alive quad. -/
def State.wakeFrame (q : Nat) (da : BitVec 48) (s : State) : State :=
  if s.live ∧ s.dev.mode = .slack ∧ flag (s.reg Reg.slackCtl) 0 ∧ s.keepAlive q ∧
      da.toNat = (s.reg Reg.slackWakeDaLo).toNat + 2 ^ 32 * fld (s.reg Reg.slackWakeDaHi) 15 0 then s.slackExit 6
  else s

/-- SLACK_WAKE_FRAME. -/
def execSlackWakeFrame (q : Nat) (da : BitVec 48) (s : State) : Result := .next (s.wakeFrame q da)

/-! ## Clocks and temperature (R433, R444, R463) -/

/-- The lock of a core PLL. -/
def Clkpwr.locked (c : Clkpwr) : Clk → Bool
  | .fclk => c.fclk | .vclk => c.vclk | .mclk => c.mclk

/-- Stores it. -/
def Clkpwr.setLock (c : Clkpwr) (k : Clk) (b : Bool) : Clkpwr :=
  match k with
  | .fclk => { c with fclk := b } | .vclk => { c with vclk := b } | .mclk => { c with mclk := b }

/-- The code of a core clock. -/
def Clk.code : Clk → Nat
  | .fclk => 0 | .vclk => 1 | .mclk => 2

/-- CORE_PLL_LOSS (R444): work in the clock's domain stalls. -/
def State.pllLoss (k : Clk) (s : State) : State :=
  if s.live ∧ s.clk.locked k then
    let c := s.clk.setLock k false
    ({ s with clk := { c with lostAt := Tbl.set c.lostAt (Clk.code k) s.tick } }).fault .clkpwr 0 0 0 Cap.none false
  else s

/-- CORE_PLL_LOSS. -/
def execCorePllLoss (clk : Clk) (s : State) : Result := .next (s.pllLoss clk)

/-- CORE_PLL_RELOCK: the stalled work resumes where it stopped. -/
def State.pllRelock (k : Clk) (s : State) : State :=
  if s.up ∧ s.clk.locked k = false then
    let c := s.clk.setLock k true
    ({ s with clk := { c with lostAt := Tbl.erase c.lostAt (Clk.code k) } }).mirrorDrain
  else s

/-- CORE_PLL_RELOCK. -/
def execCorePllRelock (clk : Clk) (s : State) : Result := .next (s.pllRelock clk)

/-- CORE_PLL_RELOCK_TIMEOUT: 1 ms without lock, and every session is evicted (R444). -/
def State.pllTimeout (k : Clk) (s : State) : State :=
  match Tbl.get? s.clk.lostAt (Clk.code k) with
  | some t =>
    if s.live ∧ s.clk.locked k = false then
      let s := (s.reach (t + msTicks 1)).evictAll .clkpwr 0
      { s with clk := { s.clk with lostAt := Tbl.erase s.clk.lostAt (Clk.code k) } }
    else s
  | none => s

/-- CORE_PLL_RELOCK_TIMEOUT. -/
def execCorePllRelockTimeout (clk : Clk) (s : State) : Result := .next (s.pllTimeout clk)

/-- OVERTEMP (R432, R433, R463): a sensor's reading, in sixteenths of a degree; above TJ_ALERT it raises OVERTEMP, and above
175 °C it is tamper. -/
def State.overtemp (k : Nat) (v : BitVec 16) (s : State) : State :=
  if s.up ∧ k < 6 then
    let s := s.setReg (Reg.devTj k) (word v.toNat)
    let s := if signed 16 (fld (s.reg Reg.devTjMax) 15 0) < v.toInt then s.setReg Reg.devTjMax (word v.toNat) else s
    let s := if signed 16 (fld (s.reg Reg.tjAlert) 15 0) < v.toInt then s.fault .clkpwr 0 1 0 Cap.none false else s
    if 2800 < v.toInt then s.tamper .temperature else s
  else s

/-- OVERTEMP. -/
def execOvertemp (sensor : Nat) (value : BitVec 16) (s : State) : Result := .next (s.overtemp sensor value)

end Sys2Proof.Machine
end

