-- ==== Sys2Proof/Machine/Live.lean ====
section
/-!
DEFINITION. What a read of a register shows: the words that the part computes from its state, page by page, as the register
tables of the chapters give them. A word with no entry here is one that State holds as a word.
-/

namespace Sys2Proof.Machine

/-- A number from fields, each given with its lowest bit. -/
def packN (l : List (Nat × Nat)) : Nat := (l.map fun e => e.2 * 2 ^ e.1).sum

/-- The low or the high word of a 64-bit value. -/
def half64 (hi : Bool) (v : Nat) : Nat := if hi then v / 2 ^ 32 % 2 ^ 32 else v % 2 ^ 32

/-- A signed number as 32 bits. -/
def int32 (v : Int) : Nat := (BitVec.ofInt 32 v).toNat

/-- A selector that a path sees, as its number. -/
def State.selOf (s : State) (p : Path) (a hi : Nat) : Nat := fld (s.preg p a) hi 0

/-- Four bytes of a map, or 0x7F beyond its count or where an entry is unmapped (R469). -/
def mapWord (f : Nat → Option Nat) (i : Nat) : Nat := packN ((List.range 4).map fun k => (8 * k, (f (4 * i + k)).getD 0x7F))

/-- Bits of a map of 32 entries. -/
def bitWord (f : Nat → Bool) (i : Nat) : Nat := packN ((List.range 32).map fun k => (k, b2n (f (32 * i + k))))

/-! ## The control plane -/

/-- DEV (R432). -/
def State.liveDev (s : State) (off : Nat) : Option Nat :=
  let cap := fun (live : Bool) (i : Nat) =>
    let p := s.part
    if i = 0 then packN [(0, p.stonesPhys), (8, if live then s.liveStones else p.stonesUse),
                         (16, if live then s.livePipes else p.pipes), (24, p.runnersPhys)]
    else if i = 1 then packN [(0, if live then s.liveRunners else p.runnersUse), (8, if live then s.liveQuads else p.quads),
                              (16, p.pcieQuads), (24, p.sites), (28, b2n (p.hasWeir && !(live && s.net.weir.stuck)))]
    else if i = 2 then packN [(0, p.encSessions), (16, p.decSessions), (24, p.cpsPhys)]
    else if i = 3 then packN [(0, if live then s.liveCps else p.cpsUse), (8, p.channels), (19, p.devtab)]
    else packN [(0, if live then s.liveDmas else 32), (8, 16)]
  if off = 0x40 then some (packN [(0, s.dev.mode.code), (4, s.dev.prev.code)])
  else if off = 0x44 then some (packN [(8, b2n s.dev.sreset)])
  else if off = 0x48 then some (packN [(0, b2n (s.dev.changing.isSome || s.dev.sreset)), (1, s.dev.result), (4, b2n s.drained),
                                       (8, s.dev.buFail), (16, sat s.dev.buMs 0xFFFF)])
  else if off = 0x4C then some (half64 false s.serialNo)
  else if off = 0x50 then some (half64 true s.serialNo)
  else if off = 0x54 then some (packN [(0, s.part.idWord), (16, 0xB0)])
  else if 0x58 ≤ off ∧ off < 0x6C then some (cap false ((off - 0x58) / 4))
  else if 0x6C ≤ off ∧ off < 0x80 then some (cap true ((off - 0x6C) / 4))
  else if off = 0x84 then some (sat32 s.ldg.wear.por)
  else none

/-- The QUAD[n] domain is powered (R424, R433): its role wants it, and it is not asked down, or still drains. -/
def State.quadPowered (s : State) (q : Nat) : Bool :=
  !s.clk.quadsOff.contains q &&
  (s.quadRole q == 1 ||
   (s.quadRole q == 2 && match s.linkOfQuad q with
     | some n => s.linkEn n || s.linkDraining n
     | none => false))

/-- CLKPWR (R433). -/
def State.liveClk (s : State) (off : Nat) : Option Nat :=
  if off = 0x40 then some (packN [(0, b2n s.clk.fclk), (1, b2n s.clk.vclk), (2, b2n s.clk.mclk)])
  else if off = 0x48 then
    some (packN ((24, b2n s.clk.core) :: (List.range s.part.quads).map fun q => (q, b2n (s.quadPowered q))))
  else none

/-- CFGCHK (R47, R466). -/
def State.liveCfg (s : State) (off : Nat) : Option Nat :=
  let x := s.cfg
  let sel := fld (s.reg Reg.cfgPageSel) 7 0
  let shown := fun (t : Tbl Nat) => if (pageAt s.part sel).isSome then Tbl.getD t sel 0 else 0
  if off = 0x48 then some (packN [(0, b2n x.commitBusy), (1, b2n x.refValid), (16, x.passes % 65536)])
  else if off = 0x4C then some x.refCrc
  else if off = 0x50 then some x.liveCrc
  else if off = 0x54 then some x.mmFirst
  else if off = 0x58 then some x.mmCount
  else if off = 0x60 then some (shown x.refs)
  else if off = 0x64 then some (shown x.live)
  else none

/-- I3C (R472). -/
def State.liveI3c (s : State) (off : Nat) : Option Nat :=
  let x := s.i3c
  if off = 0x40 then some (match x.da with
    | some a => a.toNat + 0x80
    | none => 0)
  else if off = 0x44 then some (packN [(0, x.mwl), (16, x.mrl)])
  else if off = 0x48 then some (packN [(0, b2n x.ibiEn), (8, sat x.ibis.length 15)])
  else none

/-- EVQ (R54, R55). -/
def State.liveEvq (s : State) (off : Nat) : Option Nat :=
  let x := s.evq
  if off = 0x54 then some x.prod
  else if off = 0x58 then some x.cons
  else if off = 0x60 then
    some (packN ((8, b2n s.evqFull) :: (9, b2n x.suspended) ::
      (List.range 5).map fun k => (k, b2n (decide (Tbl.getD x.lost k 0 ≠ 0)))))
  else if 0x64 ≤ off ∧ off < 0x78 then some (sat32 (Tbl.getD x.lost ((off - 0x64) / 4) 0))
  else if off = 0x7C then some s.reposts.length
  else if 0x80 ≤ off ∧ off < 0xC0 then
    some (if flag s.evqCtl 1 then
      leNat (s.mem.bytesAt (s.reg64 Reg.evqBaseLo + 64 * (x.cons % s.evqSize) + (off - 0x80)) 4) else 0)
  else none

/-- LEDGER (R434). -/
def State.liveLedger (s : State) (off : Nat) : Option Nat :=
  let l := s.ldg
  if off = 0x40 then
    some (packN [(0, b2n l.busy), (1, ((l.newest.map (·.1)).getD 0)), (2, b2n l.bank0.record?.isSome),
                 (3, b2n l.bank1.record?.isSome), (4, b2n l.updates), (8, l.result)])
  else if off = 0x44 then some ((l.newest.map (·.2.seq)).getD 0)
  else if off = 0x5C then some (sat32 l.wear.writes)
  else if off = 0x60 then some l.history.length
  else if off = 0x64 then some l.size
  else none

/-- TIMEBASE (R276, R277, R297). -/
def State.liveTb (s : State) (off : Nat) : Option Nat :=
  let n := s.netTime
  if off = 0x40 then some (half64 false s.tick)
  else if off = 0x44 then some (half64 true s.tick)
  else if off = 0x48 then some (half64 false (netSec n))
  else if off = 0x4C then some (half64 true (netSec n))
  else if off = 0x50 then some (netNs n)
  else if off = 0x54 then some (netSub n)
  else if 0x58 ≤ off ∧ off < 0x68 then some (s.tb.offset / 2 ^ (8 * (off - 0x58)) % 2 ^ 32)
  else if off = 0x68 then some (half64 false s.tb.rate)
  else if off = 0x6C then some (half64 true s.tb.rate)
  else if off = 0x7C then some (packN [(0, b2n s.tb.refE), (1, b2n s.tb.pllLock)])
  else if off = 0x80 then some s.tb.hit.toNat
  else if off = 0x84 then some s.tb.skip.toNat
  else none

/-- IBREHAM (R457, R464). -/
def State.liveIbr (s : State) (p : Path) (off : Nat) : Option Nat :=
  let x := s.ibr
  let k := s.slot (s.selOf p (Reg.ibrSlotSel) 11)
  if off = 0x40 then
    some (packN [(0, b2n x.locked), (1, b2n x.cpk.isSome), (2, b2n (x.queue.any fun c => c.path == p)),
                 (4, match p with
                     | .i3c => x.resI3c
                     | .regload => x.resReg)])
  else if off = 0x54 then some (packN [(0, k.typ), (2, b2n (s.slotBound (s.selOf p (Reg.ibrSlotSel) 11))), (8, k.kcv)])
  else if off = 0x58 then some k.tag
  else if off = 0x5C then some k.uses
  else if off = 0x60 then some (x.slots.filter fun e => e.2.typ != 0).length
  else if off = 0x6C then some x.tamper.toNat
  else none

/-- WEIR (R272). -/
def State.liveWeir (s : State) (off : Nat) : Option Nat :=
  if off = 0x44 then some (packN [(0, b2n s.net.weir.closed), (1, b2n s.net.weir.change.isSome)]) else none

/-! ## The stream flow -/

/-- STONE[n] (R122). -/
def State.liveStone (s : State) (n off : Nat) : Option Nat :=
  let x := s.stone n
  if off = 0x40 then some (packN [(0, x.role.code), (2, b2n x.busy), (8, if x.role = .usable then x.lstone else 0)])
  else if off = 0x44 then some (packN [(0, x.ses), (16, x.row), (28, x.col)])
  else none

/-- DEC[n] (R182, R183, R188, R469). -/
def State.liveDec (s : State) (p : Path) (n off : Nat) : Option Nat :=
  let y := s.pipe n
  let k := s.selOf p (Reg.decSesSel n) 6
  let x := s.dec k
  let win := fun (v : Nat) => some (if k < s.part.decSessions then v else 0)
  if off = 0x40 then
    let r := s.runnerAt 2 n
    some (packN [(0, b2n y.busy), (8, y.ses), (16, r.getD 0x7F),
                 (23, b2n (match s.imageAt 2 n with
                   | some i => [1, 2, 3].any fun c => decServes i.id c
                   | none => false))])
  else if off = 0x44 then some (ceilDiv (s.pipeSum n * 32768) (10 ^ 12))
  else if off = 0x64 then win (packN [(0, x.st.code), (4, if x.desc.isEmpty then 0 else eePipe x.desc)])
  else if off = 0x68 then win x.pics
  else if off = 0x6C then win x.out
  else if off = 0x70 then win x.concealed
  else if off = 0x74 then win x.drops
  else if off = 0x78 then win x.waited
  else if off = 0x7C then win (sat x.auBytes 0xFFFFFF)
  else none

/-- RUNNERS page 0 (R204, R214). -/
def State.liveRunners0 (s : State) (off : Nat) : Option Nat :=
  let k := fld (s.reg Reg.runLibSel) 3 0
  let x := s.lib k
  let holding := fun (id : Nat) =>
    ((List.range s.part.runnersUse).filter fun l =>
      (s.assign l).side == 3 && match s.runnerOf l with
        | some q => (match (s.runner q).lib with
          | some j => (s.lib j).id == id
          | none => false)
        | none => false).length
  if off = 0x54 then
    some (packN [(0, b2n x.valid), (1, b2n s.runners.cmd.isSome), (2, b2n (x.valid && x.ledger)),
                 (8, if x.valid then x.id else 0), (24, s.runners.result)])
  else if off = 0x58 then
    some (if x.valid then packN [(0, x.word2 13 0), (14, x.word1 30 30), (16, x.word2 23 16), (24, x.word1 23 16)] else 0)
  else if off = 0x70 then
    some (packN [(0, holding 0x21), (8, holding 0x22), (16, sat s.runners.queue.length 511)])
  else none

/-- RUN_MAP of RUNNERS page 1 (R214, R469). -/
def State.liveRunners1 (s : State) (off : Nat) : Option Nat :=
  if 0x140 ≤ off ∧ off < 0x180 then some (mapWord s.runnerOf ((off - 0x140) / 4)) else none

/-- RUN_STAT and the counters of RUNNERS page 2 (R214, R469). -/
def State.liveRunners2 (s : State) (off : Nat) : Option Nat :=
  let k := fld (s.reg Reg.runCntSel) 6 0
  let x := s.runner k
  let win := fun (v : Nat) => some (if k < s.part.runnersPhys then v else 0)
  if off < 0x148 then
    let n := (off - 0x40) / 4
    let y := s.runner n
    some (if n < s.part.runnersPhys then
      let use := y.role == .usable
      packN [(0, y.role.code), (2, if use then y.logical else 0), (8, if use then (s.assign y.logical).side else 0),
             (12, y.lib.getD 0xF), (16, b2n y.loading.isSome), (17, b2n (use && s.asgWaits y.logical)), (18, b2n y.busy)]
      else 0xF002)
  else if off = 0x204 then win (x.units % 2 ^ 32)
  else if off = 0x208 then win (half64 false x.outNum)
  else if off = 0x20C then win (half64 true x.outNum)
  else if off = 0x210 then win x.stall
  else if off = 0x214 then win x.xcyc
  else none

/-- BOLTER[n] (R64, R89, R91, R94). -/
def State.liveBolter (s : State) (n off : Nat) : Option Nat :=
  let x := s.bolter n
  let load := fun (pix : List Byte → Nat) =>
    let (a, b) := fracSum ((s.admitted.filter fun d => dBolter d == n).map fun d => s.pixLoad d (pix d))
    ceilDiv (a * 1000) b
  if off = 0x40 then some (packN [(0, x.ses), (16, x.row), (31, b2n x.busy)])
  else if off = 0x44 then some (load fun d => dWidth d * dHeight d)
  else if off = 0x48 then some (load fun d => dInW d * dInH d)
  else if 0x58 ≤ off ∧ off < 0x68 then
    let sel := s.reg (Reg.bolterCoefSel n)
    let y := s.ses (fld sel 8 0)
    let d := y.desc
    let (w, h) := dOrient d
    let (i, o) := if flag sel 9 then (h, dHeight d) else (w, dWidth d)
    let c := fun (k : Nat) => (BitVec.ofInt 16 ((scaleCoef i o (fld sel 15 10)).getD k 0)).toNat
    let j := (off - 0x58) / 4
    some (if y.st = .free ∨ dBolter d ≠ n ∨ i = o then 0 else packN [(0, c (2 * j)), (16, c (2 * j + 1))])
  else none

/-- GOVERNOR (R141 to R143, R146). -/
def State.liveGov (s : State) (p : Path) (off : Nat) : Option Nat :=
  let k := s.selOf p Reg.govSel 8
  let x := s.ses k
  let g := x.gov
  let win := fun (v : Nat) => some (if k < s.part.encSessions then v else 0)
  if off = 0x44 then
    win (if x.st = .free then 0 else
      packN [(0, dRmode x.desc), (2, if !govLoop x.desc then 2 else if s.tick < g.hold then 1 else 0),
             (4, b2n (match x.frame with
               | some f => f.sticky
               | none => false)), (8, g.lastQ), (16, g.lastRow)])
  else if off = 0x48 then win g.cNow
  else if off = 0x4C then win (half64 false g.full)
  else if off = 0x50 then win (half64 true g.full % 65536)
  else if off = 0x54 then win (match x.frame with
    | some f => int32 f.target
    | none => 0)
  else if off = 0x58 then win (match x.frame with
    | some f => f.cap
    | none => 0)
  else if off = 0x5C then win (match x.frame with
    | some f => f.head + ((f.segs.filter fun e => e.st == .committed).map (·.bits)).sum
    | none => 0)
  else if off = 0x60 then win g.thetaP
  else if off = 0x64 then win g.thetaI
  else if off = 0x68 then win (int32 g.grad)
  else if off = 0x6C then win (sat32 g.qdelay)
  else if off = 0x70 then win (sat g.loss 0xFFFF)
  else if off = 0x74 then win g.floorPics
  else if off = 0x78 then win g.decs
  else if off = 0x7C then win g.count
  else none

/-- REFPOOL (R148, R153, R173). -/
def State.liveRef (s : State) (p : Path) (off : Nat) : Option Nat :=
  let c := s.selOf p Reg.refClsSel 3
  let b := s.bufOfNum (s.selOf p Reg.refBufSel 12)
  let y := match b with
    | some k => s.rbuf k
    | none => RefBuf.reset
  let o := s.selOf p Reg.refSesSel 9
  let x := s.rses o
  let here := if o < 512 then decide (o < s.part.encSessions) else decide (o < 512 + s.part.decSessions)
  let win := fun (v : Nat) => some (if here then v else 0)
  if off = 0x44 then some (if s.clsGeom c = 0 then 0 else s.clsBufSize c)
  else if off = 0x48 then some (if s.clsGeom c = 0 then 0 else s.clsSblkSize c)
  else if off = 0x4C then some (packN [(0, (s.clsFree c).length), (16, (s.clsFreeSblks c).length)])
  else if off = 0x54 then
    some (packN [(0, b2n y.temp), (1, b2n y.short), (2, b2n y.long), (3, b2n y.ack), (4, b2n y.lost), (5, b2n (!y.map.isEmpty)),
                 (6, b2n y.concealed), (8, y.held), (16, (b.map keyCls).getD 0), (20, y.owner)])
  else if off = 0x58 then some (y.frame % 2 ^ 32)
  else if off = 0x5C then some (packN [(0, y.rtpFirst % 65536), (16, y.rtpCount % 65536)])
  else if off = 0x64 then
    win (packN [(0, match s.anchor o with
                  | some k => s.bufNum k
                  | none => 0x1FFF), (16, x.bufs.length % 32), (24, b2n x.recover),
                (25, b2n (match x.cycle with
                  | some y => y.forced
                  | none => false))])
  else if off = 0x68 then win (x.acks % 2 ^ 32)
  else if off = 0x6C then win (sat32 x.losses)
  else if off = 0x70 then win (sat32 x.recovs)
  else if off = 0x74 then win (sat x.pend.length 0xFFFF)
  else none

/-- SESSIONS (R56, R63, R64, R77, R469). -/
def State.liveSessions (s : State) (p : Path) (off : Nat) : Option Nat :=
  let k := s.selOf p Reg.sesSel 8
  let x := s.ses k
  let win := fun (v : Nat) => some (if k < s.part.encSessions then v else 0)
  if off = 0x54 then win (packN [(0, x.st.code), (4, x.preset)])
  else if off = 0x58 then win (x.frameNo % 2 ^ 32)
  else if off = 0x5C then win (x.kRd % 2 ^ 32)
  else if off = 0x60 then win (sat (x.held x.kRd) 0x3FFF)
  else if off = 0x64 then win (sat (netUs x.debt) 0xFFFFFF)
  else if off = 0x68 then win (sat x.lastDur 0xFFFFFF)
  else if off = 0x6C then win x.late
  else if off = 0x70 then win x.dbDrop
  else if off = 0x74 then some (s.sessions.filter fun e => e.2.st != .free).length
  else if 0x80 ≤ off ∧ off < 0xC0 then
    let i := (off - 0x80) / 4
    let v := fun (l : Nat) => if l < s.part.stonesUse then s.stoneLoad l else 0
    some (packN [(0, v (2 * i)), (16, v (2 * i + 1))])
  else if 0xC0 ≤ off ∧ off < 0xE0 then some (mapWord s.stoneOf ((off - 0xC0) / 4))
  else none

/-- PACKETIZER (R231, R238). -/
def State.livePkt (s : State) (p : Path) (off : Nat) : Option Nat :=
  let k := s.selOf p Reg.pktSel 8
  let x := (s.ses k).pkt
  let isOpen := !(s.ses k).desc.isEmpty && (let l := s.lane (dLane (s.ses k).desc); l.isOpen && !l.device && l.owner == k)
  let win := fun (v : Nat) => some (if k < s.part.encSessions then v else 0)
  if off = 0x44 then win (packN [(0, b2n isOpen), (1, b2n (x.armed.isSome && !(x.txDone && x.rxDone))), (2, b2n x.oldFree)])
  else if off = 0x48 then win (x.next % 65536)
  else if off = 0x4C then win (x.next / 65536 % 2 ^ 32)
  else if off = 0x50 then win (x.packets % 2 ^ 32)
  else if off = 0x54 then win (x.octets % 2 ^ 32)
  else if off = 0x58 then win (x.srtcp % 2 ^ 31)
  else if off = 0x5C then win x.rtx
  else if off = 0x60 then win x.miss
  else if off = 0x64 then win x.fbDrop
  else if off = 0x68 then win x.fbSkip
  else if off = 0x6C then win (sat32 x.rtt)
  else if off = 0x70 then win x.rr
  else if off = 0x74 then win x.jitter
  else none

/-- LEAT page 0 (R217 to R223, R239). -/
def State.liveLeat0 (s : State) (p : Path) (off : Nat) : Option Nat :=
  let v := s.preg p Reg.leatSel
  let q := fld v 7 0
  let l := 2 * q + fld v 8 8
  let x := s.lane l
  if off = 0x44 then
    some (packN [(0, b2n x.isOpen), (1, b2n x.device), (3, b2n x.stale), (4, sat (s.openFrags l) 15),
                 (16, x.owner)])
  else if off = 0x48 then some (sat (s.liveItems l) 0xFFFFFF)
  else if off = 0x4C then some (sat x.histItems 0xFFFFFF)
  else if off = 0x50 then some (packN [(0, x.segs.length), (16, x.maxSegs)])
  else if off = 0x54 then some (x.pkts % 2 ^ 32)
  else if off = 0x58 then some (sat (Tbl.getD s.leat.resets q 0) 0xFFFF)
  else if off = 0x6C then some s.leatAside
  else none

/-- LEAT page 1: bit 2q + lane of the maps (R239). -/
def State.liveLeat1 (s : State) (off : Nat) : Option Nat :=
  if 0x40 ≤ off ∧ off < 0x80 then some (bitWord (fun l => (s.lane l).isOpen) ((off - 0x40) / 4))
  else if 0x80 ≤ off ∧ off < 0xC0 then some (bitWord (fun l => (s.lane l).stale) ((off - 0x80) / 4))
  else none

/-! ## Ports, switch and time -/

/-- QUAD[n] (R268). -/
def State.liveQuad (s : State) (n off : Nat) : Option Nat :=
  let x := s.port (4 * n + fld (s.reg (Reg.quadCntSel n)) 1 0)
  let c := fun (o : Nat) => Tbl.getD x.cnt o 0
  if 0x54 ≤ off ∧ off < 0x64 then
    let y := s.port (4 * n + (off - 0x54) / 4)
    some (packN [(0, b2n y.up), (1, b2n y.anDone), (2, b2n y.ltDone), (3, b2n y.fecLock), (4, b2n y.held), (5, b2n y.dead),
                 (16, sat y.downs 0xFFFF)])
  else if off = 0x6C ∨ off = 0x7C then some (half64 false (c off))
  else if off = 0x70 ∨ off = 0x80 then some (half64 true (c (off - 4)))
  else if off = 0x68 ∨ off = 0x78 then some (c off % 2 ^ 32)
  else if 0x68 ≤ off ∧ off ≤ 0x98 then some (sat32 (c off))
  else none

/-- SWITCH (R253, R258, R269). -/
def State.liveSwitch (s : State) (off : Nat) : Option Nat :=
  let r := s.net.ring
  if off = 0x50 then some s.cellsFree
  else if off = 0x54 then some s.net.low
  else if off = 0x5C then some (sat32 (Tbl.getD s.net.drops (fld (s.reg Reg.swDropSel) 3 0) 0))
  else if off = 0x70 then
    some (packN [(0, r.st.code), (4, r.pos % 16), (8, r.count % 32), (16, b2n r.isMaster), (17, b2n (s.ringUp false)),
                 (18, b2n (s.ringUp true))])
  else if off = 0x74 then some (half64 false r.master)
  else if off = 0x78 then some (half64 true r.master)
  else none

/-- FWD (R250, R251, R270). -/
def State.liveFwd (s : State) (p : Path) (off : Nat) : Option Nat :=
  let x := s.net.fwd
  if off = 0x7C then
    some (packN [(0, b2n (x.busy || decide (x.waiting ≠ 0))), (1, b2n x.busy), (2, Tbl.getD x.result (pathNo p) 0),
                 (8, x.staged.length)])
  else if off = 0x80 then some (Tbl.getD x.index (pathNo p) 0)
  else if off = 0x84 then some (x.gen % 2 ^ 32)
  else if off = 0x88 then some (x.entries.filter fun e => !e.flow).length
  else if off = 0x8C then some (x.entries.filter fun e => e.flow).length
  else none

/-- MIRROR (R259). -/
def State.liveMirror (s : State) (off : Nat) : Option Nat := if off = 0x4C then some s.net.mirProd else none

/-- SLUICE (R286 to R296). -/
def State.liveSluice (s : State) (p : Path) (off : Nat) : Option Nat :=
  let f := s.flow? (s.selOf p Reg.sluFlowSel 11)
  let t := s.preg p Reg.sluTblSel
  let port := fld t 6 0
  let g := s.gate port
  let c := g.copy (flag t 8)
  let win := fun (v : Nat) => some (if port < 4 * s.part.quads then v else 0)
  let show_ := fun (h : Flow → Nat) => some (match f with
    | some x => h x
    | none => 0)
  if off = 0x50 then
    show_ fun x => packN [(0, 1), (1, match x.owner with
                                  | .session _ => 0
                                  | .device _ => 1), (2, b2n x.blocked), (3, b2n x.wheel.isSome), (4, x.pkts.length),
                          (8, x.desc.port), (16, match x.owner with
                                  | .session n => n
                                  | .device d => d)]
  else if off = 0x54 then show_ fun x => x.r / 1000
  else if off = 0x58 then show_ fun x => int32 (x.creditAt s.tick / 65536)
  else if off = 0x5C then show_ fun x => x.sent % 2 ^ 32
  else if off = 0x6C then win (packN [(0, c.count), (31, b2n c.en)])
  else if off = 0x70 then win c.phase
  else if off = 0x78 then win (packN [(0, b2n g.active), (1, b2n g.pending), (16, sat g.swaps 0xFFFF)])
  else if off = 0x80 then some s.flows.length
  else if 0x100 ≤ off ∧ off < 0x200 then win (c.entry ((off - 0x100) / 4)).toNat
  else none

/-- PCIE[n] (R298 to R319, R496). -/
def State.livePcie (s : State) (n off : Nat) : Option Nat :=
  let l := s.link n
  let x := s.nvme n
  let ns := Tbl.getD x.spaces (fld (s.reg (Reg.nvmeNsSel n)) 15 0) (0, 0)
  let d := s.nvmeDepth n
  if off = 0x64 then
    some (packN [(0, b2n l.up), (1, l.rate), (4, l.width), (9, b2n l.flit), (10, b2n (s.canMaster n)), (11, b2n (s.isMember n)),
                 (16, l.ltssm)])
  else if off = 0x5C then some (4096 * ((s.reg (Reg.pcieInLimitLo n)).toNat / 4096) + 0xFFF)
  else if off = 0x8C then some (roundUp (8192 + s.nvmePairs n * 2 ^ d * 2128) 4096)
  else if off = 0x90 then some (packN [(0, x.st.code), (8, x.pairs), (16, x.nn)])
  else if off = 0x94 then some x.mdts
  else if off = 0xA8 then some (half64 false ns.1)
  else if off = 0xAC then some (half64 true ns.1)
  else if off = 0xB0 then some ns.2
  else none

/-! ## The load flow -/

/-- MILLRACE (R320, R335, R346, R369, R469). -/
def State.liveMillrace (s : State) (p : Path) (off : Nat) : Option Nat :=
  let k := s.selOf p Reg.mrChanSel 9
  let x := s.chan k
  let win := fun (v : Nat) => some (if k < s.part.channels then v else 0)
  if off = 0x44 then win x.cfg.toNat
  else if off = 0x48 then win (b2n x.priv)
  else if off = 0x4C then win (half64 false x.prog)
  else if off = 0x50 then win (half64 true x.prog)
  else if off = 0x54 then win (half64 false x.srBase)
  else if off = 0x58 then win (half64 true x.srBase)
  else if off = 0x5C then win (packN [(0, x.st.code), (3, b2n x.latch), (4, b2n x.hopWait), (8, x.result)])
  else if off = 0x60 then win (half64 false x.pc)
  else if off = 0x64 then win (half64 true x.pc)
  else if off = 0x68 then win (x.srProd % 2 ^ 32)
  else if off = 0x6C then win (x.steps % 2 ^ 32)
  else if off = 0x7C then some s.mrActive
  else if off = 0x188 then some (Tbl.getD s.wcnt (3072 + s.selOf p Reg.evrWcntSel 9) 0)
  else none

/-- CP[n] (R364, R367). -/
def State.liveCp (s : State) (p : Path) (n off : Nat) : Option Nat :=
  let x := s.cp n
  let g := s.selOf p (Reg.cpEicSel n) 6
  if off = 0x40 then
    some (packN [(0, x.role.code), (4, if x.role = .usable then x.logical else 0), (8, b2n x.running), (9, b2n x.sleep),
                 (10, b2n x.t), (11, b2n x.x), (12, b2n x.ext), (16, x.version)])
  else if off = 0x44 then some x.pc
  else if off = 0x48 then some (packN [(0, x.tpc), (16, x.tcause)])
  else if off = 0x54 then some (Eic.group x.eic.pend g 0).toNat
  else if off = 0x58 then some (Eic.group x.eic.mask g allOnes).toNat
  else if off = 0x5C then some (Eic.group x.eic.auto g 0).toNat
  else if off = 0x7C then some (packN [(0, b2n x.img.isSome), (4, x.imgRes)])
  else if 0x88 ≤ off ∧ off < 0x98 then
    some (bitWord (fun k => (Eic.group x.eic.pend k 0 &&& ~~~Eic.group x.eic.mask k allOnes) != 0) ((off - 0x88) / 4))
  else none

/-- PAWL[n] (R360, R368). -/
def State.livePawl (s : State) (n off : Nat) : Option Nat :=
  let x := s.pawl n
  if off = 0x40 then
    some (packN [(0, b2n x.running), (1, b2n x.sleep), (2, b2n x.twait), (3, b2n x.trap), (16, x.pc)])
  else if off = 0x44 then some (packN [(0, x.ep.toNat), (16, x.e.toNat)])
  else if off = 0x48 then some (half64 false x.t)
  else if off = 0x4C then some (half64 true x.t)
  else if off = 0x54 then some (packN [(0, x.tpc), (16, x.tcause)])
  else if off = 0x68 then some (packN [(0, b2n x.loading), (4, x.imgRes), (16, x.version)])
  else none

/-- The transfer that DMA_CUR shows: the current one. -/
def Dma.shown (x : Dma) : DmaSet := x.cur.getD ⟨0, 0, 0, 0, 0, x.lastOwner⟩

/-- DMA[e] (R371, R390). -/
def State.liveDma (s : State) (e off : Nat) : Option Nat :=
  let x := s.dma e
  let y := x.shown
  if off = 0x40 then
    let dec := (List.range s.part.pipes).any fun k => flag (s.reg (Reg.decCtl k)) 7 && fld (s.reg (Reg.decCtl k)) 4 0 == e
    some (packN [(0, b2n x.cur.isSome), (1, b2n x.armed), (2, b2n dec), (16, match y.owner with
                  | .channel c => c
                  | .pipe _ => 0)])
  else if off = 0x44 then some (half64 false y.src)
  else if off = 0x48 then some (half64 true y.src)
  else if off = 0x4C then some (half64 false y.dst)
  else if off = 0x50 then some (half64 true y.dst)
  else if off = 0x54 then some y.count
  else if off = 0x58 then some y.ctl
  else if 0x5C ≤ off ∧ off < 0x78 then some (Tbl.getD x.sh ((off - 0x5C) / 4) 0).toNat
  else if off = 0x78 then some (packN [(0, x.lastCode), (16, x.lastTag % 65536)])
  else if off = 0x7C then some x.lastDone
  else none

/-- HOPPER (R382 to R391). -/
def State.liveHopper (s : State) (p : Path) (off : Nat) : Option Nat :=
  let o := s.selOf p Reg.hopOwnSel 5
  if off = 0x44 then some (packN [(0, b2n s.hop.busy.isSome), (4, s.hop.result)])
  else if 0x54 ≤ off ∧ off < 0x6C then some ((s.pool ((off - 0x54) / 4)).holds o)
  else if off = 0x6C then some (sat32 (Tbl.getD s.hop.waits o 0))
  else if 0x100 ≤ off ∧ off < 0x1C0 then
    let x := s.pool ((off - 0x100) / 32)
    if off % 32 = 0x14 then some x.free
    else if off % 32 = 0x18 then some (packN [(0, b2n x.en), (16, sat x.waiters.length 1023)])
    else if off % 32 = 0x1C then some x.low
    else none
  else none

/-- MEMCTL[n] (R398, R411). -/
def State.liveMemctl (s : State) (n off : Nat) : Option Nat :=
  let x := s.site n
  if off = 0x40 then some (packN [(0, x.rate), (2, b2n x.trained)])
  else if off = 0x54 then
    some (match x.throttle with
      | some t => packN [(0, t.master), (31, 1)]
      | none => 0xFFF)
  else none

/-- MEMARB (R393, R402, R409, R412); every request that the model accepts has been served, so DRAINED is 1. -/
def State.liveMemarb (s : State) (off : Nat) : Option Nat :=
  if off = 0x4C then some (packN [(0, b2n s.mem.isOpen), (1, 1)])
  else if off = 0x50 then some (s.dramSize / 65536)
  else if off = 0xA4 then some (packN [(0, b2n s.mem.scrub.isSome), (4, s.mem.scrubRes), (8, s.mem.fails.length)])
  else if 0xC0 ≤ off ∧ off < 0x100 then
    some (half64 (off % 8 = 4) (s.mem.fails.getD ((off - 0xC0) / 8) 0))
  else none

/-! ## Every page -/

/-- The computed value of a block register; none where State holds the word. -/
def State.liveBlock (s : State) (p : Path) (f : Fam) (n off : Nat) : Option Nat :=
  match f with
  | .dev => s.liveDev off
  | .clkpwr => s.liveClk off
  | .cfgchk => s.liveCfg off
  | .i3c => s.liveI3c off
  | .evq => s.liveEvq off
  | .ledger => s.liveLedger off
  | .timebase => s.liveTb off
  | .ibreham => s.liveIbr p off
  | .weir => s.liveWeir off
  | .stone => s.liveStone n off
  | .dec => s.liveDec p n off
  | .runners0 => s.liveRunners0 off
  | .runners1 => s.liveRunners1 off
  | .runners2 => s.liveRunners2 off
  | .runners3 => none
  | .bolter => s.liveBolter n off
  | .governor => s.liveGov p off
  | .refpool => s.liveRef p off
  | .sessions => s.liveSessions p off
  | .packetizer => s.livePkt p off
  | .leat0 => s.liveLeat0 p off
  | .leat1 => s.liveLeat1 off
  | .quad => s.liveQuad n off
  | .switch => s.liveSwitch off
  | .fwd => s.liveFwd p off
  | .mirror => s.liveMirror off
  | .sluice => s.liveSluice p off
  | .pcie => s.livePcie n off
  | .millrace => s.liveMillrace p off
  | .cp => s.liveCp p n off
  | .pawl => s.livePawl n off
  | .dma => s.liveDma n off
  | .hopper => s.liveHopper p off
  | .memctl => s.liveMemctl n off
  | .memarb => s.liveMemarb off

/-- PG_CAP, as each page's chapter gives it (R38, R468). -/
def State.pgCap (s : State) (f : Fam) (n : Nat) : Nat :=
  let p := s.part
  match f with
  | .timebase => 32
  | .ibreham => 4096
  | .stone => 15 + 1536 * 65536
  | .dec => packN [(0, p.decSessions), (8, p.pipes), (12, 15)]
  | .runners0 => packN [(0, p.runnersPhys), (8, p.runnersUse), (16, Config.dictCount % 64), (24, 15)]
  | .bolter => packN [(0, 2000), (16, 8000)]
  | .governor => p.encSessions
  | .refpool => packN [(0, 8192), (16, 15)]
  | .sessions => packN [(0, p.encSessions), (10, p.stonesUse)]
  | .packetizer => packN [(0, p.encSessions), (16, 1023)]
  | .leat0 => packN [(0, 256), (16, 2)]
  | .quad => packN [(0, b2n (decide (n < p.pcieQuads))), (1, b2n (p.hasWeir && (n == p.quads - 2 || n == p.quads - 1))),
                    (2, b2n (n % 2 == 0))]
  | .switch => 131072
  | .sluice => 4096
  | .pcie => packN [(0, b2n (n % 2 == 0)), (1, b2n (n % 4 == 0)), (8, 6)]
  | .millrace => packN [(0, p.channels), (16, p.devtab)]
  | .cp => packN [(0, 16384), (16, 64)]
  | .pawl => 4096
  | .dma => 6
  | .hopper => packN [(0, 6), (8, 63)]
  | .memctl => packN [(0, (s.site n).density), (8, 32)]
  | .memarb => p.sites
  | _ => 0

/-- The header words that are state of their own (R38); pages without error sources read 0 from 0x10 to 0x3C (R468). -/
def State.liveHeader (s : State) (f : Fam) (n off : Nat) : Option Nat :=
  let h := s.pg (ordOf f n)
  if off = 0x00 then some (pgIdOf f n)
  else if off = 0x04 then some (s.pgCap f n)
  else if off = 0x08 then some (packN [(0, b2n h.enable), (1, b2n h.freeze), (2, b2n h.resetting)])
  else if off = 0x0C then some (packN [(0, b2n h.enable), (1, b2n (s.idle f n)), (2, b2n h.resetting)])
  else if f.info.classes.isEmpty then some 0
  else if off = 0x10 then some h.err.toNat
  else if off = 0x18 then some 0
  else if off = 0x20 then some (half64 false h.capAddr.toNat)
  else if off = 0x24 then some (half64 true h.capAddr.toNat)
  else if off = 0x28 then some (packN [(20, h.capMaster.toNat), (16, h.capAcc.toNat), (0, h.merged)])
  else if off = 0x2C then some (half64 false h.capTime)
  else if off = 0x30 then some (half64 true h.capTime)
  else if off = 0x34 then some h.int.toNat
  else none

/-- What a read of an implemented word shows, before the effects of the read (R38, R491): a write-only field reads 0. -/
def State.liveWord (s : State) (p : Path) (a : Nat) : Word :=
  match pageOf s.part a with
  | none => 0
  | some (f, n) =>
    let off := a % 0x400
    let v := if off < 0x40 then s.liveHeader f n off else s.liveBlock p f n off
    match v with
    | some v => word v
    | none =>
      let wo := match regDef f off with
        | some d => d.wo
        | none => 0
      s.preg p a &&& ~~~word wo

end Sys2Proof.Machine
end

