-- ==== Sys2Proof/Machine/Memory.lean ====
section
/-!
DEFINITION. The commands of GDDR7 memory: lines, refresh, activation limits, arbitration, the checker's flip, the
scrubber and the buckets of correctable errors (R392 to R412).
-/

namespace Sys2Proof.Machine

/-- DRAM_LINE_WRITE (R396, R399): a granted write of one whole line. -/
def State.dramWrite (master acc a : Nat) (bytes : List Byte) (s : State) : State :=
  let n := (s.place a).site
  if s.memServes ∧ s.granted master n then (s.won master n).writeLine master acc a bytes else s

/-- DRAM_LINE_WRITE. -/
def execDramLineWrite (master : BitVec 12) (acc : BitVec 4) (addr : Nat) (bytes : List Byte) (s : State) : Result :=
  .next (s.dramWrite master.toNat acc.toNat addr bytes)

/-- DRAM_REFRESH (R397): an all-bank refresh, INTERVAL_NS after the start of the one before; a changed interval applies
from here. Refresh runs in every mode in which DRAM is powered, SLACK included. -/
def State.refresh (n : Nat) (s : State) : State :=
  if s.live ∧ n < s.part.sites then
    let x := s.site n
    let s := s.reach (x.refAt + nsTicks x.interval)
    (s.setSite n { x with refAt := s.tick, interval := fld (s.reg (Reg.mcRef n)) 15 0 }).wrap (Reg.mcRefreshes n) 1
  else s

/-- DRAM_REFRESH. -/
def execDramRefresh (site : Nat) (s : State) : Result := .next (s.refresh site)

/-- ACT_WINDOW_START (R398): MC_ACT_WINDOW_US after the start of the window before, every count of the site starts again. -/
def State.actWindow (n : Nat) (s : State) : State :=
  if s.live ∧ n < s.part.sites then
    let s := s.reach ((s.site n).actAt + usTicks (max 1 (fld (s.reg (Reg.mcActWindowUs n)) 15 0)))
    s.setSite n { s.site n with acts := [], actAt := s.tick }
  else s

/-- ACT_WINDOW_START. -/
def execActWindowStart (site : Nat) (s : State) : Result := .next (s.actWindow site)

/-- THROTTLE_END (R398): the throttle of a site ends after MC_THROTTLE.TIME_US. -/
def State.throttleEnd (n : Nat) (s : State) : State :=
  match (s.site n).throttle with
  | none => s
  | some t => (s.reach t.until_).setSite n { s.site n with throttle := none }

/-- THROTTLE_END. -/
def execThrottleEnd (site : Nat) (s : State) : Result := .next (s.throttleEnd site)

/-- MA_WAIT_LIMIT_REACHED (R400, R401): the master wins the next arbitration of the site, unless the limit is 0 or its
throttled rate is spent. -/
def State.waitLimit (master n : Nat) (s : State) : State :=
  if s.memServes ∧ fld (s.reg Reg.maWaitLimit) 9 0 ≠ 0 ∧ n < s.part.sites ∧
      ¬ s.mem.forced.contains (master, n) ∧
      { s with mem := { s.mem with forced := [] } }.granted master n then
    { s with mem := { s.mem with forced := s.mem.forced ++ [(master, n)] } }
  else s

/-- MA_WAIT_LIMIT_REACHED. -/
def execMaWaitLimitReached (master : BitVec 12) (site : Nat) (s : State) : Result :=
  .next (s.waitLimit master.toNat site)

/-- A write of MA_CTL.FREEZE (R402); captures that waited for memory are written once it serves again (R259). -/
def State.maCtl (on : Bool) (s : State) : State := (s.setReg Reg.maCtl (word (b2n on))).mirrorDrain

/-- MA_CTL_FREEZE. -/
def execMaCtlFreeze (p : Path) (on : Bool) (s : State) : Result := .next (if s.takes p then s.maCtl on else s)

/-- A write of MA_BANK_HASH[k], accepted only before the first request granted (R395). -/
def State.bankHash (p : Path) (k : Nat) (v : Word) (s : State) : State :=
  if k < 6 then
    if s.mem.isOpen then s.raiseErr .memarb 0 3 (Cap.reg p (Reg.maBankHash k))
    else s.setReg (Reg.maBankHash k) (v &&& 0x7FFF#32)
  else s

/-- MA_BANK_HASH_WRITE. -/
def execMaBankHashWrite (p : Path) (k : Nat) (value : Word) (s : State) : Result :=
  .next (if s.takes p then s.bankHash p k value else s)

/-- A write of MC_CHK_FLIP (R406). -/
def State.chkFlip (n : Nat) (v : Word) (s : State) : State := s.setReg (Reg.mcChkFlip n) (v &&& 0x3FFFF#32)

/-- MC_CHK_FLIP_WRITE. -/
def execMcChkFlipWrite (p : Path) (site : Nat) (value : Word) (s : State) : Result :=
  .next (if s.takes p ∧ site < s.part.sites then s.chkFlip site value else s)

/-- A write of MC_REF is discarded where it would leave INTERVAL_NS below twice TRFC_NS (R397). -/
def State.mcRef (p : Path) (n : Nat) (v : Word) (s : State) : State :=
  if fld v 15 0 < 2 * fld v 31 16 then s.raiseErr .memctl n 4 (Cap.reg p (Reg.mcRef n)) else s.setReg (Reg.mcRef n) v

/-- MA_SCRUB_CMD START (R409): ignored while a scrub runs or the page is frozen, refused past U, and otherwise a scrub
at the rate in force. -/
def State.scrubStart (s : State) : State :=
  if s.mem.scrub.isSome ∨ (s.pg (ordOf .memarb 0)).freeze ∨ !(s.pg (ordOf .memarb 0)).enable then s
  else
    let b := s.reg64 Reg.maScrubBaseLo
    let l := s.reg64 Reg.maScrubLenLo
    if s.dramSize < b + l then { s with mem := { s.mem with scrubRes := 1 } }
    else
      let r := max 1 (fld (s.reg Reg.maScrubRate) 7 0)
      let s := { s with mem := { s.mem with scrub := some ⟨b, l, r, s.tick⟩, scrubRes := 0, fails := [] } }
      ((s.setReg Reg.maScrubCorr 0).setReg Reg.maScrubUncorr 0).setReg64 Reg.maScrubDoneLo 0

/-- SCRUB_START. -/
def execScrubStart (p : Path) (s : State) : Result := .next (if s.takes p then s.scrubStart else s)

/-- One line of a scrub, `bad` fetches of it failing in transit: read in the BULK class with access type 0x6, counted, and kept among the
first eight failing addresses (R405, R409). -/
def State.scrubLine (a bad : Nat) (s : State) : State :=
  let r := s.readLineB 0xFFE 0x6 a bad
  let s := r.2.add64 Reg.maScrubDoneLo 1
  match r.1 with
  | some _ => if bad = 0 then s else s.bump Reg.maScrubCorr
  | none =>
    let s := s.bump Reg.maScrubUncorr
    if s.mem.fails.length < 8 then { s with mem := { s.mem with fails := s.mem.fails ++ [a] } } else s

/-- The lines of a scrub that have been read, with the fetches of each that failed in transit, and its end: SCRUB_UE if a line failed, and
SCRUB_DONE (R409). -/
def State.scrubEnd (x : Scrub) (bad : List (Nat × Nat)) (lines res : Nat) (s : State) : State :=
  let s := (List.range lines).foldl (fun s i => s.scrubLine (x.base + 64 * i) (Tbl.getD bad (x.base + 64 * i) 0)) s
  let s := { s with mem := { s.mem with scrub := none, scrubRes := res } }
  let s := match s.mem.fails with
    | [] => s
    | a :: _ => s.raiseErr .memarb 0 2 (Cap.mem a 0xFFE 0x6)
  s.raiseInt .memarb 0 1 0

/-- The most lines that a scrub can have read by now: never faster than its rate (R409). -/
def Scrub.bound (x : Scrub) (now : Nat) : Nat := min (x.len / 64) ((now - x.since) * 8 * x.rate / 640)

/-- MA_SCRUB_CMD ABORT (R409): the scrub ends at its next line; how far it has come within its rate is open. -/
def State.scrubAbort (bad : List (Nat × Nat)) (s : State) : State :=
  match s.mem.scrub with
  | none => s
  | some x => (s.spend).scrubEnd x bad (s.freeBelow (x.bound s.tick + 1)) 2

/-- SCRUB_ABORT. -/
def execScrubAbort (p : Path) (bad : List (Nat × Nat)) (s : State) : Result := .next (if s.takes p then s.scrubAbort bad else s)

/-- SCRUB_DONE (R409): the scrub has read every line of its range. -/
def State.scrubDone (bad : List (Nat × Nat)) (s : State) : State :=
  match s.mem.scrub with
  | none => s
  | some x =>
    if s.memServes then (s.reach (x.since + ceilDiv (x.len * 10) (8 * x.rate))).scrubEnd x bad (x.len / 64) 0 else s

/-- SCRUB_DONE. -/
def execScrubDone (bad : List (Nat × Nat)) (s : State) : Result := .next (s.scrubDone bad)

/-- CE_BUCKET_LEAK (R408): at the next whole multiple of LEAK_MS every bucket loses 1. -/
def State.bucketLeak (s : State) : State :=
  let l := msTicks (max 1 (fld (s.reg Reg.maCeBucket) 31 16))
  let t := (max s.mem.leakAt (s.tick - 1) / l + 1) * l
  let s := s.reach t
  { s with mem := { s.mem with leakAt := t }, pages := s.pages.map fun e => (e.1, { e.2 with bucket := e.2.bucket - 1 }) }

/-- CE_BUCKET_LEAK. -/
def execCeBucketLeak (s : State) : Result := .next (if s.dev.mode = .off then s else s.bucketLeak)

end Sys2Proof.Machine
end

