-- ==== Sys2Proof/Machine/Registers.lean ====
section
/-!
DEFINITION. Register accesses over I3C and by REGLOAD: reads with their effects, writes word by word, command fields, and the
configuration CRC (R30 to R47, R276, R417, R491 to R493).
-/

namespace Sys2Proof.Machine

/-- The state that a command leaves. -/
def State.after (s : State) (r : Result) : State :=
  match r with
  | .next t => t
  | .fault _ => s
  | .refused _ => s

/-! ## Reads (R33, R36 to R40, R276) -/

/-- The word that a read of a reserved location returns (R36). -/
def poison : Word := 0xFFFF0BAD

/-- LO words marked RL (R38, R491). -/
def Fam.rlLo (f : Fam) (off : Nat) : Bool :=
  if off < 0x40 then off == 0x20 || off == 0x2C
  else
    match f with
    | .dev => off == 0x4C
    | .timebase => off == 0x40 || off == 0x8C
    | .ibreham => off == 0x70
    | .governor => off == 0x4C
    | .runners2 => off == 0x208
    | .quad => off == 0x6C || off == 0x7C
    | .switch => off == 0x74
    | .pcie => off == 0xA8
    | .millrace => off == 0x60
    | .pawl => off == 0x48
    | .dma => off == 0x44 || off == 0x4C || off == 0x84
    | .memctl => off == 0x64 || off == 0x6C
    | .memarb => off == 0xB0 || (decide (0xC0 ≤ off) && decide (off < 0x100) && off % 8 == 0)
    | _ => false

/-- LO words of 64-bit RW pairs whose halves take effect together at the HI write (R38). -/
def Fam.rwLo (f : Fam) (off : Nat) : Bool :=
  match f with
  | .clkpwr => off == 0x50
  | .evq => off == 0x44 || off == 0x4C
  | .ledger => off == 0x4C
  | .timebase => off == 0x68
  | .ibreham => off == 0x48
  | .dec => off == 0x54
  | .runners0 => off == 0x48 || off == 0x60 || off == 0x68
  | .refpool => decide (0x100 ≤ off) && decide (off < 0x200) && off % 16 == 4
  | .sessions => off == 0x44
  | .packetizer => off == 0x78 || off == 0x84 || off == 0x8C
  | .switch => off == 0x64
  | .mirror => off == 0x44
  | .sluice => off == 0x40
  | .pcie => off == 0x4C || off == 0x54 || off == 0x5C || off == 0x84
  | .millrace => off == 0x4C || off == 0x54 || off == 0x74
  | .cp => off == 0x70
  | .pawl => off == 0x5C
  | .hopper => decide (0x100 ≤ off) && decide (off < 0x1C0) && (off % 32 == 0 || off % 32 == 0xC)
  | .memctl => off == 0x5C
  | .memarb => off == 0x90 || off == 0x98
  | _ => false

/-- A read of the word latches the next one. TB_RATE shows the value in force (R277). -/
def Fam.latches (f : Fam) (off : Nat) : Bool := f.rlLo off || (f.rwLo off && !(f == .timebase))

/-- The RC bits of a word (R39). -/
def Fam.rcBits (f : Fam) (off : Nat) : Word :=
  if f.info.classes.isEmpty && off < 0x40 then 0
  else if off = 0x10 then 0xFFFF
  else if off = 0x34 then 0xFFFFFFFF
  else
    match regDef f off with
    | some d => word d.rc
    | none => 0

/-- The RC bits that a read returned are cleared; a read of ERR_STAT re-arms the capture and clears MERGED (R39, R40). -/
def State.clearRead (f : Fam) (n off : Nat) (w : Word) (s : State) : State :=
  let o := ordOf f n
  let h := s.pg o
  let m := w &&& f.rcBits off
  if f.rcBits off = 0 then s
  else if off = 0x10 then
    s.setPg o { h with err := h.err &&& ~~~(BitVec.ofNat 16 m.toNat), armed := true, merged := 0 }
  else if off = 0x34 then s.setPg o { h with int := h.int &&& ~~~m }
  else if f = .timebase then
    s.setTb (if off = 0x80 then { s.tb with hit := s.tb.hit &&& ~~~m } else { s.tb with skip := s.tb.skip &&& ~~~m })
  else s.setReg (baseOf f n + off) (s.reg (baseOf f n + off) &&& ~~~m)

/-- Latches words for a path. -/
def State.latch (p : Path) (l : List Nat) (s : State) : State :=
  { s with shadows := l.foldl (fun t a => Tbl.set t (pathKey p a) (s.liveWord p a)) s.shadows }

/-- The word that a path sees at an implemented location: the latched one where a LO read has latched it (R38). -/
def State.seen (s : State) (p : Path) (a : Nat) : Word := (Tbl.get? s.shadows (pathKey p a)).getD (s.liveWord p a)

/-- A read of an implemented word: what it returns, and its effects. TB_NOW_LO latches the five words that follow it from the
same tick (R276). -/
def State.readWord (p : Path) (a : Nat) (s : State) : Word × State :=
  match pageOf s.part a with
  | none => (poison, s)
  | some (f, n) =>
    let off := a % 0x400
    let w := s.seen p a
    let s :=
      if f = .timebase ∧ off = 0x40 then s.latch p ((List.range 5).map fun k => a + 4 + 4 * k)
      else if f.latches off then s.latch p [a + 4]
      else s
    (w, s.clearRead f n off w)

/-- A location that a read answers: implemented, and at a whole word (R32, R36). -/
def State.readable (s : State) (a : Nat) : Bool := a % 4 == 0 && implemented s.part a

/-- ACC_FAULT (R36): counted and captured. -/
def State.accFault (cap : Cap) (s : State) : State := (s.bump Reg.i3cAccFaults).raiseErr .i3c 0 0 cap

/-- IBI 0x02 of a transfer, with its first faulting address (R36); none in HALT (R417). -/
def State.accIbi (a : Nat) (s : State) : State := if s.dev.mode = .halt then s else s.raiseIbi 0x02 a

/-- The capture of a read of a register (R36, R492). -/
def Cap.regRead (p : Path) (a : Nat) : Cap :=
  match p with
  | .i3c => Cap.mem a 0x200 0x8
  | .regload => Cap.mem a 0x201 0xA

/-- A reserved location returns the poison word, or the part of it that the controller takes, and ends the read; the fault is
taken when the word is begun (R36). -/
def State.readPoison (k a : Nat) (s : State) : List Byte × State :=
  ((leBytes 4 poison.toNat).take k, (s.accFault (Cap.regRead .i3c a)).accIbi a)

/-- Bytes read from an address upward, up to a number of them (R31): a word that the controller or the maximum length ends before
its fourth byte has no effect (R33). -/
def State.readRun : Nat → Nat → State → List Byte × State
  | 0, _, s => ([], s)
  | k + 4, a, s =>
    if s.readable a then
      let (w, s) := s.readWord .i3c a
      let (l, s) := State.readRun k ((a + 4) % 2 ^ 24) s
      (leBytes 4 w.toNat ++ l, s)
    else s.readPoison 4 a
  | k, a, s => if s.readable a then ((leBytes 4 (s.seen .i3c a).toNat).take k, s) else s.readPoison k a

/-- A private read that the controller ends after some bytes, or the part at the maximum read length (R33, R34). -/
def State.i3cRead (a n : Nat) (s : State) : State :=
  let (l, s) := s.readRun (min n s.i3c.mrl) a
  (s.emit (.i3cData l)).wrap Reg.i3cXfers 1

/-- A read over a path; over I3C the part answers its dynamic address only (R26), and a REGLOAD step reads whole words (R339). -/
def State.access (p : Path) (a n : Nat) (s : State) : State :=
  match p with
  | .i3c => if s.i3cAddressed then s.i3cRead a n else s.emit .i3cNack
  | .regload => if s.takes .regload ∧ 4 ≤ n then (s.readWord .regload a).2 else s

/-- RC_READ: a read of words from an implemented location up; the RC bits that it returns are cleared (R39). -/
def execRcRead (p : Path) (addr bytes : Nat) (s : State) : Result :=
  .next (if s.readable addr then s.access p addr bytes else s)

/-- ERR_STAT_READ. -/
def execErrStatRead (p : Path) (page bytes : Nat) (s : State) : Result :=
  .next (match pageAt s.part page with
    | some (f, n) => s.access p (baseOf f n + 0x10) bytes
    | none => s)

/-- LO_WORD_READ. -/
def execLoWordRead (p : Path) (addr bytes : Nat) (s : State) : Result :=
  .next (if s.readable addr && (match pageOf s.part addr with
      | some (f, _) => f.latches (addr % 0x400)
      | none => false) then s.access p addr bytes else s)

/-- TB_NOW_LO_READ. -/
def execTbNowLoRead (p : Path) (bytes : Nat) (s : State) : Result := .next (s.access p Reg.tbNowLo bytes)

/-- RESERVED_LOCATION_READ (R36). -/
def execReservedLocationRead (addr bytes : Nat) (s : State) : Result :=
  .next (if s.readable (addr % 2 ^ 24) then s
    else if s.i3cAddressed then s.i3cRead (addr % 2 ^ 24) bytes else s.emit .i3cNack)

/-! ## Plain writes (R38, R491) -/

/-- A write of a plain word: its RW fields take the written values. -/
def State.putPlain (p : Path) (f : Fam) (a : Nat) (v : Word) (s : State) : State :=
  match regDef f (a % 0x400) with
  | none => s
  | some d =>
    if d.rw = 0 then s
    else s.setReg (bank p a) ((s.preg p a &&& ~~~word d.rw) ||| (v &&& word d.rw))

/-- The RW fields of a word. -/
def rwMask (f : Fam) (off : Nat) : Word :=
  match regDef f off with
  | some d => word d.rw
  | none => 0

/-- A LO write is held (R38). -/
def State.holdLo (p : Path) (f : Fam) (a : Nat) (v : Word) (s : State) : State :=
  { s with heldLo := Tbl.set s.heldLo (pathKey p a) (v &&& rwMask f (a % 0x400)) }

/-- A HI write applies both halves of a pair (R38). -/
def State.putPair (p : Path) (f : Fam) (hi : Nat) (v : Word) (s : State) : State :=
  let (lo, s) := s.takeLo p (hi - 4) (s.preg p (hi - 4))
  (s.setReg (bank p (hi - 4)) lo).setReg (bank p hi) (v &&& rwMask f (hi % 0x400))

/-- A HI write of a base that may not change while its block is enabled (R55). -/
def State.putBase (p : Path) (f : Fam) (hi : Nat) (on : Bool) (src : Nat) (v : Word) (s : State) : State :=
  let old := s.reg64 (hi - 4)
  let t := s.putPair p f hi v
  if on ∧ t.reg64 (hi - 4) ≠ old then { s with heldLo := t.heldLo }.raiseErr f 0 src (Cap.reg p hi) else t

/-! ## Page headers (R38, R41, R42, R45) -/

/-- ERR_CLASS as a write stores it (R42): each class raised to its minimum. -/
def classWord (f : Fam) (v : Word) : Word :=
  pack (f.info.classes.zipIdx.map fun e => (2 * e.2, max (fld v (2 * e.2 + 1) (2 * e.2)) e.1))

/-- A write of a header word. A PG_CTL write with SRESET resets the page and leaves ENABLE and FREEZE as it writes them (R38, R491;
DEDUCED, assumption 85). -/
def State.putHeader (f : Fam) (n off : Nat) (v : Word) (s : State) : State :=
  let o := ordOf f n
  let a := baseOf f n + off
  if off = 0x08 then
    ((if flag v 2 then s.pgSreset o else s).pgEnable o (flag v 0)).pgFreeze o (flag v 1)
  else if f.info.classes.isEmpty then s
  else if off = 0x18 then s.forceErr o (BitVec.ofNat 16 v.toNat)
  else if off = 0x1C then s.setReg a (classWord f v)
  else s.putPlain .i3c f a v

/-- ERR_CLASS_WRITE. -/
def execErrClassWrite (p : Path) (page : Nat) (value : Word) (s : State) : Result :=
  .next (match pageAt s.part page with
    | some (f, n) => if s.takes p then s.putHeader f n 0x1C value else s
    | none => s)

/-! ## Windows -/

/-- A write of the channel window (R338, R346): discarded with CFG unless the channel is IDLE or FAULTED, and where CHAN_CFG
would enable a channel on an engine that DEC_CTL names (R184). CHAN_PRIV takes I3C writes only. -/
def State.putChan (p : Path) (off : Nat) (v : Word) (s : State) : State :=
  let a := baseOf .millrace 0 + off
  let c := s.selOf p Reg.mrChanSel 9
  let x := s.chan c
  let refuse := s.raiseErr .millrace 0 6 (Cap.reg p a)
  if s.part.channels ≤ c ∨ (off = 0x48 ∧ p = .regload) then s
  else if x.st ≠ .idle ∧ x.st ≠ .faulted then refuse
  else if off = 0x44 then
    let n := fld v 21 18
    let v := (v &&& 0x3FFFF#32) ||| word ((if 2 ≤ n ∧ n ≤ 12 then n else 2) * 2 ^ 18)
    let taken := (List.range s.part.pipes).any fun k =>
      flag (s.reg (Reg.decCtl k)) 7 && fld (s.reg (Reg.decCtl k)) 4 0 == fld v 9 5
    if flag v 0 ∧ taken then refuse else s.setChan c { x with cfg := v }
  else if off = 0x48 then s.setChan c { x with priv := flag v 0 }
  else if off = 0x4C ∨ off = 0x54 then s.holdLo p .millrace a v
  else if off = 0x50 then
    let (lo, s) := s.takeLo p (a - 4) (loWord x.prog)
    s.setChan c { x with prog := pair64 lo v }
  else if off = 0x58 then
    let (lo, s) := s.takeLo p (a - 4) (loWord x.srBase)
    s.setChan c { x with srBase := pair64 lo v }
  else s

/-- The port and the copy that SLU_TBL_SEL names. -/
def State.tblSel (s : State) (p : Path) : Nat × Bool :=
  (s.selOf p Reg.sluTblSel 6, flag (s.preg p Reg.sluTblSel) 8)

/-- The words of the slot table window (R296). -/
def tblWord (off : Nat) : Bool := off == 0x6C || off == 0x70 || (decide (0x100 ≤ off) && decide (off < 0x200))

/-- A write of the slot table window that R295 treats as an access to a reserved location. -/
def State.tblShut (s : State) (p : Path) (off : Nat) : Bool :=
  let (port, k) := s.tblSel p
  tblWord off && decide (port < 4 * s.part.quads) && ((s.gate port).active == k || (s.gate port).pending)

/-- A write of the slot table window (R295, R296). -/
def State.putTbl (p : Path) (off : Nat) (v : Word) (s : State) : State :=
  let (port, k) := s.tblSel p
  let g := s.gate port
  let c := g.copy k
  let c :=
    if off = 0x6C then { c with en := flag v 31, count := fld v 6 0 }
    else if off = 0x70 then { c with phase := v.toNat }
    else { c with entries := Tbl.set c.entries ((off - 0x100) / 4) (v &&& 0x7FFFF#32) }
  if 4 * s.part.quads ≤ port then s else s.setGate port (g.setCopy k c)

/-- A write of the event controller window of a CP (R364, R367). -/
def State.putEic (p : Path) (n off : Nat) (v : Word) (s : State) : State :=
  let g := s.selOf p (Reg.cpEicSel n) 6
  let c := s.cp n
  let e := c.eic
  s.setCp n { c with eic :=
    if off = 0x54 then { e with pend := Tbl.set e.pend g v }
    else if off = 0x58 then { e with mask := Tbl.set e.mask g v }
    else { e with auto := Tbl.set e.auto g v } }

/-! ## Command fields (R493) -/

/-- The code that a command register's write carries, with the codes its table lists. -/
def cmdCode (f : Fam) (off : Nat) (v : Word) : Option (Nat × List Nat) :=
  match f with
  | .sessions => if off = 0x4C then some (fld v 15 12, [1, 2, 3, 4]) else none
  | .dec => if off = 0x5C then some (fld v 15 12, [1, 2, 3, 4]) else none
  | .runners0 => if off = 0x50 then some (fld v 7 4, [1, 2]) else none
  | .fwd => if off = 0x78 then some (fld v 2 0, [1, 2, 3, 4, 5]) else none
  | .sluice => if off = 0x60 then some (fld v 15 12, [1]) else none
  | .cp =>
    if off = 0x78 then some (fld v 3 0, [1, 2, 3])
    else if off = 0x60 then some (fld v 15 12, [1, 2, 3, 4]) else none
  | .pawl => if off = 0x64 then some (fld v 3 0, [1]) else none
  | .hopper => if off = 0x40 then some (fld v 7 4, [1, 2]) else none
  | .memarb => if off = 0xA0 then some (fld v 3 0, [1, 2]) else none
  | .ledger => if off = 0x48 then some (fld v 3 0, [1, 2, 3, 4, 5, 6]) else none
  | .ibreham => if off = 0x44 then some (fld v 15 12, [1, 2, 3, 4]) else none
  | _ => none

/-- A write carries a code that its command field does not list. -/
def unlisted (f : Fam) (off : Nat) (v : Word) : Bool :=
  match cmdCode f off v with
  | some (c, l) => !l.contains c
  | none => false

/-- BAD_CMD in the result of the command (R493). -/
def State.badCmd (p : Path) (f : Fam) (n off : Nat) (v : Word) (s : State) : State :=
  match f with
  | .sessions => s.sesAnswer (.reg p) Reg.sesResult (fld v 8 0) (fld v 15 12) 8
  | .dec => s.sesAnswer (.reg p) (Reg.decSesResult n) (fld v 6 0) (fld v 15 12) 8
  | .runners0 => { s with runners := { s.runners with result := 6 } }
  | .fwd => s.fwdEnd p 5
  | .sluice => s.setReg (bank p Reg.sluFlowResult) 3
  | .cp => if off = 0x78 then s.setCp n { s.cp n with imgRes := 7 } else s
  | .pawl => s.setPawl n { s.pawl n with imgRes := 7 }
  | .hopper => { s with hop := { s.hop with result := 3 } }
  | .memarb => { s with mem := { s.mem with scrubRes := 3 } }
  | .ledger => s.ldgResult (if s.ldg.busy then 4 else 6)
  | .ibreham => s.ibrResult p 8
  | _ => s

/-- UNLISTED_COMMAND_CODE. -/
def execUnlistedCommandCode (p : Path) (addr : Nat) (data : Word) (s : State) : Result :=
  .next (match pageOf s.part addr with
    | some (f, n) =>
      if s.takes p ∧ addr % 4 = 0 ∧ unlisted f (addr % 0x400) data then s.badCmd p f n (addr % 0x400) data else s
    | none => s)

/-- A write of SES_CMD (R57) or DEC_SES_CMD (R174). -/
def State.sesCmd (p : Path) (v : Word) (s : State) : State :=
  let n := fld v 8 0
  let c := fld v 15 12
  s.after (if c = 1 then execSesSetup (.reg p) n s else if c = 2 then execSesStart (.reg p) n s
    else if c = 3 then execSesStop (.reg p) n s else execSesAbort (.reg p) n s)

/-- A write of DEC_SES_CMD (R174). -/
def State.decCmd (p : Path) (page : Nat) (v : Word) (s : State) : State :=
  let n := fld v 6 0
  let c := fld v 15 12
  s.after (if c = 1 then execDecSetup (.reg p) page n s else if c = 2 then execDecStart (.reg p) page n s
    else if c = 3 then execDecStop (.reg p) page n s else execDecAbort (.reg p) page n s)

/-- A write of FWD_CMD (R250, R270). -/
def State.fwdCmd (p : Path) (v : Word) (s : State) : State :=
  let c := fld v 2 0
  let t := flag v 3
  s.after (if c = 1 then execFwdInsert p t s else if c = 2 then execFwdDelete p t s else if c = 3 then execFwdRead p t s
    else if c = 4 then execFwdCommit p s else execFwdDiscard p s)

/-- A write of CP_IMG_CMD (R367). -/
def State.cpCmd (p : Path) (n : Nat) (v : Word) (s : State) : State :=
  let c := fld v 3 0
  s.after (if c = 1 then execCpImgLoad p n s else if c = 2 then execCpImgLoadExt p n s else execCpImgMove p n (fld v 11 8) s)

/-- A write of LDG_CMD (R434). -/
def State.ldgPutCmd (p : Path) (v : Word) (s : State) : State :=
  let c := fld v 3 0
  s.after (if c = 1 then execLdgSync p s else if c = 2 then execLdgWriteUser p s else if c = 3 then execLdgReadUser p s
    else if c = 4 then execLdgWriteRecord p s else if c = 5 then execLdgClearRetire p s else execLdgReadFaults p s)

/-- A write of IBR_CMD (R457). -/
def State.ibrCmd (p : Path) (v : Word) (s : State) : State :=
  let c := fld v 15 12
  let n := fld v 11 0
  s.after (if c = 1 then execIbrImport p n (fld v 31 16) s else if c = 2 then execIbrClear p n s
    else if c = 3 then execIbrAttest p s else execIbrFuseCust p s)

/-- A write of MR_CHAN_CMD (R346): an unused action is discarded with BAD_DB. -/
def State.mrCmd (p : Path) (v : Word) (s : State) : State :=
  let b : ChanBy := match p with
    | .i3c => .i3c
    | .regload => .regload
  match chanAction (fld v 15 12) with
  | some act => s.chanCmd act b (fld v 9 0)
  | none => if s.coreUp then s.chanDiscard 3 (s.chanCap b) else s

/-- A write of DEV_CTL (R415, R425): SRESET, then the request. -/
def State.putDevCtl (v : Word) (s : State) : State :=
  let s := if flag v 8 then s.devReset else s
  let r := fld v 2 0
  if 2 ≤ r ∧ r ≤ 5 then s.request r else s.reqResult 1

/-- A write of a listed command code. -/
def State.putCmd (p : Path) (f : Fam) (n off : Nat) (v : Word) (s : State) : State :=
  match f with
  | .sessions => s.sesCmd p v
  | .dec => s.decCmd p n v
  | .runners0 => s.after (if fld v 7 4 = 1 then execLibInsert p (fld v 3 0) s else execLibRemove p (fld v 3 0) s)
  | .fwd => s.fwdCmd p v
  | .sluice => s.after (execSluFlowReload p (fld v 11 0) s)
  | .cp => if off = 0x78 then s.cpCmd p n v else if s.cpPage n then s.eicCmd n (fld v 11 0) (fld v 15 12) else s
  | .pawl => s.after (execPawlImgLoad p n s)
  | .hopper => s.after (if fld v 7 4 = 1 then execHopInit p (fld v 2 0) s else execHopDisable p (fld v 2 0) s)
  | .memarb => s.after (if fld v 3 0 = 1 then execScrubStart p s else execScrubAbort p [] s)
  | .ledger => s.ldgPutCmd p v
  | .ibreham => s.ibrCmd p v
  | _ => s

/-! ## The configuration CRC (R46, R47) -/

/-- The addresses of the C registers of a page, ascending. -/
def cWords (f : Fam) (n : Nat) : List Nat :=
  (List.range 256).filterMap fun i =>
    match regDef f (4 * i) with
    | some d => if d.cfg then some (baseOf f n + 4 * i) else none
    | none => none

/-- The CRC of a page: each C register's address and value. -/
def State.pageCrc (s : State) (f : Fam) (n : Nat) : Nat :=
  crc32c ((cWords f n).flatMap fun a => leBytes 4 a ++ leBytes 4 (s.liveWord .i3c a).toNat)

/-- The CRCs of every present page, by ordinal. -/
def State.pageCrcs (s : State) : List (Nat × Nat) :=
  (Fam.all.flatMap s.pagesOf).map fun e => (ordOf e.1 e.2, s.pageCrc e.1 e.2)

/-- Stores the CRC checker. -/
def State.setCfg (x : CfgChk) (s : State) : State := { s with cfg := x }

/-- CFG_COMMIT (R47): 0x0000_C5A1 starts a fresh pass, and other values are ignored. -/
def State.cfgCommit (v : Word) (s : State) : State :=
  if v = 0xC5A1#32 then s.setCfg { s.cfg with commitBusy := true, passBusy := true } else s

/-- CFG_COMMIT. -/
def execCfgCommit (p : Path) (data : Word) (s : State) : Result := .next (if s.takes p then s.cfgCommit data else s)

/-- CFG_PASS_START: a background pass, while CFG_CTL.RUN is 1 and no pass runs. -/
def State.cfgStart (s : State) : State :=
  if s.live ∧ flag (s.reg Reg.cfgCtl) 0 ∧ s.cfg.passBusy = false then s.setCfg { s.cfg with passBusy := true } else s

/-- CFG_PASS_START. -/
def execCfgPassStart (s : State) : Result := .next s.cfgStart

/-- CFG_PASS_END: the pass takes the values of this moment; its results become the reference, or are compared with it, and a
difference sets MISMATCH while HOLD is 0 (R47). -/
def State.cfgEnd (s : State) : State :=
  if s.live ∧ s.cfg.passBusy then
    let l := s.pageCrcs
    let dev := crc32c (l.flatMap fun e => leBytes 4 e.2)
    let x := { s.cfg with passBusy := false, commitBusy := false, passes := s.cfg.passes + 1, liveCrc := dev, live := l }
    if s.cfg.commitBusy then s.setCfg { x with refValid := true, refCrc := dev, refs := l, mmFirst := 0, mmCount := 0 }
    else
      let bad := if x.refValid then (l.filter fun e => Tbl.getD x.refs e.1 0 != e.2).map (·.1) else []
      let s := s.setCfg { x with mmFirst := bad.headD 0, mmCount := bad.length }
      match bad with
      | [] => s
      | o :: _ =>
        if flag (s.reg Reg.cfgCtl) 1 then s
        else
          let a := match pageAt s.part o with
            | some (f, n) => baseOf f n
            | none => 0
          s.fault .cfgchk 0 0 0 (Cap.mem a 0xFFF 0xF) false
  else s

/-- CFG_PASS_END. -/
def execCfgPassEnd (s : State) : Result := .next s.cfgEnd

/-! ## A write of one block word -/

/-- TB_CMP (R283); a session names a comparator while it is in READY, RUNNING, HELD or STOPPING. -/
def State.putCmp (p : Path) (i k : Nat) (v : Word) (s : State) : State :=
  s.cmpWrite p i k v (s.sessions.any fun e => e.2.st != .free && dTrig e.2.desc == i)

/-- TB_CMP_WRITE. -/
def execTbCmpWrite (p : Path) (n word : Nat) (value : Word) (s : State) : Result :=
  .next (if s.takes p ∧ n < 32 ∧ word < 4 then s.putCmp p n word value else s)

/-- SW_RING_CTL (R263, R269): the agent starts discovery, or goes off. -/
def State.putRing (p : Path) (v : Word) (s : State) : State :=
  let was := s.ringEn
  let s := s.putPlain p .switch Reg.swRingCtl v
  if s.ringEn ∧ was = false then
    if s.ringUp true || s.ringUp false then s.discover else s.setRing { Ring.reset with st := .linking }
  else if was ∧ s.ringEn = false then s.setRing Ring.reset
  else s

/-- TB_PPS_CTL (R285): while EN is 0, PPS_OUT is low. -/
def State.putPps (p : Path) (v : Word) (s : State) : State :=
  let s := s.putPlain p .timebase Reg.tbPpsCtl v
  if flag v 8 = false ∧ s.tb.ppsOut then (s.setTb { s.tb with ppsOut := false }).emit (.pps false) else s

/-- A write of a block word, after the check of its location; command fields, windows and checked words have their own
rules, and the others are plain. -/
def State.putBlock (p : Path) (f : Fam) (n off : Nat) (v : Word) (s : State) : State :=
  let a := baseOf f n + off
  let plain := if f.rwLo off then s.holdLo p f a v else if f.rwLo (off - 4) then s.putPair p f a v else s.putPlain p f a v
  if (cmdCode f off v).isSome then (if unlisted f off v then s.badCmd p f n off v else s.putCmd p f n off v)
  else
    match f with
    | .dev => if off = 0x44 then s.putDevCtl v else s
    | .cfgchk => if off = 0x44 then s.cfgCommit v else plain
    | .evq =>
      if off = 0x40 then s.evqCtlWrite p v
      else if off = 0x48 then s.putBase p f a (flag s.evqCtl 0) 2 v
      else if off = 0x58 then s.evqCons v.toNat (Cap.reg p a)
      else plain
    | .timebase =>
      if 0x58 ≤ off ∧ off < 0x64 then s.holdOffset p ((off - 0x58) / 4) v
      else if off = 0x64 then s.applyOffset p v
      else if off = 0x6C then s.applyRate p v
      else if off = 0x70 then { s with heldLo := Tbl.set s.heldLo (pathKey p a) v }
      else if off = 0x74 then s.applyStep p v
      else if off = 0x88 then s.putPps p v
      else if 0x200 ≤ off then s.putCmp p ((off - 0x200) / 16) (off % 16 / 4) v
      else plain
    | .weir => if off = 0x40 then s.weirHold v else s
    | .dec => if off = 0x4C then s.after (execDecCtlWrite p n v s) else plain
    | .runners0 => if off = 0x5C then (s.putPlain p f a v).spareLoad else plain
    | .runners1 => if off < 0x140 then s.asgWrite p ((off - 0x40) / 4) v else s
    | .governor =>
      if off = 0x80 then s.putPlain p f a (if fld v 9 0 = 0 ∨ 999 < fld v 9 0 then 850 else v) else plain
    | .refpool => if 0x100 ≤ off then s.clsWrite p ((off - 0x100) / 16) (off % 16 / 4) v else plain
    | .packetizer => if off = 0x80 then s.after (execPktRekeyCmd p v s) else plain
    | .leat0 => if off = 0x60 then s.after (execLeatFlush p v s) else plain
    | .quad =>
      if off = 0x40 then s.quadCfgPut p n v
      else if 0x44 ≤ off ∧ off < 0x54 then s.quadPortWrite p n ((off - 0x44) / 4) v
      else plain
    | .switch =>
      if off = 0x48 then s.putPlain p f a (if fld v 7 0 < 38 then 38 else v)
      else if off = 0x60 then s.putRing p v
      else plain
    | .mirror =>
      if off = 0x40 then
        let k := fld v 8 4
        let k := if 6 ≤ k ∧ k ≤ 20 then k else 6
        let old := s.reg Reg.mirCtl
        if flag old 0 ∧ fld old 8 4 ≠ k then s.raiseErr .mirror 0 1 (Cap.reg p a)
        else s.setReg a (pack [(0, fld v 0 0), (4, k)])
      else if off = 0x48 then
        if flag (s.reg Reg.mirCtl) 0 then (s.takeLo p (a - 4) 0).2.raiseErr .mirror 0 1 (Cap.reg p a) else plain
      else plain
    | .sluice =>
      if off = 0x74 then s.after (execSluTblCommit p v s) else if tblWord off then s.putTbl p off v else plain
    | .pcie =>
      if off = 0x40 then s.pcieWrite p n v
      else if s.isMember n ∧ pcieConfig off then s
      else if off = 0x48 then s.putPlain p f a (if 20 ≤ fld v 5 0 ∧ fld v 5 0 ≤ 36 then v else 20)
      else if off = 0x80 then s.putPlain p f a (if fld v 4 0 = 0 then v ||| 1 else v)
      else plain
    | .millrace =>
      if 0x44 ≤ off ∧ off < 0x5C then s.putChan p off v
      else if off = 0x70 then s.mrCmd p v
      else if off = 0x180 then s.evrInject p v
      else plain
    | .cp => if 0x54 ≤ off ∧ off < 0x60 then s.putEic p n off v else plain
    | .hopper =>
      if off = 0x48 then s.scaleWrite p v
      else if 0x100 ≤ off ∧ off < 0x200 then
        let q := (off - 0x100) / 32
        if off % 32 = 0 ∨ off % 32 = 0xC then s.holdLo p f a v
        else if off % 32 = 4 ∨ off % 32 = 0x10 then
          if (s.pool q).en then { s with heldLo := Tbl.erase s.heldLo (pathKey p (a - 4)) }.raiseErr .hopper 0 5 (Cap.reg p a)
          else s.putPair p f a v
        else if off % 32 = 8 then s.poolCfgWrite p a q (v &&& 0x1FFFFF#32)
        else s
      else if 0x200 ≤ off then s.resvWrite p ((off - 0x200) / 8) (off % 8 == 4) v
      else plain
    | .memctl =>
      if off = 0x44 then s.mcRef p n v else if off = 0x58 then s.chkFlip n v else plain
    | .memarb =>
      if off = 0x40 then s.maCtl (flag v 0)
      else if 0x60 ≤ off ∧ off < 0x78 then s.bankHash p ((off - 0x60) / 4) v
      else plain
    | _ => plain

/-- A write of a word at a location that takes it. -/
def State.putWord (p : Path) (a : Nat) (v : Word) (s : State) : State :=
  match pageOf s.part a with
  | none => s
  | some (f, n) => if a % 0x400 < 0x40 then s.putHeader f n (a % 0x400) v else s.putBlock p f n (a % 0x400) v

/-- A location that a write treats as reserved (R36, R295). -/
def State.writeShut (s : State) (p : Path) (a : Nat) : Bool :=
  !implemented s.part a ||
  match pageOf s.part a with
  | some (.sluice, _) => s.tblShut p (a % 0x400)
  | _ => false

/-- A word of a write: applied, or refused with ACC_FAULT (R31, R36); the first refused address of the transfer is kept. -/
def State.writeWord (p : Path) (a : Nat) (v : Word) (first : Option Nat) (s : State) : Option Nat × State :=
  if s.writeShut p a then (some (first.getD a), s.accFault (Cap.reg p a)) else (first, s.putWord p a v)

/-! ## Transfers (R30 to R36) -/

/-- The words that bytes hold, and how many bytes are left over. -/
def wordsOf : List Byte → List Word × Nat
  | a :: b :: c :: d :: t => let (l, k) := wordsOf t; (word (leNat [a, b, c, d]) :: l, k)
  | l => ([], l.length)

/-- Words written from an address upward (R31). -/
def State.writeRun (p : Path) : List Word → Nat → Option Nat → State → Option Nat × State
  | [], _, first, s => (first, s)
  | w :: t, a, first, s =>
    let (first, s) := s.writeWord p a w first
    State.writeRun p t ((a + 4) % 2 ^ 24) first s

/-- A private write as the part received it: address and words. A misaligned address refuses the whole transfer (R32) and is treated
as an access fault of R36 at that address, counted and with IBI 0x02 (DESIGN CHOICE, assumption 86); a word
that the controller ends is discarded with PARTIAL, and one that the maximum length cuts is not (R33, R34). -/
def State.i3cWords (l : List Byte) (cut : Bool) (s : State) : State :=
  let a := leNat (l.take 3)
  if l.length < 3 then s.raiseErr .i3c 0 1 Cap.none
  else if a % 4 ≠ 0 then (s.accFault (Cap.reg .i3c a)).accIbi a
  else
    let (ws, rest) := wordsOf (l.drop 3)
    let (first, s) := s.writeRun .i3c ws a none
    let b := (a + 4 * ws.length) % 2 ^ 24
    let (first, s) := if rest ≠ 0 ∧ s.writeShut .i3c b then (some (first.getD b), s.accFault (Cap.reg .i3c b)) else (first, s)
    let s := if rest ≠ 0 ∧ !cut then s.raiseErr .i3c 0 1 (Cap.reg .i3c b) else s
    let s := if cut then s.raiseErr .i3c 0 2 (Cap.reg .i3c b) else s
    match first with
    | some x => s.accIbi x
    | none => s

/-- A private write over I3C (R30, R34): bytes beyond the maximum write length are discarded. In HALT every write is
discarded with no capture (R417). -/
def State.i3cWrite (bytes : List Byte) (s : State) : State :=
  let s := (s.emit .i3cAck).wrap Reg.i3cXfers 1
  if s.dev.mode = .halt then s
  else s.i3cWords (bytes.take s.i3c.mwl) (decide (s.i3c.mwl < bytes.length))

/-- Words that a REGLOAD record writes (R339): those before a reserved location stay applied, and it ends them, with its
address. -/
def State.loadRun : List Word → Nat → State → Option Nat × State
  | [], _, s => (none, s)
  | w :: t, a, s =>
    if a % 4 ≠ 0 ∨ s.writeShut .regload a then (some a, (s.accFault (Cap.reg .regload a)).accIbi a)
    else State.loadRun t ((a + 4) % 2 ^ 24) (s.putWord .regload a w)

/-- REGISTER_WRITE. -/
def execRegisterWrite (p : Path) (bytes : List Byte) (s : State) : Result :=
  .next (match p with
    | .i3c => if s.i3cAddressed then s.i3cWrite bytes else s.emit .i3cNack
    | .regload => if s.takes .regload then (s.loadRun (wordsOf (bytes.drop 3)).1 (leNat (bytes.take 3))).2 else s)

/-- The commands of an HDR-DDR frame (R35): a pending read address, and what each command does. -/
def State.hdr : List HdrCmd → Option Nat → State → State
  | [], _, s => s
  | c :: t, at_, s =>
    match c with
    | .write bytes true => State.hdr t at_ (s.i3cWrite bytes)
    | .write bytes false =>
      let s := s.wrap Reg.i3cXfers 1
      State.hdr t at_ (if s.dev.mode = .halt then s else s.raiseErr .i3c 0 3 (Cap.reg .i3c (leNat (bytes.take 3))))
    | .readAddr bytes true => State.hdr t (if bytes.length < 3 then none else some (leNat (bytes.take 3))) s
    | .readAddr bytes false =>
      State.hdr t none (if s.dev.mode = .halt then s else s.raiseErr .i3c 0 3 (Cap.regRead .i3c (leNat (bytes.take 3))))
    | .read n =>
      match at_ with
      | some a => State.hdr t none (s.i3cRead a n)
      | none => State.hdr t none s
    | .other _ => State.hdr t at_ s

/-- ENTHDR0. -/
def execEnthdr0 (cmds : List HdrCmd) (s : State) : Result := .next (if s.i3cAddressed then s.hdr cmds none else s)

end Sys2Proof.Machine
end

