-- ==== Sys2Proof/Machine/Bringup.lean ====
section
/-!
DEFINITION. Bring-up: the record that it chooses, the images, CONFIG and PRELOAD, and its failures (R418, R419, R427 to R430).
-/

namespace Sys2Proof.Machine

/-! ## REGLOAD images (R339) -/

/-- The length of the record that a REGLOAD image begins with: WRITE with its words, or POLL. -/
def recLen (l : List Byte) : Nat :=
  let k := bits (leAt l 0 4) 31 24
  if k = 0xFF then 12 else 4 + 4 * (k + 1)

/-- Every record of an image lies inside it (R339). -/
def recsFit : Nat → List Byte → Bool
  | 0, l => l.isEmpty
  | fuel + 1, l => l.isEmpty || (decide (4 ≤ l.length) && decide (recLen l ≤ l.length) && recsFit fuel (l.drop (recLen l)))

/-- A record is a POLL. -/
def recPoll (l : List Byte) : Bool := bits (leAt l 0 4) 31 24 == 0xFF

/-- The address of a record. -/
def recAddr (l : List Byte) : Nat := bits (leAt l 0 4) 23 0

/-- The words of a WRITE record. -/
def recWords (l : List Byte) : List Word := (wordsOf (slice l 4 (recLen l - 4))).1

/-- The records of the CONFIG section, applied in order (R429); a POLL reads its register once. None where a record meets a
reserved location. -/
def State.applyRecs : Nat → List Byte → State → Option State
  | 0, _, s => some s
  | fuel + 1, l, s =>
    if l.isEmpty then some s
    else if recPoll l then
      if s.readable (recAddr l) then State.applyRecs fuel (l.drop 12) (s.readWord .regload (recAddr l)).2 else none
    else
      match s.loadRun (recWords l) (recAddr l) with
      | (none, s) => State.applyRecs fuel (l.drop (recLen l)) s
      | (some _, _) => none

/-- The last word that an image writes to an address. -/
def recLast (a : Nat) : Nat → List Byte → Option Word → Option Word
  | 0, _, w => w
  | fuel + 1, l, w =>
    if l.isEmpty then w
    else
      let i := (a - recAddr l) / 4
      let here := !recPoll l && decide (recAddr l ≤ a) && (a - recAddr l) % 4 == 0
      recLast a fuel (l.drop (recLen l)) (if here then ((recWords l)[i]?).or w else w)

/-! ## Step 1: the record (R426, R430) -/

/-- The Ledger after step 1: POR takes the counts of the record and counts itself; a warm reset keeps what is pending. -/
def Ledger.chosen (l : Ledger) (por : Bool) : Ledger :=
  if por then
    let w := ((l.source 6).map fun r => r.wear).getD ⟨0, 0, 0, 0, 0⟩
    { l with wear := { w with por := sat32 (w.por + 1) }, retire := ((l.source 8).map fun r => r.retire).getD Retire.none,
             heldRetire := Retire.none }
  else l

/-- Every mandatory section can be read (R429, R430). -/
def Ledger.whole (l : Ledger) : Bool := [1, 2, 3, 4].all fun t => (l.section? t).isSome

/-- A section of the chosen record. -/
def State.buSec (s : State) (t : Nat) : List Byte := (s.ldg.section? t).getD []

/-! ## Step 2: units and images (R204, R357, R119, R190, R367) -/

/-- The physical units that bring-up puts in the place of retired ones: logical unit and spare, in order. -/
def spareFor (use phys : Nat) (out : List Nat) : List (Nat × Option Nat) :=
  let lost := (List.range use).filter out.contains
  let spares := (List.range phys).filter fun n => decide (use ≤ n) && !out.contains n
  lost.zipIdx.map fun e => (e.1, spares[e.2]?)

/-- Stones, runners and CPs that are retired stay out of service, with spares in their place. -/
def State.buUnits (s : State) : State :=
  let r := s.ldg.retire
  let h := s.ldg.heldRetire
  let st := (r.stones ++ h.stones).dedup
  let ru := (r.runners ++ h.runners).dedup
  let cp := (r.cps ++ h.cps).dedup
  let s := st.foldl (fun s n => s.setStone n { s.stone n with role := .retired }) s
  let s := (spareFor s.part.stonesUse s.part.stonesPhys st).foldl (fun s e => match e.2 with
    | some m => { s with lmap := Tbl.set s.lmap e.1 m }.setStone m { s.stone m with role := .usable, lstone := e.1 }
    | none => { s with noStone := s.noStone ++ [e.1] }) s
  let s := ru.foldl (fun s n => s.setRunner n { s.runner n with role := .retired }) s
  let s := (spareFor s.part.runnersUse s.part.runnersPhys ru).foldl (fun s e => match e.2 with
    | some m => s.runMap e.1 m
    | none => { s with runners := { s.runners with unmapped := s.runners.unmapped ++ [e.1] } }) s
  let s := cp.foldl (fun s n => s.setCp n { s.cp n with role := .retired }) s
  (spareFor s.part.cpsUse s.part.cpsPhys cp).foldl (fun s e => match e.2 with
    | some m => s.setCp m { s.cp m with role := .usable, logical := e.1 }
    | none => s) s

/-- The runner images fill the slots from 0, and every runner holds slot 0 (R204). -/
def State.buRunners (s : State) : State :=
  let l := (splitImgs runnerImgLen 16 (s.buSec 2)).getD []
  let s := l.zipIdx.foldl (fun s e => s.setLib e.2 { valid := true, ledger := true, image := e.1, addr := 0 }) s
  if l.isEmpty then s
  else (List.range s.part.runnersPhys).foldl (fun s n => s.setRunner n { s.runner n with lib := some 0, loading := none, inited := false }) s

/-- The CP base and extension images go into every CP (R357). -/
def State.buCps (s : State) : State :=
  match (splitImgs cpImgLen 2 (s.buSec 3)).getD [] with
  | [] => s
  | a :: t =>
    (List.range s.part.cpsPhys).foldl (fun s n =>
      let c := (s.cp n).takeBase (a.take 256) (a.drop 256)
      s.setCp n (match t with
        | b :: _ => c.takeExt (b.take 256) (b.drop 256)
        | [] => c)) s

/-- The pawl image goes into every pawl (R357). -/
def State.buPawls (s : State) : State :=
  match (splitImgs cpImgLen 1 (s.buSec 4)).getD [] with
  | [] => s
  | a :: _ =>
    (List.range s.part.quads).foldl (fun s n => s.setPawl n { s.pawl n with
      prog := imgWords 12 0 (leAt a 8 2) (a.drop 256), running := true, version := leAt a 5 2, dig := slice a 0x40 48 }) s

/-! ## Steps 3 to 5 (R411, R418, R429) -/

/-- Every site trains, at the rate that CONFIG gives site 0 (R411). -/
def State.buSites (s : State) : State :=
  let c := s.buSec 1
  let r := (recLast (Reg.mcInfo 0) c.length c none).map fun w => fld w 1 0
  (List.range s.part.sites).foldl (fun s n => s.setSite n { s.site n with trained := true, rate := r.getD 0 }) s

/-- The PRELOAD blocks, as addresses with their bytes; none where a block runs past the section. -/
def preloads : Nat → List Byte → List (Nat × List Byte)
  | 0, _ => []
  | fuel + 1, l =>
    let n := leAt l 8 4
    if l.length < 12 ∨ l.length < 12 + n then [] else (leAt l 0 8, slice l 12 n) :: preloads fuel (l.drop (12 + n))

/-- What bring-up does up to STANDBY: none where CONFIG meets a reserved location, or holds a record that runs past it. -/
def State.bringUp (s : State) : Option State :=
  let c := s.buSec 1
  if recsFit c.length c then
    let s : State := { s with ldg := s.ldg.chosen (s.dev.cause == ResetKind.por), dev := { s.dev with mode := .standby } }
    let s := s.buUnits.buRunners.buCps.buPawls.buSites
    (s.applyRecs c.length c).map fun (s : State) =>
      let pre : List Byte := s.buSec 10
      let s := (preloads pre.length pre).foldl (fun s e => s.writeLines ldgMaster 0x1 e.1 e.2) s
      (s.setCfg { s.cfg with commitBusy := true, passBusy := true }).cfgEnd
  else none

/-- The images of the Ledger check (R461). -/
def State.buImages (s : State) : Bool :=
  [2, 3, 4].all fun t => (s.secImgs t (s.buSec t)).all (· == 0)

/-- The code of R419 that the Ledger's content gives: 1, 2 or 5, or 0 where bring-up can go on. -/
def State.buCode (s : State) : Nat :=
  if !s.ldg.whole then 1 else if !s.buImages then 2 else if s.bringUp.isNone then 5 else 0

/-- Bring-up is running. -/
def State.buRuns (s : State) : Bool := s.dev.mode == .bringup && s.dev.pwrOk && s.dev.resetN && !s.dev.stuck

/-- DEV_RESET_CAUSE of the reset that bring-up follows (R432). -/
def ResetKind.bit : ResetKind → Nat
  | .por => 1 | .resetN => 2 | .rstact2 => 4 | .sreset => 8 | .repeated => 16

/-- BRINGUP_COMPLETE: STANDBY, with the pending Ledger updates written (R418, R426, R430). -/
def State.buDone (ms : Nat) (s : State) : State :=
  if s.buRuns ∧ s.buCode = 0 then
    match s.bringUp with
    | none => s
    | some t =>
      let again := t.dev.retried
      let d := { t.dev with mode := .bringup, buMs := ms, retried := false }
      let t := ({ t with dev := d }).setMode .standby 7
      let t := t.setReg Reg.devResetCause (word (s.dev.cause.bit + if again then 16 else 0))
      let t := if again then t.raiseErr .dev 0 1 Cap.none else t
      let failing := (s.ldg.records.head?.map fun r => !r.bad.isEmpty).getD false
      let t := if s.ldg.bank0 = .bad ∨ s.ldg.bank1 = .bad ∨ failing then t.raiseErr .ledger 0 0 Cap.none else t
      t.ldgFlush
  else s

/-- BRINGUP_COMPLETE. -/
def execBringupComplete (ms : Nat) (s : State) : Result := .next (s.buDone ms)

/-- A failure of this code can happen now: 3 and 4 are the sites' and the PLLs', and the others follow from the Ledger. -/
def State.buMayFail (s : State) (code : Nat) : Bool :=
  if code = 3 ∨ code = 4 then s.buCode != 1 else code != 0 && code == s.buCode

/-- BRINGUP_FAIL (R419): the first failure repeats bring-up; the second leaves the part in BRINGUP, with a fault entry that
carries the code, except code 1. -/
def State.buFailed (code : Nat) (s : State) : State :=
  if s.buRuns ∧ s.buMayFail code then
    if s.dev.retried then
      let s := { s with dev := { s.dev with buFail := code, stuck := true }, ldg := s.ldg.chosen (s.dev.cause == ResetKind.por) }
      if code = 1 then s
      else
        let e : LdgFault := { time := s.tick, page := ordOf .dev 0, src := 1, cls := 0, mode := s.dev.mode.code, master := 0xFFF,
                              acc := 0xF, merged := 0, addr := 0, por := s.ldg.wear.por, buFail := code }
        (s.setLdg { s.ldg with faults := s.ldg.faults ++ [e] }).ldgWrite
    else { s with dev := { s.dev with buFail := code, retried := true } }
  else s

/-- BRINGUP_FAIL. -/
def execBringupFail (code : Nat) (s : State) : Result := .next (s.buFailed code)

end Sys2Proof.Machine
end

