-- ==== Sys2Proof/Machine/StepOps.lean ====
section
/-!
DEFINITION. What the steps of channel programs share: their layout, device entries, dispatch checks, memory pieces, data chains
through Hopper buffers, engine transfers, and how a step completes (R323 to R334, R340 to R345).
-/

namespace Sys2Proof.Machine

/-! ## Steps and device entries (R325 to R330) -/

/-- A step from its 32 bytes (R328). -/
def stepOf (l : List Byte) : Step :=
  let w := leAt l 0 4
  { op := bits w 7 0, flags := bits w 15 8, dev := bits w 27 16, count := leAt l 4 4, addr := leAt l 8 8, p0 := leAt l 16 4,
    p1 := leAt l 20 4, key := leAt l 24 2, timeout := leAt l 26 2, retry := leAt l 28 1, rsvd := bits w 31 28 + leAt l 29 3 }

/-- FLAGS bits (R329). -/
def Step.link (x : Step) : Bool := bitOf x.flags 0
/-- DLINK. -/
def Step.dlink (x : Step) : Bool := bitOf x.flags 1
/-- SKIP. -/
def Step.skip (x : Step) : Bool := bitOf x.flags 2
/-- HOLD. -/
def Step.hold (x : Step) : Bool := bitOf x.flags 3
/-- NOTE. -/
def Step.note (x : Step) : Bool := bitOf x.flags 4
/-- SGL. -/
def Step.sgl (x : Step) : Bool := bitOf x.flags 5
/-- KEYED. -/
def Step.keyed (x : Step) : Bool := bitOf x.flags 6
/-- ATTN. -/
def Step.attn (x : Step) : Bool := bitOf x.flags 7
/-- PARAM1:PARAM0. -/
def Step.offset (x : Step) : Nat := 2 ^ 32 * x.p1 + x.p0

/-- Word `i` of a device entry (R326). -/
def ew (e : List Nat) (i : Nat) : Nat := e.getD i 0
/-- TYPE of a device entry. -/
def eType (e : List Nat) : Nat := bits (ew e 0) 3 0
/-- MEMDEV of a device entry. -/
def eMemdev (e : List Nat) : Nat := bits (ew e 0) 27 16
/-- SESSION of an INGEST, ENC_SESSION or DEC_SESSION entry. -/
def eSession (e : List Nat) : Nat := bits (ew e 1) 8 0
/-- The lane of an EGRESS_FLOW entry, as 2 × queue + lane. -/
def eLane (e : List Nat) : Nat := 2 * bits (ew e 1) 7 0 + bits (ew e 1) 8 8
/-- FLOW of an EGRESS_FLOW entry. -/
def eFlow (e : List Nat) : Nat := bits (ew e 1) 27 16
/-- MAX_SEGS of an EGRESS_FLOW entry. -/
def eMaxSegs (e : List Nat) : Nat := bits (ew e 2) 31 16
/-- XSLOT of a RUNNER_XFORM entry. -/
def eXslot (e : List Nat) : Nat := bits (ew e 1) 15 8
/-- The image that serves the FORMAT of a RUNNER_XFORM entry (R208). -/
def eImage (e : List Nat) : Nat := if bits (ew e 1) 1 0 = 1 then 0x21 else 0x22
/-- ENDPOINT of a HOSTMEM entry. -/
def eEndpoint (e : List Nat) : Nat := bits (ew e 1) 3 0
/-- The engine space of a memory device (R373). -/
def eSpace (e : List Nat) : Nat := if eType e = 9 then 0 else eEndpoint e + 1
/-- BASE of a memory device. -/
def eBase (e : List Nat) : Nat := ew e 4 + 2 ^ 32 * ew e 5
/-- LIMIT of a memory device. -/
def eLimit (e : List Nat) : Nat := ew e 6 + 2 ^ 32 * ew e 7

/-- The bits of word 1 that a TYPE names (R326). -/
def eMask1 (t : Nat) : Nat :=
  if t = 1 then 0x1F else if t = 2 ∨ t = 4 then 0x1FF else if t = 3 then 0xFFF01FF else if t = 5 then 0x7F
  else if t = 6 then 0xFF03 else if t = 8 then 0xF else 0

/-- BAD_DEV by the entry's own words (R325): TYPE 0 or reserved, a reserved bit, or a FORMAT that R326 does not list. -/
def entryBad (e : List Nat) : Bool :=
  let t := eType e
  t == 0 || decide (10 < t) || (ew e 0 &&& 0xF000FFF0) != 0 || ew e 1 ||| eMask1 t != eMask1 t ||
  (ew e 2 != 0 && !(t == 1 || t == 3 || t == 6)) || ew e 3 != 0 ||
  (!(t == 8 || t == 9) && (ew e 4 != 0 || ew e 5 != 0 || ew e 6 != 0 || ew e 7 != 0)) ||
  (t == 6 && !(bits (ew e 1) 1 0 == 1 || bits (ew e 1) 1 0 == 2))

/-- ABSENT (R7, R325): a unit that the part lacks, or an endpoint or root port that is not configured. -/
def State.entryAbsent (s : State) (e : List Nat) : Bool :=
  let t := eType e
  if t = 1 then !(s.linkEn (bits (ew e 1) 4 0) && s.linkRole (bits (ew e 1) 4 0) == 3)
  else if t = 2 ∨ t = 4 then decide (s.part.encSessions ≤ eSession e)
  else if t = 5 then decide (s.part.decSessions ≤ eSession e)
  else if t = 8 then decide (8 < eEndpoint e) || (s.linkOfSpace (eEndpoint e)).isNone
  else false

/-- The lane that an EGRESS_FLOW device has open, and its lane's entry (R325, R331). -/
def State.openDev (s : State) (dev : Nat) : Option (Nat × Lane) :=
  s.leat.lanes.find? fun e => e.2.isOpen && e.2.device && e.2.owner == dev

/-- Reads a device entry afresh, or the copy that an open EGRESS_FLOW keeps; a result code other than OK faults the step
(R325). -/
def State.readEntry (c dev : Nat) (s : State) : Nat × List Nat × State :=
  if s.part.devtab ≤ dev then (5, [], s)
  else
    match s.openDev dev with
    | some l => (0, l.2.entry, s)
    | none =>
      match s.readBytes (s.cpMaster c) 0x2 (4096 * (s.reg64 Reg.mrDevtabBaseLo / 4096) + 32 * dev) 32 with
      | (none, s) => (9, [], s)
      | (some l, s) =>
        let e := (List.range 8).map fun i => leAt l (4 * i) 4
        (if entryBad e then 5 else if s.entryAbsent e then 6 else 0, e, s)

/-- The device types of an OP; none where the OP ignores DEV or is reserved (R330). -/
def opTypes (op : Nat) : List Nat :=
  if op = 0x01 then [1, 3] else if op = 0x02 then [1, 2, 3, 5] else if op = 0x03 then [8, 9] else if op = 0x04 then [2, 3, 4, 5]
  else if op = 0x06 then [6, 7] else if op = 0x07 then [1] else if op = 0x0B ∨ op = 0x0D then [8, 9] else if op = 0x0C then [10]
  else if op = 0x05 ∨ 0x80 ≤ op then [1, 2, 3, 4, 5, 6, 7, 8, 9, 10] else []

/-- An OP that ignores DEV (R330). -/
def opBare (op : Nat) : Bool := op == 0x08 || op == 0x09 || op == 0x0A || op == 0x0E || op == 0x0F

/-- The step uses a key: KEYED, or a CRYPTO transform (R328, R333). -/
def Step.uses (x : Step) (e : List Nat) : Bool := x.keyed || (x.op == 6 && eType e == 7)

/-- ADDR addresses memory (R329, R330, R332). -/
def Step.atMem (x : Step) (chained : Bool) : Bool :=
  (x.op == 1 && !x.dlink) || (x.op == 2 && !chained) || x.op == 3 || (x.op == 6 && !(chained && x.dlink)) || x.op == 0xD

/-- The step needs the memory device that MEMDEV names (R325, R330). -/
def Step.needsMem (x : Step) (e : List Nat) (chained : Bool) : Bool :=
  (x.op == 1 && !x.dlink && !x.skip) || (x.op == 2 && !chained) || x.op == 3 || x.op == 5 || (x.op == 6 && !(chained && x.dlink)) ||
  x.op == 7 || x.op == 0xC || (x.op == 4 && (eType e == 4 || eType e == 5) && x.p0 % 256 == 1)

/-- A step that breaks a restriction on its flags, its chain or its own fields: BAD_STEP (R328, R329, R330, R332, R335 to R337,
R339). -/
def Step.breaks (x : Step) (e : List Nat) (chained : Bool) (channels : Nat) : Bool :=
  (chained && !(x.op == 2 || x.op == 6)) ||
  (x.dlink && (!x.link || !(x.op == 1 || x.op == 6) || x.hold)) ||
  (x.skip && (x.op != 1 || x.dlink || x.keyed)) ||
  (x.sgl && !x.atMem chained) ||
  (x.keyed && !(x.op == 1 || x.op == 3 || (x.op == 6 && eType e == 6))) ||
  (x.uses e && decide (4096 ≤ x.key)) ||
  (x.op == 6 && ((!chained && !x.dlink) || (chained && x.count != 0))) ||
  (x.op == 2 && chained && (x.count != 0 || x.addr != 0)) ||
  (x.op == 1 && x.dlink && x.addr != 0) ||
  (x.dlink && decide (8388608 < if x.op = 1 then x.count else x.p0)) ||
  (x.op == 5 && x.count != 32) ||
  (x.op == 7 && decide (1048576 < x.count)) ||
  (x.op == 8 && decide (x.p0 % 4096 < 3072)) ||
  (x.op == 9 && decide (x.p0 % 4096 < 3072) &&
    !(decide (x.p0 % 4096 < channels) && decide (1 ≤ x.p0 / 4096 % 16) && decide (x.p0 / 4096 % 16 ≤ 3))) ||
  (x.op == 0xA && x.addr % 32 != 0) ||
  (x.op == 0xB && !(x.count == 0 || (x.count == 4 && x.addr % 4 == 0))) ||
  (x.op == 0xC && x.count % 4 != 0)

/-! ## How a step ends (R340 to R345) -/

/-- The retryable results (R342). -/
def retryable (result : Nat) : Bool := result == 2 || result == 9 || result == 0xA || result == 0xB

/-- A channel gives up what its step waits for or holds outside its buffers (R322). -/
def State.stepLeave (c : Nat) (s : State) : State :=
  let s := (s.xformDrop c).hopCancelAll (.chan c)
  { s with waits := s.waits.filter (fun w => w.2 != c), regload := s.regload.filter (· != c) }

/-- Where the program goes on (R329, R330, R337): nowhere after END, or without LINK. -/
def Chan.next (x : Chan) (r : StepRun) : Option Nat :=
  if r.step.op = 0xF then none
  else if r.step.op = 0xA then some r.step.addr
  else if !r.step.link then none
  else some ((x.pc + (if r.step.op = 0xB ∧ r.pos = 1 then 64 else 32)) % 2 ^ 64)

/-- A step completes with OK: its input buffer is released, the status record and the ATTN event follow, and the channel goes on,
is HELD, or is IDLE (R321, R329, R332, R341 to R345). -/
def State.stepOk (c : Nat) (r : StepRun) (e : StepEnd) (s : State) : State :=
  let s := (s.stepLeave c).hopRelease (s.chan c).inBuf
  let x := s.chan c
  let st := r.step
  let next := x.next r
  let held := st.hold && !x.latch
  let now : ChanSt := if held then .held else if next.isNone then .idle else .active
  let rec_ := statusRecord c st.op 0 e.done st.key e.detail x.retries x.srProd x.srLog2 held (now == .idle) false
  let s := s.setChan c { x with
    st := now, latch := x.latch && !st.hold, hopWait := false, result := 0, steps := (x.steps + 1) % 2 ^ 32, run := none
    inBuf := if st.dlink then r.out else none
    chainPc := if st.dlink ∧ x.inBuf.isNone then x.pc else x.chainPc
    retries := if st.dlink then x.retries else 0
    nextPc := if held then next else none }
  let s := if st.note then s.postStatus c rec_ else s
  let s := if st.attn then s.chanEvent c 0x01 0 rec_ else s
  match now, next with
  | .active, some p => s.setChan c { s.chan c with pc := p }
  | _, _ => s

/-- A step runs again from its start, or from the first step of its data chain, whose buffers are released (R341). -/
def State.stepRetry (c : Nat) (e : StepEnd) (s : State) : State :=
  let x := s.chan c
  let s := (s.stepLeave c).dropBufs c
  s.setChan c { s.chan c with run := none, result := e.result, retries := x.retries + 1, st := .active
                              pc := if x.inBuf.isSome then x.chainPc else x.pc }

/-- A step ends with a result (R341, R342). -/
def State.stepDone (c : Nat) (e : StepEnd) (s : State) : State :=
  let x := s.chan c
  match x.run with
  | none => s
  | some r =>
    let e := { e with done := r.doneIs.getD e.done }
    if e.result = 0 then s.stepOk c r e
    else if retryable e.result ∧ x.retries < r.step.retry then s.stepRetry c e
    else (s.stepLeave c).chanFault c e

/-- A step ends with a result code and nothing done. -/
def State.stepFail (c result detail : Nat) (s : State) : State := s.stepDone c ⟨result, detail, 0⟩

/-! ## Dispatch (R323 to R325, R333, R358, R359) -/

/-- A step just dispatched. -/
def stepRun (x : Step) (e m : List Nat) (now : Nat) (key : List Byte) : StepRun :=
  { step := x, entry := e, memEntry := m, at_ := now, phase := .start, key := key, out := none, data := [], left := 0, done := 0,
    pos := 0, doneIs := none, mark := 0, spent := 0, sent := false, ending := none, fin := none }

/-- The CP of a channel, where it can take a step now: it runs its image, its page takes new work, and no extension call and no
move of its logical CP holds it (R323, R355, R359). -/
def State.cpFor (s : State) (c : Nat) : Option Nat :=
  (s.physOf (s.chan c).lcp).filter fun n =>
    s.accepts .cp n && (s.cp n).running && !(s.cp n).failed && (s.cp n).call.isNone && !s.moveWaits (s.chan c).lcp

/-- A logical CP that no physical CP carries or will carry. -/
def State.unbound (s : State) (l : Nat) : Bool :=
  (s.physOf l).isNone && !(s.cps.any fun e => e.2.failed && e.2.logical == l)

/-- The commands of a CONTROL step by device type (R331). -/
def controlCmds (t : Nat) : List Nat := if t = 2 then [1] else if t = 3 then [1, 2, 3] else [1, 2, 3, 4]

/-- The descriptor of a CONTROL SETUP lies in part DRAM, on a line boundary, within its memory device (R60, R327). -/
def setupOk (x : Step) (e m : List Nat) : Bool :=
  !(x.op == 4 && (eType e == 4 || eType e == 5) && x.p0 % 256 == 1) ||
  (eType m == 9 && x.addr % 64 == 0 && decide (eBase m ≤ x.addr) &&
    decide (x.addr + (if eType e = 4 then 256 else 128) ≤ eLimit m + 1))

/-- The checks of a fetched step at dispatch: a result code, and what it goes on with (R325, R328 to R333). -/
def State.stepCheck (c : Nat) (x : Step) (s : State) : Nat × StepRun × State :=
  let chained := (s.chan c).inBuf.isSome
  let bare := stepRun x [] [] s.tick []
  if x.rsvd ≠ 0 then (4, bare, s)
  else if opBare x.op then (if x.breaks [] chained s.part.channels then 4 else 0, bare, s)
  else if (opTypes x.op).isEmpty then (3, bare, s)
  else
    match s.readEntry c x.dev with
    | (0, e, s) =>
      if !(opTypes x.op).contains (eType e) then (3, bare, s)
      else if x.breaks e chained s.part.channels then (4, bare, s)
      else
        let used := x.uses e
        if used ∧ (s.slot x.key).typ ≠ 1 then (0xF, bare, s)
        else
          let (k, m, s) := if x.needsMem e chained then s.readEntry c (eMemdev e) else (0, [], s)
          if k ≠ 0 then (k, bare, s)
          else if x.needsMem e chained ∧ ¬(eType m = 8 ∨ eType m = 9) then (5, bare, s)
          else if x.op = 4 ∧ !(controlCmds (eType e)).contains (x.p0 % 256) then (0xD, bare, s)
          else if !setupOk x e m then (7, bare, s)
          else
            let key := if used then (s.slot x.key).key else []
            (0, stepRun x e m s.tick key, if used then s.slotUse [x.key] else s)
    | (k, _, s) => (k, bare, s)

/-- A fetched step is dispatched. -/
def State.stepBegin (c : Nat) (r : StepRun) (s : State) : State :=
  s.setChan c { s.chan c with run := some r, lastOp := r.step.op, lastTag := r.step.key }

/-- STEP_DISPATCH (R323): the next step of an ACTIVE channel, once its fetch and device entry have arrived; a bad one faults the
channel. -/
def State.dispatch (c : Nat) (s : State) : State :=
  let x := s.chan c
  if !(s.accepts .millrace 0) || !s.memServes || x.st != .active || x.run.isSome || decide (s.part.channels ≤ c) then s
  else if s.part.cpsUse ≤ x.lcp then ((s.setRun c (some (stepRun (stepOf []) [] [] s.tick []))).stepFail c 6 0)
  else if s.unbound x.lcp then ((s.setRun c (some (stepRun (stepOf []) [] [] s.tick []))).stepFail c 9 0)
  else
    match s.cpFor c with
    | none => s
    | some _ =>
      match s.progRead c x.pc 32 with
      | (.wait, s) => s
      | (.fail, s) => (s.setRun c (some (stepRun (stepOf []) [] [] s.tick []))).stepFail c 9 0
      | (.got l, s) =>
        match s.stepCheck c (stepOf l) with
        | (0, r, s) => s.stepBegin c r
        | (k, r, s) => (s.stepBegin c r).stepFail c k (if k = 0xD then 8 else 0)

/-- STEP_DISPATCH. -/
def execStepDispatch (c : Nat) (s : State) : Result := .next (s.dispatch c)

/-- The step of an OP that a channel has in progress and that nothing has ended. -/
def State.opRun (s : State) (c op : Nat) : Option StepRun :=
  if s.coreUp ∧ s.memServes then
    (s.chan c).run.filter fun r => r.step.op == op && r.fin.isNone && r.ending.isNone &&
      (r.phase == .start || r.phase == .waiting || r.phase == .moved)
  else none

/-- Does the work of a step of an OP. -/
def State.withOp (c op : Nat) (f : StepRun → State → State) (s : State) : State :=
  match s.opRun c op with
  | some r => f r s
  | none => s

/-- The step waits for a device, an XSLOT or a message. -/
def State.stepWait (c : Nat) (r : StepRun) (s : State) : State := s.setRun c (some { r with phase := .waiting })

/-! ## Memory that a step reaches (R327, R334) -/

/-- A range lies within a memory device, and on whole lines toward part DRAM (R327). -/
def pieceOk (m : List Nat) (a n : Nat) : Bool :=
  n == 0 || (decide (eBase m ≤ a) && decide (a + n ≤ eLimit m + 1) && (eType m != 9 || (a % 64 == 0 && n % 64 == 0)))

/-- Where a step's memory lies: it must wait for its scatter list, it faults, or the pieces. -/
inductive Where where
  | wait
  | bad (result : Nat)
  | at_ (l : List (Nat × Nat))
  deriving DecidableEq, Repr

/-- The pieces of `n` bytes at ADDR of a step, its scatter list walked in the program space (R327, R334). -/
def State.pieces (c : Nat) (m : List Nat) (sgl : Bool) (a n : Nat) (s : State) : Where × State :=
  if sgl then
    match s.walkList c listFuel a n with
    | (.wait, _, _) => (.wait, s)
    | (.list l ok, bad, t) =>
      if bad then (.bad 9, t) else if !ok then (.bad 8, t)
      else if l.all fun p => pieceOk m p.1 p.2 then (.at_ l, t) else (.bad 7, t)
  else (if pieceOk m a n then .at_ [(a, n)] else .bad 7, s)

/-- Reads pieces of a memory device without the engine: what came, as a transfer's source would (R377). -/
def State.getPieces (c : Nat) (m : List Nat) (l : List (Nat × Nat)) (s : State) : Stream × State :=
  if eType m = 9 then s.srcDram (s.chan c).dma l else s.srcExt (eEndpoint m) (l.filter fun p => p.2 != 0)

/-- Writes pieces of a memory device without the engine: the bytes written, and a code (R377). -/
def State.putPieces (c : Nat) (m : List Nat) (l : List (Nat × Nat)) (bytes : List Byte) (s : State) : Nat × Nat × State :=
  if bytes.isEmpty then (0, 0, s)
  else if eType m = 9 then s.dstDram (s.chan c).dma l bytes
  else
    let mps := ((s.openLink (eEndpoint m)).map fun n => (s.link n).mps).getD 128
    s.dstExt (eEndpoint m) mps (l.filter fun p => p.2 != 0) bytes

/-- A read that a CP makes of a memory device (R327, R471). -/
def State.memRead (c : Nat) (m : List Nat) (a n : Nat) (s : State) : Got × State :=
  if eType m = 9 then
    match s.readBytes (s.cpMaster c) 0x0 a n with
    | (some l, s) => (.got l, s)
    | (none, s) => (.fail, s)
  else s.extRead (eEndpoint m) a n

/-! ## Engine transfers and chained buffers (R332, R370) -/

/-- Arms a transfer on the channel's engine, the step's last one or not; a retired engine ends the step with NOT_RUN, and an
armed shadow makes it wait (R371, R390). -/
def State.arm (c : Nat) (last : Bool) (r : StepRun) (x : DmaSet) (s : State) : State :=
  let e := (s.chan c).dma
  if (s.dma e).retired then (s.setRun c (some r)).stepFail c 0x0A 8
  else if (s.dma e).armed then s.setRun c (some { r with phase := if r.pos = 1 then .moved else .waiting })
  else (s.setRun c (some { r with phase := .dma, done := 0, pos := if last then 2 else r.pos })).dmaArm e x

/-- The pool that holds `n` bytes gives a buffer charged to an owner; the channel waits while it is empty, and a request that no
enabled pool fits ends the step with BAD_STEP (R332, R384). -/
def State.withBuf (c owner n : Nat) (r : StepRun) (go : StepRun → State → State) (s : State) : State :=
  match r.out with
  | some _ => go r s
  | none =>
    match s.poolFor n with
    | none => s.stepFail c 4 0
    | some p =>
      match s.hopRequest p owner n (.chan c) with
      | (some b, s) => let r := { r with out := some b }; go r (s.setRun c (some r))
      | (none, s) => s.setChan c { s.chan c with run := some { r with phase := .hopper }, hopWait := true }

/-- The source of a step's input: its chained buffer, or COUNT bytes at ADDR of its memory device. A transfer's words, and the
input's length; or why it cannot be (R327, R330, R332). -/
def State.inputSet (c : Nat) (r : StepRun) (fifo inst : Nat) (s : State) : Where × DmaSet × Nat :=
  let x := s.chan c
  let set := fun (src count ctl : Nat) =>
    ({ src := src, dst := inst, count := count, ctl := ctl + 10 * 16 + fifo * 256, tag := r.step.key, owner := .channel c } : DmaSet)
  match x.inBuf with
  | some b => (.at_ [], set (s.bufAddr b) (roundUp b.len 64) 0, b.len)
  | none =>
    (match s.pieces c r.memEntry r.step.sgl r.step.addr r.step.count with
     | (.at_ l, _) => .at_ l
     | (w, _) => w,
     set r.step.addr r.step.count (eSpace r.memEntry + 2 ^ 16 * b2n r.step.sgl), r.step.count)

/-- Moves a step's input to an internal FIFO, from which the step takes it when the transfer has ended (R333, R373). -/
def State.gather (c : Nat) (r : StepRun) (fifo inst : Nat) (s : State) : State :=
  match s.inputSet c r fifo inst with
  | (.wait, _, _) => s.stepWait c r
  | (.bad k, _, _) => s.stepFail c k 0
  | (.at_ _, x, _) => s.arm c false r x

/-- The bytes that a step has gathered, of the length of its input. -/
def State.gathered (s : State) (c : Nat) (r : StepRun) : List Byte :=
  match (s.chan c).inBuf with
  | some b => r.data.take b.len
  | none => r.data

/-- Stores a step's output in its chained buffer, or at ADDR, by its engine from an internal FIFO (R332, R373). -/
def State.sendOut (c : Nat) (r : StepRun) (fifo : Nat) (data : List Byte) (s : State) : State :=
  let r := { r with data := data, pos := 1, phase := .moved }
  let set := fun (dst count ctl : Nat) =>
    ({ src := if fifo = 4 then c else 0, dst := dst, count := count, ctl := ctl + 10 + fifo * 256, tag := r.step.key
       owner := .channel c } : DmaSet)
  match r.out with
  | some b =>
    let r := { r with out := some { b with len := data.length }, doneIs := some (r.doneIs.getD data.length) }
    if data.isEmpty then (s.setRun c (some r)).stepDone c ⟨0, 0, 0⟩
    else s.arm c true r (set (s.bufAddr b) (roundUp data.length 64) 0)
  | none =>
    if data.isEmpty then (s.setRun c (some r)).stepDone c ⟨0, 0, 0⟩
    else
      match (s.pieces c r.memEntry r.step.sgl r.step.addr data.length).1 with
      | .wait => s.setRun c (some r)
      | .bad k => (s.setRun c (some r)).stepFail c k 0
      | .at_ _ => s.arm c true r (set r.step.addr data.length (eSpace r.memEntry * 16 + 2 ^ 17 * b2n r.step.sgl))

/-- Stores a step's output in its chained buffer, or at ADDR, as its device does (assumption 40). -/
def State.putOut (c : Nat) (r : StepRun) (data : List Byte) (s : State) : State :=
  let e := (s.chan c).dma
  match r.out with
  | some b =>
    let s := s.writeLines (0x180 + e) 0x4 (s.bufAddr b) data
    (s.setRun c (some { r with out := some { b with len := data.length }, data := [] })).stepDone c ⟨0, 0, data.length⟩
  | none =>
    match s.pieces c r.memEntry r.step.sgl r.step.addr data.length with
    | (.wait, s) => s.setRun c (some { r with phase := .moved })
    | (.bad k, s) => s.stepFail c k 0
    | (.at_ l, s) =>
      let (d, k, s) := s.putPieces c r.memEntry l data
      s.stepDone c (if k = 0 then ⟨0, 0, d⟩ else ⟨0x0A, k, d⟩)

/-- A sealed chunk is opened under the step's key, or the step ends with AUTH (R333). -/
def State.opened (c : Nat) (r : StepRun) (chunk : List Byte) (go : List Byte → State → State) (s : State) : State :=
  match s.openChunk r.key chunk with
  | (some p, s) => go p s
  | (none, s) => s.stepFail c 0x0B 0

end Sys2Proof.Machine
end

