-- ==== Sys2Proof/Machine/Steps.lean ====
section
/-!
DEFINITION. The steps of channel programs that move data: READ, WRITE, MOVE, FILL, TRANSFORM and SUBMIT (R314, R315, R330 to R334).
-/

namespace Sys2Proof.Machine

/-! ## NVMe commands (R314, R315) -/

/-- The root port of an NVME_NS entry. -/
def eQuad (e : List Nat) : Nat := bits (ew e 1) 4 0

/-- The controller of a step: FAILED ends the step with NS_FAILED, and any state but READY makes it wait (R317, R318). -/
def State.withNvme (c : Nat) (r : StepRun) (go : Nvme → State → State) (s : State) : State :=
  let x := s.nvme (eQuad r.entry)
  if !s.serves .pawl (eQuad r.entry) r.at_ || !(s.pawl (eQuad r.entry)).running then s.stepWait c r
  else match x.st with
  | .failed => s.stepFail c 0x13 0
  | .ready => go x s
  | _ => s.stepWait c r

/-- A step's range of a namespace (R315): its size and log2 of its LBA size, where the range is whole LBAs inside it. -/
def Nvme.range (x : Nvme) (nsid off n : Nat) : Option Nat :=
  (Tbl.get? x.spaces nsid).bind fun e =>
    if off % 2 ^ e.2 = 0 ∧ n % 2 ^ e.2 = 0 ∧ off + n ≤ e.1 * 2 ^ e.2 then some e.2 else none

/-- The parts of `n` bytes that pieces hold, from an offset. -/
def cutPieces : List (Nat × Nat) → Nat → Nat → List (Nat × Nat)
  | [], _, _ => []
  | (a, k) :: t, off, n =>
    if k ≤ off then cutPieces t (off - k) n
    else
      let m := min (k - off) n
      if m = 0 then [] else (a + off, m) :: cutPieces t 0 (n - m)

/-- Offsets and lengths of commands of at most `most` bytes (R315). -/
def cutCmds (most : Nat) : Nat → Nat → Nat → List (Nat × Nat)
  | 0, _, _ => []
  | fuel + 1, off, n => if n = 0 then [] else let k := min n (max 1 most); (off, k) :: cutCmds most fuel (off + k) (n - k)

/-- Issues a step's Reads or Writes on its I/O pair, in order (R315). -/
def State.nvmeRange (c : Nat) (r : StepRun) (opcode n : Nat) (l : List (Nat × Nat)) (x : Nvme) (s : State) : State :=
  let q := eQuad r.entry
  let nsid := ew r.entry 2
  match x.range nsid r.step.offset n with
  | none => s.stepFail c 0x14 0
  | some b =>
    let cmds := cutCmds x.most (n + 1) 0 n
    let r := { r with phase := if cmds.isEmpty then .moved else .nvme, left := cmds.length
                      data := if opcode = 2 then List.replicate n 0 else [] }
    cmds.foldl (fun s k => s.nvmeIssue q
      { chan := c, admin := false, opcode := opcode, pairNo := 1 + c % max 1 x.pairs, nsid := nsid
        lba := (r.step.offset + k.1) / 2 ^ b, len := k.2, offset := k.1, pieces := cutPieces l k.1 k.2, sent := false
        issued := s.tick, aborted := false }) ((s.setRun c (some r)).pawlWork q)

/-! ## READ (R331) -/

/-- Bytes that the spec leaves open: those of a READ past the end of a frame. -/
def State.openBytes (s : State) (n : Nat) : List Byte := leBytes n (Config.freeNat s.free)

/-- What a READ has got goes where the step says: nowhere, into a chained buffer, or to ADDR (R329, R332, R333). -/
def State.readOut (c : Nat) (r : StepRun) (s : State) : State :=
  let put := fun (r : StepRun) (l : List Byte) (s : State) =>
    if r.step.skip then s.stepDone c ⟨0, 0, l.length⟩
    else if r.step.keyed then s.sendOut c r 1 l
    else s.putOut c r l
  if r.pos = 1 then put r r.data s
  else if r.step.keyed then s.opened c r r.data fun p s => put { r with pos := 1 } p s
  else put r r.data s

/-- A READ on an NVME_NS device. -/
def State.readNvme (c : Nat) (r : StepRun) (s : State) : State :=
  if r.phase = .moved then s.readOut c r
  else
    s.withNvme c r fun x s =>
      let go := fun (r : StepRun) (s : State) =>
        let l := match r.out with
          | some b => [((s.bufAddr b : Nat), r.step.count)]
          | none =>
            match (if eType r.memEntry = 9 then s.pieces c r.memEntry r.step.sgl r.step.addr r.step.count else (.at_ [], s)).1 with
            | .at_ l => if r.step.keyed then [] else l
            | _ => []
        s.nvmeRange c r 2 r.step.count l x
      if r.step.dlink then s.withBuf c (s.chan c).owner r.step.count r go else go r s

/-- A READ on an EGRESS_FLOW device: the oldest frame of the channel's receive queue, after its timestamp record, cut at COUNT
(R331). -/
def State.readFlowFrame (c : Nat) (r : StepRun) (s : State) : State :=
  if r.pos = 1 then (if r.step.skip then s.stepDone c ⟨0, 0, 0⟩ else s.sendOut c r (if r.step.keyed then 1 else 4) r.data)
  else if (s.openDev r.step.dev).isNone then s.stepFail c 0x0D 1
  else
    match (s.chan c).rx with
    | [] => s.stepWait c r
    | f :: t =>
      let go := fun (r : StepRun) (s : State) =>
        let all := f.stamp ++ f.bytes
        let r := { r with doneIs := some all.length }
        let s := (s.setChan c { s.chan c with rx := t }).setRun c (some r)
        let l := all.take r.step.count
        if r.step.skip then s.stepDone c ⟨0, 0, 0⟩
        else if r.step.keyed then s.opened c r l fun p s => s.sendOut c r 1 p
        else if r.step.dlink then s.sendOut c r 4 l
        else (s.sendOut c r 4 (l ++ s.openBytes (r.step.count - l.length))).spend
      if r.step.dlink then s.withBuf c (s.chan c).owner r.step.count r go else go r s

/-- STEP_READ (R331). -/
def execStepRead (c : Nat) (s : State) : Result :=
  .next (s.withOp c 1 fun r s => if eType r.entry = 1 then s.readNvme c r else s.readFlowFrame c r)

/-! ## WRITE (R331) -/

/-- A WRITE on an NVME_NS device: the controller reads the data where it lies (R315). -/
def State.writeNvme (c : Nat) (r : StepRun) (s : State) : State :=
  if r.phase = .moved then s.stepDone c ⟨0, 0, r.done⟩
  else
    match (s.chan c).inBuf with
    | some b => s.withNvme c r fun x s => s.nvmeRange c r 1 b.len [(s.bufAddr b, b.len)] x
    | none =>
      match s.pieces c r.memEntry r.step.sgl r.step.addr r.step.count with
      | (.wait, _) => s.stepWait c r
      | (.bad k, s) => s.stepFail c k 0
      | (.at_ l, t) =>
        s.withNvme c r fun x s =>
          if eType r.memEntry = 9 then t.nvmeRange c r 1 r.step.count l x
          else
            match t.getPieces c r.memEntry l with
            | (.wait, _) => s.stepWait c r
            | (.bytes _ 0, t) => t.nvmeRange c r 1 r.step.count [] x
            | (.bytes _ k, t) => t.stepFail c 0x0A k

/-- A frame of a channel joins its device's lane, once the lane has room (R219, R331). -/
def State.writeFlow (c : Nat) (r : StepRun) (s : State) : State :=
  match s.openDev r.step.dev with
  | none => s.stepFail c 0x0D 1
  | some (l, x) =>
    if x.closing then s.stepFail c 0x0D 1
    else if r.phase ≠ .moved then
      let n := match (s.chan c).inBuf with
        | some b => b.len
        | none => r.step.count
      if n < 60 ∨ 9596 < n then s.stepFail c 4 0 else s.gather c r 3 l
    else
      let f := s.gathered c r
      let y := { x with frames := x.frames ++ [(f, s.tick)] }
      let t := s.setLane l y
      if y.maxSegs < t.laneNeed l ∨ s.laneWaits l then s
      else
        let s := ((t.setRun c (some { r with sent := true })).laneFit l).laneFeed l 2
        s.stepDone c ⟨0, 0, f.length⟩

/-- A WRITE on an INGEST device: into the session's ingest window, on whole lines (R65, R331). -/
def State.writeIngest (c : Nat) (r : StepRun) (s : State) : State :=
  let x := s.ses (eSession r.entry)
  let d := x.desc
  if x.st = .free then s.stepFail c 0x0D 1
  else
    match s.inputSet c r 0 0 with
    | (.wait, _, _) => s.stepWait c r
    | (.bad k, _, _) => s.stepFail c k 0
    | (.at_ _, set, n) =>
      if r.step.offset % 64 ≠ 0 ∨ n % 64 ≠ 0 ∨ dSlots d * dStride d < r.step.offset + n then s.stepFail c 7 0
      else s.arm c true r { set with dst := dIngest d + r.step.offset, ctl := bits set.ctl 3 0 + (if bitOf set.ctl 16 then 2 ^ 16 else 0) }

/-- A WRITE on a DEC_SESSION device: stream bytes, held in Hopper buffers of the session's owner (R179). -/
def State.writeDec (c : Nat) (r : StepRun) (s : State) : State :=
  let n := eSession r.entry
  let x := s.dec n
  if x.st = .free ∨ x.st = .stopping ∨ eeNet x.desc then s.stepFail c 0x0D 1
  else if r.phase ≠ .moved then
    let len := match (s.chan c).inBuf with
      | some b => b.len
      | none => r.step.count
    s.withBuf c (eeOwner x.desc) len r fun r s => s.gather c r 2 n
  else
    let l := s.gathered c r
    let s := match r.out with
      | some b => s.writeLines (0x180 + (s.chan c).dma) 0x4 (s.bufAddr b) l
      | none => s
    let s := s.decInput n l (r.out.map fun b => { b with len := l.length }) (bitOf r.step.p0 0)
    (s.setRun c (some { r with out := none })).stepDone c ⟨0, 0, l.length⟩

/-- STEP_WRITE (R331). -/
def execStepWrite (c : Nat) (s : State) : Result :=
  .next (s.withOp c 2 fun r s =>
    let t := eType r.entry
    if t = 1 then s.writeNvme c r else if t = 2 then s.writeIngest c r else if t = 3 then s.writeFlow c r else s.writeDec c r)

/-! ## MOVE and FILL (R330) -/

/-- A MOVE: one transfer from DEV to its MEMDEV, or a sealed chunk opened on the way (R330, R333). -/
def State.move (c : Nat) (r : StepRun) (s : State) : State :=
  let src := r.step.offset
  let n := r.step.count
  if r.pos = 1 ∧ r.step.keyed then s.sendOut c r 1 r.data
  else if r.phase = .moved then s.opened c r r.data fun p s => s.sendOut c r 1 p
  else if !pieceOk r.entry src n then s.stepFail c 7 0
  else if r.step.keyed then
    s.arm c false r { src := src, dst := 0, count := n, ctl := eSpace r.entry + 10 * 16, tag := r.step.key, owner := .channel c }
  else
    match (s.pieces c r.memEntry r.step.sgl r.step.addr n).1 with
    | .wait => s.stepWait c r
    | .bad k => s.stepFail c k 0
    | .at_ _ => s.arm c true r
        { src := src, dst := r.step.addr, count := n, ctl := eSpace r.entry + eSpace r.memEntry * 16 + 2 ^ 17 * b2n r.step.sgl
          tag := r.step.key, owner := .channel c }

/-- STEP_MOVE (R330). -/
def execStepMove (c : Nat) (s : State) : Result := .next (s.withOp c 3 (State.move c))

/-- A FILL: every 32-bit word of COUNT bytes at ADDR becomes PARAM0 (R330). -/
def State.fill (c : Nat) (r : StepRun) (s : State) : State :=
  match s.pieces c r.entry r.step.sgl r.step.addr r.step.count with
  | (.wait, _) => s.stepWait c r
  | (.bad k, s) => s.stepFail c k 0
  | (.at_ l, s) =>
    let bytes := ((List.replicate (ceilDiv r.step.count 4) (leBytes 4 r.step.p0)).flatten).take r.step.count
    let (d, k, s) := s.putPieces c r.entry l bytes
    s.stepDone c (if k = 0 then ⟨0, 0, d⟩ else ⟨0x0A, k, d⟩)

/-- STEP_FILL (R330). -/
def execStepFill (c : Nat) (s : State) : Result := .next (s.withOp c 0xD (State.fill c))

/-! ## TRANSFORM (R211, R332, R333) -/

/-- A CRYPTO transform: its input opened, and the plaintext sent on within PARAM0 bytes (R332, R333). -/
def State.decrypt (c : Nat) (r : StepRun) (s : State) : State :=
  if r.pos = 1 then s.sendOut c r 1 r.data
  else if r.phase = .moved then
    s.opened c r (s.gathered c r) fun p s => if r.step.p0 < p.length then s.stepFail c 0x0C 6 else s.sendOut c r 1 p
  else s.gather c r 0 0

/-- An asset runner holds an image. -/
def State.assetHas (s : State) (id : Nat) : Bool :=
  (List.range s.part.runnersUse).any fun l => (s.assign l).side == 3 &&
    match s.runnerOf l with
    | some n => (s.runner n).lib.any fun k => (s.lib k).valid && (s.lib k).id == id
    | none => false

/-- A transform's default dictionary: a non-zero PARAM1, or else the entry's DICT (R209, R330). -/
def dictOf (r : StepRun) : Nat := if r.step.p1 ≠ 0 then r.step.p1 else ew r.entry 2

/-- The enabled entries of the dictionary table, the lowest first: ID, address and length (R212, R214). -/
def State.dicts (s : State) : List (Nat × Nat × Nat) :=
  (List.range 64).filterMap fun i =>
    let w := s.reg (Reg.runDictLen i)
    let n := fld w 20 0
    if flag w 31 ∧ 0 < n ∧ n ≤ 1048576 then some ((s.reg (Reg.runDictId i)).toNat, 64 * fld (s.reg (Reg.runDictAddr i)) 29 0, n) else none

/-- A transform that cannot begin or that its data ends: XFORM with a code of R211, and XFORM_ERR. -/
def State.xformFail (c code done : Nat) (s : State) : State :=
  (s.raiseErr .runners0 0 7 Cap.none).stepDone c ⟨0x0C, code, done⟩

/-- A transform joins the asset queue with its XSLOT, its input, and the dictionaries as they stand (R193, R212, R332). -/
def State.xformJoin (c : Nat) (r : StepRun) (input : List Byte) (s : State) : State :=
  let s := s.setRun c (some { r with phase := .xform, pos := 3, data := [], done := 0 })
  let q : XForm := { chan := c, id := eImage r.entry, slot := eXslot r.entry, dict := dictOf r, input := input, pos := 0, dicts := s.dicts
                     frame := none }
  { s with runners := { s.runners with queue := s.runners.queue ++ [q] } }

/-- A transform's input is read where it lies: a DRAM line that fails ends it with CORRUPT, another failed read with DMA_ERR
(R405). -/
def State.xformInput (c : Nat) (r : StepRun) (s : State) : State :=
  if r.step.keyed then s.gather c r 0 0
  else
    match (s.chan c).inBuf with
    | some b =>
      match s.srcDram (s.chan c).dma [(s.bufAddr b, roundUp b.len 64)] with
      | (.bytes l 0, s) => s.xformJoin c r (l.take b.len)
      | (_, s) => s.xformFail c 4 0
    | none =>
      match s.pieces c r.memEntry r.step.sgl r.step.addr r.step.count with
      | (.wait, _) => s.stepWait c r
      | (.bad k, s) => s.stepFail c k 0
      | (.at_ l, t) =>
        match t.getPieces c r.memEntry l with
        | (.wait, _) => s.stepWait c r
        | (.bytes l 0, s) => s.xformJoin c r l
        | (.bytes _ k, s) => if k = 3 then s.xformFail c 4 0 else s.stepFail c 0x0A k

/-- A transform on asset runners: its output buffer, its XSLOT, its input, its blocks, and its output (R332, R451). -/
def State.xform (c : Nat) (r : StepRun) (s : State) : State :=
  if r.phase = .moved ∧ r.pos = 3 then s.putOut c { r with doneIs := some r.data.length } r.data
  else if r.phase = .moved then s.opened c r (s.gathered c r) fun p s => s.xformJoin c r p
  else if !s.assetHas (eImage r.entry) then s.xformFail c 8 0
  else
    let go := fun (r : StepRun) (s : State) =>
      if s.runners.queue.any fun q => q.slot == eXslot r.entry && q.chan != c then s.stepWait c r else s.xformInput c r
    if r.step.dlink then s.withBuf c (s.chan c).owner r.step.p0 r go else go r s

/-- STEP_TRANSFORM (R332). -/
def execStepTransform (c : Nat) (s : State) : Result :=
  .next (s.withOp c 6 fun r s => if eType r.entry = 7 then s.decrypt c r else s.xform c r)

/-! ## SUBMIT (R314) -/

/-- A command of the set that SUBMIT may pass (R314). -/
def submitOk (admin : Bool) (l : List Byte) : Bool :=
  let op := leAt l 0 1
  let d10 := leAt l 40 4
  let d11 := leAt l 44 4
  let plain := leAt l 16 8 == 0 && bits (leAt l 0 4) 9 8 == 0
  if admin then
    plain && ((op == 2 && (d10 % 256 == 1 || d10 % 256 == 2)) || (op == 6 && decide (d10 % 256 ≤ 2)) ||
      ((op == 9 || op == 10) && [1, 4, 6, 8].contains (d10 % 256)))
  else plain && (op == 0 || ((op == 1 || op == 2) && bits (leAt l 48 4) 29 26 == 0) ||
    (op == 9 && d11 == 4 && decide (d10 % 256 < 256)))

/-- What a SUBMIT has brought goes to the address in its PRP1 field. -/
def State.submitOut (c : Nat) (r : StepRun) (s : State) : State :=
  if r.data.isEmpty then s.stepDone c ⟨0, 0, r.done⟩
  else
    let (_, k, s) := s.putPieces c r.memEntry [(r.mark, r.data.length)] r.data
    s.stepDone c (if k = 0 then ⟨0, 0, r.done⟩ else ⟨0x0A, k, 0⟩)

/-- The data that a SUBMIT's command sends to the controller, read where PRP1 says: it must wait, or a code ends the step (R314, R342).
Data in part DRAM is the controller's to read. -/
def State.submitIn (c : Nat) (r : StepRun) (a n : Nat) (reads : Bool) (s : State) : Option (Nat × State) :=
  if reads ∨ n = 0 ∨ eType r.memEntry = 9 then some (0, s)
  else
    match s.getPieces c r.memEntry [(a, n)] with
    | (.wait, _) => none
    | (.bytes _ k, s) => some (k, s)

/-- A SUBMIT's command is issued (R314): the pawl sets CID, NSID and the PRPs. `s0` is the state before the command was read, where the
step waits while its data is not there. -/
def State.submitGo (c : Nat) (r : StepRun) (l : List Byte) (x : Nvme) (s0 s : State) : State :=
  let admin := bitOf r.step.p0 0
  let a := leAt l 24 8
  let n := r.step.count
  if !submitOk admin l then s.stepFail c 0x14 0
  else if !pieceOk r.memEntry a n then s.stepFail c 7 0
  else
    match s.submitIn c r a n (bitOf (leAt l 0 1) 1) with
    | none => s0.stepWait c r
    | some (k, s) =>
    if k ≠ 0 then s.stepFail c 0x0A k
    else
    let cmd : NvmeCmd := { chan := c, admin := admin, opcode := leAt l 0 1, pairNo := if admin then 0 else 1 + c % max 1 x.pairs
                           nsid := ew r.entry 2, lba := leAt l 40 8, len := n, offset := 0
                           pieces := if eType r.memEntry = 9 then [(a, n)] else [], sent := false, issued := s.tick
                           aborted := false }
    let r := { r with phase := .nvme, left := 1, sent := true, mark := a, data := if cmd.reads then List.replicate n 0 else [] }
    ((s.setRun c (some r)).pawlWork (eQuad r.entry)).nvmeIssue (eQuad r.entry) cmd

/-- A SUBMIT (R314): the 64-byte command at ADDR, and for a write its data. -/
def State.submit (c : Nat) (r : StepRun) (s : State) : State :=
  if r.phase = .moved then s.submitOut c r
  else if !(decide (eBase r.memEntry ≤ r.step.addr) && decide (r.step.addr + 64 ≤ eLimit r.memEntry + 1)) then s.stepFail c 7 0
  else
    s.withNvme c r fun x s =>
      match s.memRead c r.memEntry r.step.addr 64 with
      | (.wait, _) => s.stepWait c r
      | (.fail, t) => t.stepFail c (if eType r.memEntry = 9 then 9 else 0x0A) (if eType r.memEntry = 9 then 0 else 2)
      | (.got l, t) => s.submitGo c r l x t

/-- STEP_SUBMIT (R314). -/
def execStepSubmit (c : Nat) (s : State) : Result := .next (s.withOp c 7 (State.submit c))

end Sys2Proof.Machine
end

