-- ==== Sys2Proof/Machine/Programs.lean ====
section
/-!
DEFINITION. The other steps of channel programs: SENSE, CONTROL of ingest and egress devices, WAIT, SIGNAL, JUMP, TEST, REGLOAD, NOP,
END and the extension call; the end of a step and its TIMEOUT (R322, R330, R331, R335 to R342, R355); and the ends of engine transfers
and of waits for the Hopper (R377, R386).
-/

namespace Sys2Proof.Machine

/-! ## SENSE (R331) -/

/-- The register words of a sense block, for a session, lane, flow or namespace selected on a scratch copy (R331). -/
def State.senseWords (s : State) (c : Nat) (e : List Nat) : List Word :=
  let t := eType e
  let live := fun (s : State) (l : List Nat) => l.map (s.liveWord .i3c)
  let n := eSession e
  let q := bits (ew e 1) 4 0
  if t = 1 then live (s.setReg (Reg.nvmeNsSel q) (word (ew e 2)))
    [Reg.nvmeStat q, Reg.nvmeNsSizeLo q, Reg.nvmeNsSizeHi q, Reg.nvmeNsLba q, Reg.nvmeCmds q, Reg.nvmeErrs q, Reg.nvmeResets q]
  else if t = 2 then live (s.setReg Reg.sesSel (word n)) [Reg.sesState, Reg.sesRdFrame, Reg.sesLines, Reg.sesDbDrop]
  else if t = 3 then
    live ((s.setReg Reg.leatSel (word (bits (ew e 1) 8 0))).setReg Reg.sluFlowSel (word (eFlow e)))
      [Reg.leatLstat, Reg.leatLive, Reg.leatSegs, Reg.sluFlowStat, Reg.sluFlowCredit, Reg.sluFlowPkts] ++ [word (s.chan c).rx.length]
  else if t = 4 then
    live (((s.setReg Reg.sesSel (word n)).setReg Reg.govSel (word n)).setReg Reg.pktSel (word n))
      [Reg.sesState, Reg.sesFrame, Reg.sesRdFrame, Reg.sesDebtUs, Reg.sesLate, Reg.govRate, Reg.pktSeq]
  else if t = 5 then
    live (s.setReg (Reg.decSesSel 0) (word n))
      [Reg.decSesState 0, Reg.decSesPics 0, Reg.decSesOut 0, Reg.decSesConcealed 0, Reg.decSesPktDrop 0, Reg.decSesOutWait 0,
       Reg.decSesAuBytes 0]
  else []

/-- The state field of a sense block's word 1, which LEAT_LSTAT does not name (assumption 41). -/
def State.senseState (s : State) (e : List Nat) (w : Word) : Nat :=
  let t := eType e
  if t = 3 then s.freeBelow 256 else if t = 1 ∨ t = 2 ∨ t = 4 ∨ t = 5 then fld w 2 0 else 0

/-- A sense block (R331). -/
def State.senseBlock (s : State) (c : Nat) (e : List Nat) : List Byte :=
  let l := s.senseWords c e
  leBytes 4 (eType e + s.senseState e (l.headD 0) * 16) ++ padTo 28 (l.flatMap fun w => leBytes 4 w.toNat)

/-- A SENSE step: the block at ADDR, and the rest of its line toward part DRAM as zeros (R330, R331). -/
def State.sense (c : Nat) (r : StepRun) (s : State) : State :=
  let dram := eType r.memEntry == 9
  if !pieceOk r.memEntry r.step.addr (if dram then 64 else 32) then s.stepFail c 7 0
  else
    let b := s.senseBlock c r.entry
    let s := if eType r.entry = 3 then s.spend else s
    let (_, k, s) := if dram then
        let s := s.writeLines (s.cpMaster c) 0x1 r.step.addr b
        (64, 0, s)
      else s.putPieces c r.memEntry [(r.step.addr, 32)] b
    s.stepDone c (if k = 0 then ⟨0, 0, 32⟩ else ⟨0x0A, k, 0⟩)

/-- STEP_SENSE (R331). -/
def execStepSense (c : Nat) (s : State) : Result := .next (s.withOp c 5 (State.sense c))

/-! ## CONTROL on INGEST and EGRESS_FLOW devices (R331) -/

/-- A CONTROL step ends with a code of R59. -/
def State.controlEnd (c code : Nat) (s : State) : State := s.stepDone c ⟨if code = 0 then 0 else 0x0D, code, 0⟩

/-- Does a CONTROL command of a device type. -/
def State.withControl (c typ cmd : Nat) (f : StepRun → State → State) (s : State) : State :=
  s.withOp c 4 fun r s => if eType r.entry = typ ∧ r.step.p0 % 256 = cmd then f r s else s

/-- INGEST_DOORBELL (R67, R331). -/
def execIngestDoorbell (c : Nat) (s : State) : Result :=
  .next (s.withControl c 2 1 fun r s =>
    (s.stripe (dRenderer (s.ses (eSession r.entry)).desc) (word r.step.p1)).controlEnd c 0)

/-- OPEN (R217, R219, R286, R331): the flow description is read, the lane opened with MAX_SEGS, and the flow bound. -/
def State.egressOpen (c : Nat) (r : StepRun) (s : State) : State :=
  let l := eLane r.entry
  let f := eFlow r.entry
  if (s.lane l).isOpen ∨ (s.flow? f).isSome then s.controlEnd c 1
  else
    match s.readBytes 0x126 0x0 (s.reg64 Reg.sluFlowBaseLo + 16 * f) 16 with
    | (none, s) => s.controlEnd c 3
    | (some b, s) =>
      let d := flowDesc b
      if 4 * s.part.quads ≤ d.port ∧ d.port < 96 then s.controlEnd c 7
      else if !s.flowOk d then s.controlEnd c 3
      else if !s.leatRoom (eMaxSegs r.entry) then s.controlEnd c 4
      else
        let s := s.laneOpen l r.step.dev (eMaxSegs r.entry) true
        let s := s.setLane l { s.lane l with entry := r.entry }
        (s.flowBind f d (.device r.step.dev)).controlEnd c 0

/-- EGRESS_OPEN. -/
def execEgressOpen (c : Nat) (s : State) : Result := .next (s.withControl c 3 1 (State.egressOpen c))

/-- CLOSE begins: the lane takes no further frame, and the step waits until it is empty (R331). -/
def State.egressClose (c : Nat) (r : StepRun) (s : State) : State :=
  match s.openDev r.step.dev with
  | none => s.controlEnd c 1
  | some (l, x) => (s.setLane l { x with closing := true }).setRun c (some { r with phase := .close, sent := true })

/-- EGRESS_CLOSE. -/
def execEgressClose (c : Nat) (s : State) : Result := .next (s.withControl c 3 2 (State.egressClose c))

/-- The steps whose CLOSE waits for a device. -/
def State.closers (s : State) (dev : Nat) : List Nat :=
  (s.chans.filter fun e => e.2.run.any fun r => r.phase == .close && r.step.dev == dev).map (·.1)

/-- EGRESS_CLOSE_DONE (R331): a closing lane and its flow hold nothing more; the lane is closed and its flow unbound. -/
def State.egressClosed (dev : Nat) (s : State) : State :=
  match s.openDev dev with
  | none => s
  | some (l, x) =>
    let f := s.deviceFlow dev
    let busy := (f.bind s.flow?).any fun y => !y.pkts.isEmpty
    if !s.coreUp || !x.closing || x.linkedBytes != 0 || busy then s
    else
      let who := s.closers dev
      let s := s.laneClose l
      let s := match f with
        | some f => s.flowUnbind f
        | none => s
      who.foldl (fun s c => s.endStep c ⟨0, 0, 0⟩) s

/-- EGRESS_CLOSE_DONE. -/
def execEgressCloseDone (dev : Nat) (s : State) : Result := .next (s.egressClosed dev)

/-- EGRESS_FLUSH (R223, R331). -/
def execEgressFlush (c : Nat) (s : State) : Result :=
  .next (s.withControl c 3 3 fun r s =>
    match s.openDev r.step.dev with
    | none => s.controlEnd c 1
    | some (l, _) => (s.leatFlush l).controlEnd c 0)

/-! ## WAIT, SIGNAL, JUMP, TEST, NOP, END (R330, R335 to R337) -/

/-- A WAIT step: it takes one from the source's count, or waits for a message (R335). -/
def State.waitFor (c : Nat) (r : StepRun) (s : State) : State :=
  let src := r.step.p0 % 4096
  let n := Tbl.getD s.wcnt src 0
  if r.phase ≠ .start then s
  else if n ≠ 0 then ({ s with wcnt := Tbl.set s.wcnt src (n - 1) }).stepDone c ⟨0, 0, 0⟩
  else { s.setChan c { s.chan c with st := .waiting, run := some { r with phase := .waiting } } with waits := s.waits ++ [(src, c)] }

/-- STEP_WAIT (R335). -/
def execStepWait (c : Nat) (s : State) : Result := .next (s.withOp c 8 (State.waitFor c))

/-- A SIGNAL step: its message is accepted, once its input has room, and the step is complete (R336, R363). -/
def State.signal (c : Nat) (r : StepRun) (s : State) : State :=
  if s.inputFull .signal then s
  else
  let p := r.step.p0
  let s := s.stepDone c ⟨0, 0, 0⟩
  if 3072 ≤ p % 4096 then s.send .signal (p % 4096) .soft
  else
    match chanAction (p / 4096 % 16) with
    | some act => s.chanCmd act .signal (p % 1024)
    | none => s

/-- STEP_SIGNAL (R336). -/
def execStepSignal (c : Nat) (s : State) : Result := .next (s.withOp c 9 (State.signal c))

/-- STEP_JUMP (R330). -/
def execStepJump (c : Nat) (s : State) : Result := .next (s.withOp c 0xA fun _ s => s.stepDone c ⟨0, 0, 0⟩)

/-- STEP_NOP (R330). -/
def execStepNop (c : Nat) (s : State) : Result := .next (s.withOp c 0xE fun _ s => s.stepDone c ⟨0, 0, 0⟩)

/-- STEP_END (R330). -/
def execStepEnd (c : Nat) (s : State) : Result := .next (s.withOp c 0xF fun _ s => s.stepDone c ⟨0, 0, 0⟩)

/-- A TEST step has its value: on a match the program continues with the step after next (R337). -/
def State.tested (c : Nat) (r : StepRun) (v : Nat) (s : State) : State :=
  (s.setRun c (some { r with pos := if v &&& r.step.p1 = r.step.p0 then 1 else 0 })).stepDone c ⟨0, 0, 0⟩

/-- A TEST step (R337): the word at ADDR, with its whole line toward part DRAM, or the previous RESULT. -/
def State.test (c : Nat) (r : StepRun) (s : State) : State :=
  if r.step.count = 0 then s.tested c r (s.chan c).result
  else if !(decide (eBase r.entry ≤ r.step.addr) && decide (r.step.addr + 4 ≤ eLimit r.entry + 1)) then s.stepFail c 7 0
  else
    match s.memRead c r.entry r.step.addr 4 with
    | (.wait, _) => s.stepWait c r
    | (.fail, s) => if eType r.entry = 9 then s.stepFail c 9 0 else s.stepFail c 0x0A 2
    | (.got l, s) => s.tested c r (leNat l)

/-- STEP_TEST (R337). -/
def execStepTest (c : Nat) (s : State) : Result := .next (s.withOp c 0xB (State.test c))

/-! ## REGLOAD (R338, R339) -/

/-- A REGLOAD meets a reserved location: REG_FAULT with the low 16 bits of its address (R36, R339). -/
def State.regFault (c a : Nat) (s : State) : State := s.stepFail c 0x16 (a % 65536)

/-- Applies the records of a REGLOAD image from where it stands, up to a POLL that does not match (R339). -/
def State.loadGo (c : Nat) : Nat → State → State
  | 0, s => s
  | fuel + 1, s =>
    match (s.chan c).run with
    | none => s
    | some r =>
      let l := r.data.drop r.pos
      let on := fun (k : Nat) (s : State) => s.setRun c (((s.chan c).run).map fun r => { r with pos := r.pos + k, sent := true })
      if l.isEmpty then s.stepDone c ⟨0, 0, r.step.count⟩
      else if recPoll l then
        let a := recAddr l
        if !s.readable a then ((s.accFault (Cap.regRead .regload a)).accIbi a).regFault c a
        else
          let (w, s) := s.readWord .regload a
          if w.toNat &&& leAt l 4 4 = leAt l 8 4 then (on 12 s).loadGo c fuel
          else s.setRun c (some { r with phase := .poll, sent := true, mark := s.tick })
      else
        match s.loadRun (recWords l) (recAddr l) with
        | (none, s) => (on (recLen l) s).loadGo c fuel
        | (some a, s) => s.regFault c a

/-- A REGLOAD step (R338, R339): it takes its turn on the path, reads its whole image, and applies its records. -/
def State.regload_ (c : Nat) (r : StepRun) (s : State) : State :=
  let n := r.step.count
  let a := r.step.addr
  let s := if s.regload.contains c then s else { s with regload := s.regload ++ [c] }
  if !(s.chan c).priv then s.stepFail c 0x0E 0
  else if n ≠ 0 ∧ ¬(eBase r.memEntry ≤ a ∧ a + n ≤ eLimit r.memEntry + 1) then s.stepFail c 7 0
  else if s.regload.head? ≠ some c then s.stepWait c r
  else
    match s.memRead c r.memEntry a n with
    | (.wait, _) => s.stepWait c r
    | (.fail, s) => if eType r.memEntry = 9 then s.stepFail c 9 0 else s.stepFail c 0x0A 2
    | (.got l, s) =>
      if !recsFit (n / 4 + 1) l then s.stepFail c 4 0
      else (s.setRun c (some { r with data := l, pos := 0 })).loadGo c (n / 4 + 1)

/-- STEP_REGLOAD (R338, R339). -/
def execStepRegload (c : Nat) (s : State) : Result := .next (s.withOp c 0xC (State.regload_ c))

/-- REGLOAD_POLL (R339): 1 µs after its last read a POLL reads its register again. -/
def State.pollAgain (c : Nat) (s : State) : State :=
  match (s.chan c).run with
  | none => s
  | some r =>
    if s.coreUp ∧ r.phase = .poll ∧ r.fin.isNone ∧ r.ending.isNone then
      (s.reach (r.mark + usTicks 1)).loadGo c (r.step.count / 4 + 1)
    else s

/-- REGLOAD_POLL. -/
def execRegloadPoll (c : Nat) (s : State) : Result := .next (s.pollAgain c)

/-! ## The extension call (R355, R356) -/

/-- The 32 bytes of a step (R328). -/
def Step.bytes (x : Step) : List Byte :=
  leBytes 4 (x.op + 256 * x.flags + 65536 * x.dev) ++ leBytes 4 x.count ++ leBytes 8 x.addr ++ leBytes 4 x.p0 ++ leBytes 4 x.p1 ++
    leBytes 2 x.key ++ leBytes 2 x.timeout ++ leBytes 4 x.retry

/-- XCALL of an extension entry (R355): the step in data memory, W0 the channel, P0 its address; after a takeover or a move word
12,417 runs first (R356). -/
def Cp.extCall (x : Cp) (c entry now : Nat) (bytes : List Byte) : Cp :=
  let y := ((x.store 0xFF00 bytes).setW 0 (word c)).setP 0 0xFF00#32
  let y := { y with fl := setFl y.fl 4 true, sleep := false, call := some ⟨c, now⟩, extInit := false }
  if x.extInit then { y with stack := (entry, false) :: (x.pc, true) :: x.stack, pc := 12417 }
  else { y with stack := (x.pc, true) :: x.stack, pc := entry }

/-- An extension step (R330, R355). -/
def State.extStep (c : Nat) (r : StepRun) (s : State) : State :=
  match s.physOf (s.chan c).lcp with
  | none => s
  | some n =>
    let x := s.cp n
    let entry := (x.wordAt (12288 + (r.step.op - 0x80))).toNat
    if !x.ext || entry == 0 then s.stepFail c 3 0
    else if x.call.isSome || !x.imms.isEmpty || x.rep || x.latch.isSome then s
    else if 15 ≤ x.stack.length then s.cpTrap n .stack 0
    else
      (((s.setCp n (x.extCall c entry s.tick r.step.bytes)).wrap (Reg.cpExtCalls n) 1)).setRun c (some { r with phase := .ext })

/-- STEP_EXTENSION (R355). -/
def execStepExtension (c : Nat) (s : State) : Result :=
  .next (match (s.chan c).run with
    | none => s
    | some r => if 0x80 ≤ r.step.op then s.withOp c r.step.op (State.extStep c) else s)

/-! ## The end of a step (R322, R340 to R342) -/

/-- A step has no transfer, NVMe command or extension call under way. -/
def StepRun.quiet (r : StepRun) : Bool := !(r.phase == .dma || r.phase == .nvme || (r.phase == .ext && r.fin.isNone))

/-- STEP_COMPLETE: the step ends as a STOP or a TIMEOUT asked, with the result it was given, or with OK once its last transfer has
ended (R322, R340 to R342). -/
def State.complete (c : Nat) (s : State) : State :=
  match (s.chan c).run with
  | none => s
  | some r =>
    if !s.coreUp || !r.quiet then s
    else
      match r.ending, r.fin with
      | some 1, _ => (s.stepLeave c).stopped c
      | some k, _ => s.stepDone c ⟨k, 0, r.done⟩
      | none, some e => s.stepDone c e
      | none, none => if r.phase = .moved ∧ r.pos = 2 then s.stepDone c ⟨0, 0, r.done⟩ else s

/-- STEP_COMPLETE. -/
def execStepComplete (c : Nat) (s : State) : Result := .next (s.complete c)

/-- STEP_TIMEOUT (R317, R340): the step ends as a STOP would end it; a WAIT takes nothing, and a step that waits for its controller
ends with NS_FAILED. -/
def State.stepTimeout (c : Nat) (s : State) : State :=
  match (s.chan c).run with
  | none => s
  | some r =>
    if !s.coreUp || r.step.timeout == 0 || r.fin.isSome || r.ending.isSome then s
    else
      let s := s.reach (r.at_ + usTicks r.step.timeout)
      let s := { s with waits := s.waits.filter fun w => w.2 != c }
      let s := if (s.chan c).st = .waiting then s.setChan c { s.chan c with st := .active } else s
      let waits := r.phase == .waiting && eType r.entry == 1 && (s.nvme (eQuad r.entry)).st != .ready
      s.stopActive c (if waits then 0x13 else 2)

/-- STEP_TIMEOUT. -/
def execStepTimeout (c : Nat) (s : State) : Result := .next (s.stepTimeout c)

/-! ## Engines and the Hopper (R377, R386) -/

/-- DMA_TRANSFER_END. -/
def execDmaTransferEnd (e : Nat) (s : State) : Result := .next (s.dmaFinish e)

/-- A granted buffer reaches its requester. -/
def State.hopDeliver (w : HopWait) (b : Buf) (s : State) : State :=
  match w.who with
  | .chan c =>
    match (s.chan c).run with
    | some r => s.setChan c { s.chan c with run := some { r with out := some b, phase := .start }, hopWait := false }
    | none => s.hopFree b
  | .leat q lane => let l := 2 * q + lane; (s.setLane l { s.lane l with segs := (s.lane l).segs ++ [b] }).laneFit l
  | .dec n => s.setDec n { s.dec n with inBufs := (s.dec n).inBufs ++ [b] }

/-- HOP_GRANT (R385, R386): a freed buffer goes to a waiting owner below its reserve, else to the head of the queue. -/
def State.hopGrant (p : Nat) (s : State) : State :=
  match s.hopNext p with
  | none => s
  | some w =>
    if s.works .hopper 0 ∧ s.memServes then
      match s.hopGive p w.owner (poolSize p) with
      | (some b, s) => (s.setPool p { s.pool p with waiters := (s.pool p).waiters.erase w }).hopDeliver w b
      | (none, s) => s
    else s

/-- HOP_GRANT. -/
def execHopGrant (pool : Nat) (s : State) : Result := .next (s.hopGrant pool)

/-- The master ID of a waiting requester (R386, R471). -/
def State.hopMasterOf (s : State) (w : HopWait) : Nat :=
  match w.who with
  | .chan c => s.cpMaster c
  | .leat _ _ => 0x124
  | .dec n => 0x40 + eePipe (s.dec n).desc

/-- HOP_WAIT_LONG (R386): once for each request that has waited HOP_WAIT_LIMIT_US. -/
def State.hopLong (p : Nat) (s : State) : State :=
  let us := fld (s.reg Reg.hopWaitLimitUs) 23 0
  match (s.pool p).waiters.find? fun w => !w.long with
  | none => s
  | some w =>
    if us = 0 ∨ !s.coreUp then s
    else
      let s := s.reach (w.since + usTicks us)
      let s := s.setPool p { s.pool p with waiters := (s.pool p).waiters.map fun v => if v = w then { v with long := true } else v }
      let n := Tbl.getD s.hop.waits w.owner 0
      let s := { s with hop := { s.hop with waits := Tbl.set s.hop.waits w.owner (sat32 (n + 1)) } }
      (s.raiseErr .hopper 0 4 (Cap.mem (w.owner % 64 + 256 * p) (s.hopMasterOf w) 0xF)).raiseInt .hopper 0 1 0

/-- HOP_WAIT_LONG. -/
def execHopWaitLong (pool : Nat) (s : State) : Result := .next (s.hopLong pool)

/-! ## DRAM_LINE_READ (R405) -/

/-- Where an address lies in the reference pool's buffers (R147, R148): the buffer, and the 64 × 64 block; none for its LOST
map. -/
def State.refPlace (s : State) (a : Nat) : Option (Nat × Option Nat) :=
  (List.range 16).findSome? fun i =>
    let size := s.clsBufSize i
    let n := s.clsW i * s.clsH i
    let b := s.clsB i
    if s.clsEn i && decide (s.clsBase i ≤ a) && decide (a < s.clsBase i + s.clsBufs i * size) then
      let k := bufKey i ((a - s.clsBase i) / size)
      let off := (a - s.clsBase i) % size
      if off < 4096 * n * b then some (k, some (off / (4096 * b)))
      else if off < 6144 * n * b then some (k, some ((off - 4096 * n * b) / (2048 * b)))
      else if off < 6144 * n * b + 256 * n then some (k, some ((off - 6144 * n * b) / 256))
      else some (k, none)
    else none

/-- What the requester of a line that has failed does (R93, R100, R165, R168, R221, R377, R405). The other requesters' policies act where their
own commands read the line. -/
def State.linePolicy (master acc a : Nat) (s : State) : State :=
  if master < 0x22 then
    match s.refPlace a with
    | some (k, some j) =>
      ((s.bump (Reg.stoneRefLost master)).raiseErr .stone master 2 (Cap.mem a master acc)).refRegion k [j]
    | _ => s
  else if 0x40 ≤ master ∧ master < 0x48 then
    let y := s.pipe (master - 0x40)
    if y.busy then s.setPipe (master - 0x40) { y with bad := y.bad ++ [a / 64 * 64] } else s
  else if 0x100 ≤ master ∧ master < 0x110 then
    (s.bump (Reg.bolterRderr (master - 0x100))).raiseErr .bolter (master - 0x100) 0 (Cap.mem a master acc)
  else if master = 0x124 then
    match s.leat.lanes.find? fun e => e.2.segs.any fun b => decide (s.bufAddr b ≤ a ∧ a < s.bufAddr b + 16384) with
    | some e => (s.raiseErr .leat0 0 1 (Cap.obj (e.1 / 2))).queueReset (e.1 / 2)
    | none => s
  else if master = 0x121 then
    match s.refPlace a with
    | some (k, none) => s.refMapErr k (Cap.mem a master acc)
    | _ => s
  else if 0x180 ≤ master ∧ master < 0x1A0 then
    let e := master - 0x180
    match (s.dma e).cur with
    | some x => if x.src ≤ a ∧ a < x.src + x.count then s.dmaEnd e x 3 ((a - x.src) / 64 * 64) else s
    | none => s
  else s

/-- DRAM_LINE_READ (R405): a granted read delivers its line, or has failed to its requester's policy. -/
def State.dramRead (master acc a bad : Nat) (s : State) : State :=
  let n := (s.place a).site
  if s.memServes ∧ s.granted master n then
    let r := (s.won master n).readLineB master acc a bad
    let t := { r.2 with mem := { r.2.mem with answer := r.1 } }
    if r.1.isNone then t.linePolicy master acc a else t
  else s

/-- DRAM_LINE_READ. -/
def execDramLineRead (master : BitVec 12) (acc : BitVec 4) (addr badFetches : Nat) (s : State) : Result :=
  .next (s.dramRead master.toNat acc.toNat addr badFetches)

end Sys2Proof.Machine
end

