-- ==== Sys2Proof/Machine/Router.lean ====
section
/-!
DEFINITION. The event router: it takes one source message from its inputs and acts on it by range (R335, R363).
-/

namespace Sys2Proof.Machine

/-- The next message of the inputs in the order of R363, and the inputs without it. -/
def takeMsg : Tbl (List Msg) → Option (Msg × Tbl (List Msg))
  | [] => none
  | (k, m :: l) :: t => some (m, (k, l) :: t)
  | (k, []) :: t => (takeMsg t).map fun e => (e.1, (k, []) :: e.2)

/-- The count of a source, taken by the first WAIT on it that waits (R335). -/
def State.waitCount (src : Nat) (s : State) : State :=
  let n := Tbl.getD s.wcnt src 0
  match s.waits.find? fun e => e.1 == src with
  | none => { s with wcnt := Tbl.set s.wcnt src (sat (n + 1) 255) }
  | some e =>
    let c := e.2
    let x := s.chan c
    let s := { s with waits := s.waits.erase e }
    match x.run with
    | some r => s.setChan c { x with st := .active, run := some { r with fin := some ⟨0, 0, 0⟩ } }
    | none => s

/-- EVR_SWREC of a software source (R369). -/
def State.swRec (s : State) (src : Nat) : Bool := flag (s.reg (Reg.evrSwrec ((src - 3072) / 32))) (src % 32)

/-- What a message does by its source (R363). -/
def State.actOn (m : Msg) (s : State) : State :=
  match m.body with
  | .page cls =>
    match pageAt s.part (m.source - 2048) with
    | some (f, n) => (s.record m.source 3 0 cls m.time (s.pagePayload f n)).pendAll m.source
    | none => s
  | .chanCmd _ _ => s.pendAll m.source
  | .chanRec typ cls payload => (s.record m.source 0 typ cls m.time payload).pendAll m.source
  | .stripe _ => s
  | .sesRec typ cls payload =>
    if m.source < 1536 then s.record m.source 1 typ cls m.time payload
    else (s.record m.source 2 typ cls m.time payload).pendAll m.source
  | .soft =>
    let s := s.waitCount m.source
    let s := if s.swRec m.source then s.record m.source 4 0 0 m.time [] else s
    s.pendAll m.source

/-- ROUTER_MESSAGE: one message, unless the delivery stage waits (R364). -/
def State.routerStep (s : State) : State :=
  if s.coreUp ∧ s.clocked .millrace ∧ s.routerBlocked = false then
    match takeMsg s.inputs with
    | none => s
    | some (m, t) => (({ s with inputs := t }).wrap Reg.evrMsgs 1).actOn m
  else s

/-- ROUTER_MESSAGE. -/
def execRouterMessage (s : State) : Result := .next s.routerStep

end Sys2Proof.Machine
end

