-- ==== Sys2Proof/Machine/Dispatch.lean ====
section
/-!
DEFINITION. What each command does: one arm per constructor of `Instr`, each one direct call of its meaning.
-/

namespace Sys2Proof.Machine

/-- The effect of a command on everything but the queue. -/
def exec (i : Instr) (s : State) : Host.Outcome State Fault Refusal :=
  match i with
  | .pwrOkFall => Sys2Proof.Machine.execPwrOkFall s
  | .pwrOkRise => Sys2Proof.Machine.execPwrOkRise s
  | .railUndervoltage => Sys2Proof.Machine.execRailUndervoltage s
  | .resetNAssert => Sys2Proof.Machine.execResetNAssert s
  | .resetNRelease => Sys2Proof.Machine.execResetNRelease s
  | .bringupComplete ms => Sys2Proof.Machine.execBringupComplete ms s
  | .bringupFail code => Sys2Proof.Machine.execBringupFail code s
  | .tamper cause => Sys2Proof.Machine.execTamper cause s
  | .keyStoreIntegrityFail what => Sys2Proof.Machine.execKeyStoreIntegrityFail what s
  | .lockstepDoubleParity cp => Sys2Proof.Machine.execLockstepDoubleParity cp s
  | .corePllLoss clk => Sys2Proof.Machine.execCorePllLoss clk s
  | .corePllRelockTimeout clk => Sys2Proof.Machine.execCorePllRelockTimeout clk s
  | .pdDrainExpiry dom => Sys2Proof.Machine.execPdDrainExpiry dom s
  | .enec events => Sys2Proof.Machine.execEnec events s
  | .disec events => Sys2Proof.Machine.execDisec events s
  | .rstdaa => Sys2Proof.Machine.execRstdaa s
  | .entdaa addr => Sys2Proof.Machine.execEntdaa addr s
  | .setdasa target addr => Sys2Proof.Machine.execSetdasa target addr s
  | .setmwl value => Sys2Proof.Machine.execSetmwl value s
  | .getmwl => Sys2Proof.Machine.execGetmwl s
  | .setmrl value => Sys2Proof.Machine.execSetmrl value s
  | .getmrl => Sys2Proof.Machine.execGetmrl s
  | .getpid => Sys2Proof.Machine.execGetpid s
  | .getbcr => Sys2Proof.Machine.execGetbcr s
  | .getdcr => Sys2Proof.Machine.execGetdcr s
  | .getstatus => Sys2Proof.Machine.execGetstatus s
  | .rstact form db => Sys2Proof.Machine.execRstact form db s
  | .rstactRead db => Sys2Proof.Machine.execRstactRead db s
  | .enthdr0 cmds => Sys2Proof.Machine.execEnthdr0 cmds s
  | .targetResetPattern => Sys2Proof.Machine.execTargetResetPattern s
  | .ibiIssue accepted => Sys2Proof.Machine.execIbiIssue accepted s
  | .registerWrite p bytes => Sys2Proof.Machine.execRegisterWrite p bytes s
  | .rcRead p addr bytes => Sys2Proof.Machine.execRcRead p addr bytes s
  | .errStatRead p page bytes => Sys2Proof.Machine.execErrStatRead p page bytes s
  | .loWordRead p addr bytes => Sys2Proof.Machine.execLoWordRead p addr bytes s
  | .tbNowLoRead p bytes => Sys2Proof.Machine.execTbNowLoRead p bytes s
  | .unlistedCommandCode p addr data => Sys2Proof.Machine.execUnlistedCommandCode p addr data s
  | .pgCtlEnable p page on => Sys2Proof.Machine.execPgCtlEnable p page on s
  | .pgCtlFreeze p page on => Sys2Proof.Machine.execPgCtlFreeze p page on s
  | .pgCtlSreset p page => Sys2Proof.Machine.execPgCtlSreset p page s
  | .pgSresetDone page => Sys2Proof.Machine.execPgSresetDone page s
  | .errForce p page bits => Sys2Proof.Machine.execErrForce p page bits s
  | .errClassWrite p page value => Sys2Proof.Machine.execErrClassWrite p page value s
  | .errorDetect page src cap obj => Sys2Proof.Machine.execErrorDetect page src cap obj s
  | .intCoalTimeExpiry page => Sys2Proof.Machine.execIntCoalTimeExpiry page s
  | .stoneTakeover n => Sys2Proof.Machine.execStoneTakeover n s
  | .runnerTakeover n => Sys2Proof.Machine.execRunnerTakeover n s
  | .cpTakeover n => Sys2Proof.Machine.execCpTakeover n s
  | .cfgCommit p data => Sys2Proof.Machine.execCfgCommit p data s
  | .cfgPassStart => Sys2Proof.Machine.execCfgPassStart s
  | .cfgPassEnd => Sys2Proof.Machine.execCfgPassEnd s
  | .chanStart b c => Sys2Proof.Machine.execChanStart b c s
  | .chanResume b c => Sys2Proof.Machine.execChanResume b c s
  | .chanStop b c => Sys2Proof.Machine.execChanStop b c s
  | .srcDb value => Sys2Proof.Machine.execSrcDb value s
  | .evqConsWrite p value => Sys2Proof.Machine.execEvqConsWrite p value s
  | .evqCtlWrite p value => Sys2Proof.Machine.execEvqCtlWrite p value s
  | .routerMessage => Sys2Proof.Machine.execRouterMessage s
  | .evqNotifyTimeout => Sys2Proof.Machine.execEvqNotifyTimeout s
  | .evqOverflowWrite => Sys2Proof.Machine.execEvqOverflowWrite s
  | .evqLagExpiry => Sys2Proof.Machine.execEvqLagExpiry s
  | .evrInject p value => Sys2Proof.Machine.execEvrInject p value s
  | .stripeDb renderer value => Sys2Proof.Machine.execStripeDb renderer value s
  | .sesSetup b session => Sys2Proof.Machine.execSesSetup b session s
  | .sesStart b session => Sys2Proof.Machine.execSesStart b session s
  | .sesStop b session => Sys2Proof.Machine.execSesStop b session s
  | .sesAbort b session => Sys2Proof.Machine.execSesAbort b session s
  | .sessionStopped session => Sys2Proof.Machine.execSessionStopped session s
  | .comparatorMatch n => Sys2Proof.Machine.execComparatorMatch n s
  | .frameStart session => Sys2Proof.Machine.execFrameStart session s
  | .frameComplete session => Sys2Proof.Machine.execFrameComplete session s
  | .ingestTimeout session => Sys2Proof.Machine.execIngestTimeout session s
  | .bolterRowStart b => Sys2Proof.Machine.execBolterRowStart b s
  | .bolterRowDone b => Sys2Proof.Machine.execBolterRowDone b s
  | .stoneSegmentStart n blocks => Sys2Proof.Machine.execStoneSegmentStart n blocks s
  | .stoneSegmentDone n out => Sys2Proof.Machine.execStoneSegmentDone n out s
  | .segmentCommit n => Sys2Proof.Machine.execSegmentCommit n s
  | .seamTimeout n => Sys2Proof.Machine.execSeamTimeout n s
  | .stoneWatchdog n => Sys2Proof.Machine.execStoneWatchdog n s
  | .govFeedbackReport session => Sys2Proof.Machine.execGovFeedbackReport session s
  | .govRateInForce session => Sys2Proof.Machine.execGovRateInForce session s
  | .govFbTimeout session => Sys2Proof.Machine.execGovFbTimeout session s
  | .packetLost session seq => Sys2Proof.Machine.execPacketLost session seq s
  | .refClsWrite p cls word value => Sys2Proof.Machine.execRefClsWrite p cls word value s
  | .decSetup b page session => Sys2Proof.Machine.execDecSetup b page session s
  | .decStart b page session => Sys2Proof.Machine.execDecStart b page session s
  | .decStop b page session => Sys2Proof.Machine.execDecStop b page session s
  | .decAbort b page session => Sys2Proof.Machine.execDecAbort b page session s
  | .decSessionStopped session => Sys2Proof.Machine.execDecSessionStopped session s
  | .decRtpPacket session => Sys2Proof.Machine.execDecRtpPacket session s
  | .decReorderTimeout session => Sys2Proof.Machine.execDecReorderTimeout session s
  | .decPictureStart pipe h => Sys2Proof.Machine.execDecPictureStart pipe h s
  | .decPictureDone pipe r => Sys2Proof.Machine.execDecPictureDone pipe r s
  | .decDeliveryDone session => Sys2Proof.Machine.execDecDeliveryDone session s
  | .decConsPoll session => Sys2Proof.Machine.execDecConsPoll session s
  | .decWatchdog pipe => Sys2Proof.Machine.execDecWatchdog pipe s
  | .decCtlWrite p pipe value => Sys2Proof.Machine.execDecCtlWrite p pipe value s
  | .runnerAssignWrite p l value => Sys2Proof.Machine.execRunnerAssignWrite p l value s
  | .runnerAssignApply l => Sys2Proof.Machine.execRunnerAssignApply l s
  | .libInsert p slot => Sys2Proof.Machine.execLibInsert p slot s
  | .libRemove p slot => Sys2Proof.Machine.execLibRemove p slot s
  | .libInsertDone => Sys2Proof.Machine.execLibInsertDone s
  | .runnerLoadDone n => Sys2Proof.Machine.execRunnerLoadDone n s
  | .runnerUnitStart n => Sys2Proof.Machine.execRunnerUnitStart n s
  | .assetUnitStart n => Sys2Proof.Machine.execAssetUnitStart n s
  | .runnerMicroword n inp => Sys2Proof.Machine.execRunnerMicroword n inp s
  | .runnerMemOpDone n => Sys2Proof.Machine.execRunnerMemOpDone n s
  | .runnerCpyOpDone n => Sys2Proof.Machine.execRunnerCpyOpDone n s
  | .runnerWatchdog n => Sys2Proof.Machine.execRunnerWatchdog n s
  | .cpNop n => Sys2Proof.Machine.execCpNop n s
  | .cpRet n => Sys2Proof.Machine.execCpRet n s
  | .cpRett n => Sys2Proof.Machine.execCpRett n s
  | .cpWfm n => Sys2Proof.Machine.execCpWfm n s
  | .cpWfmWake n => Sys2Proof.Machine.execCpWfmWake n s
  | .cpXcall n => Sys2Proof.Machine.execCpXcall n s
  | .cpRep n => Sys2Proof.Machine.execCpRep n s
  | .cpImm n => Sys2Proof.Machine.execCpImm n s
  | .cpMovi n => Sys2Proof.Machine.execCpMovi n s
  | .cpAddi n => Sys2Proof.Machine.execCpAddi n s
  | .cpCmpi n => Sys2Proof.Machine.execCpCmpi n s
  | .cpAlu n => Sys2Proof.Machine.execCpAlu n s
  | .cpShf n => Sys2Proof.Machine.execCpShf n s
  | .cpShi n => Sys2Proof.Machine.execCpShi n s
  | .cpLd n => Sys2Proof.Machine.execCpLd n s
  | .cpSt n => Sys2Proof.Machine.execCpSt n s
  | .cpLdb n => Sys2Proof.Machine.execCpLdb n s
  | .cpStb n => Sys2Proof.Machine.execCpStb n s
  | .cpMovp n => Sys2Proof.Machine.execCpMovp n s
  | .cpPmov n => Sys2Proof.Machine.execCpPmov n s
  | .cpPaddi n => Sys2Proof.Machine.execCpPaddi n s
  | .cpJmp n => Sys2Proof.Machine.execCpJmp n s
  | .cpBz n => Sys2Proof.Machine.execCpBz n s
  | .cpBnz n => Sys2Proof.Machine.execCpBnz n s
  | .cpBc n => Sys2Proof.Machine.execCpBc n s
  | .cpBnc n => Sys2Proof.Machine.execCpBnc n s
  | .cpBn n => Sys2Proof.Machine.execCpBn n s
  | .cpBnn n => Sys2Proof.Machine.execCpBnn n s
  | .cpCall n => Sys2Proof.Machine.execCpCall n s
  | .cpJr n => Sys2Proof.Machine.execCpJr n s
  | .cpCrc n => Sys2Proof.Machine.execCpCrc n s
  | .cpBit n => Sys2Proof.Machine.execCpBit n s
  | .cpIn n => Sys2Proof.Machine.execCpIn n s
  | .cpOut n => Sys2Proof.Machine.execCpOut n s
  | .cpReservedOpcode n => Sys2Proof.Machine.execCpReservedOpcode n s
  | .cpExtWatchdog n => Sys2Proof.Machine.execCpExtWatchdog n s
  | .eicHoldExpiry n => Sys2Proof.Machine.execEicHoldExpiry n s
  | .eicSetPend p n source => Sys2Proof.Machine.execEicSetPend p n source s
  | .eicClrPend p n source => Sys2Proof.Machine.execEicClrPend p n source s
  | .eicMask p n source => Sys2Proof.Machine.execEicMask p n source s
  | .eicUnmask p n source => Sys2Proof.Machine.execEicUnmask p n source s
  | .cpImgLoad p n => Sys2Proof.Machine.execCpImgLoad p n s
  | .cpImgLoadExt p n => Sys2Proof.Machine.execCpImgLoadExt p n s
  | .cpImgMove p n logical => Sys2Proof.Machine.execCpImgMove p n logical s
  | .cpMoveBind n => Sys2Proof.Machine.execCpMoveBind n s
  | .pawlNop n => Sys2Proof.Machine.execPawlNop n s
  | .pawlRet n => Sys2Proof.Machine.execPawlRet n s
  | .pawlRett n => Sys2Proof.Machine.execPawlRett n s
  | .pawlWfe n => Sys2Proof.Machine.execPawlWfe n s
  | .pawlWfeWake n => Sys2Proof.Machine.execPawlWfeWake n s
  | .pawlTwait n => Sys2Proof.Machine.execPawlTwait n s
  | .pawlTwaitExpiry n => Sys2Proof.Machine.execPawlTwaitExpiry n s
  | .pawlLdi n => Sys2Proof.Machine.execPawlLdi n s
  | .pawlPfx n => Sys2Proof.Machine.execPawlPfx n s
  | .pawlAlu n => Sys2Proof.Machine.execPawlAlu n s
  | .pawlAddi n => Sys2Proof.Machine.execPawlAddi n s
  | .pawlIn n => Sys2Proof.Machine.execPawlIn n s
  | .pawlOut n => Sys2Proof.Machine.execPawlOut n s
  | .pawlJmp n => Sys2Proof.Machine.execPawlJmp n s
  | .pawlBz n => Sys2Proof.Machine.execPawlBz n s
  | .pawlBnz n => Sys2Proof.Machine.execPawlBnz n s
  | .pawlCall n => Sys2Proof.Machine.execPawlCall n s
  | .pawlSev n => Sys2Proof.Machine.execPawlSev n s
  | .pawlTset n => Sys2Proof.Machine.execPawlTset n s
  | .pawlEv n => Sys2Proof.Machine.execPawlEv n s
  | .pawlReservedOpcode n => Sys2Proof.Machine.execPawlReservedOpcode n s
  | .pawlRqEnd n data ok => Sys2Proof.Machine.execPawlRqEnd n data ok s
  | .pawlMemDone n => Sys2Proof.Machine.execPawlMemDone n s
  | .pawlImgLoad p n => Sys2Proof.Machine.execPawlImgLoad p n s
  | .pawlLoadDone n => Sys2Proof.Machine.execPawlLoadDone n s
  | .nvmeControllerInit q ans => Sys2Proof.Machine.execNvmeControllerInit q ans s
  | .nvmeCompletion q cid st => Sys2Proof.Machine.execNvmeCompletion q cid st s
  | .nvmeCmdTimeout q cid => Sys2Proof.Machine.execNvmeCmdTimeout q cid s
  | .stepDispatch c => Sys2Proof.Machine.execStepDispatch c s
  | .stepRead c => Sys2Proof.Machine.execStepRead c s
  | .stepWrite c => Sys2Proof.Machine.execStepWrite c s
  | .stepMove c => Sys2Proof.Machine.execStepMove c s
  | .stepSense c => Sys2Proof.Machine.execStepSense c s
  | .stepTransform c => Sys2Proof.Machine.execStepTransform c s
  | .stepSubmit c => Sys2Proof.Machine.execStepSubmit c s
  | .stepWait c => Sys2Proof.Machine.execStepWait c s
  | .stepSignal c => Sys2Proof.Machine.execStepSignal c s
  | .stepJump c => Sys2Proof.Machine.execStepJump c s
  | .stepTest c => Sys2Proof.Machine.execStepTest c s
  | .stepRegload c => Sys2Proof.Machine.execStepRegload c s
  | .regloadPoll c => Sys2Proof.Machine.execRegloadPoll c s
  | .stepFill c => Sys2Proof.Machine.execStepFill c s
  | .stepNop c => Sys2Proof.Machine.execStepNop c s
  | .stepEnd c => Sys2Proof.Machine.execStepEnd c s
  | .stepExtension c => Sys2Proof.Machine.execStepExtension c s
  | .egressOpen c => Sys2Proof.Machine.execEgressOpen c s
  | .egressClose c => Sys2Proof.Machine.execEgressClose c s
  | .egressCloseDone dev => Sys2Proof.Machine.execEgressCloseDone dev s
  | .egressFlush c => Sys2Proof.Machine.execEgressFlush c s
  | .ingestDoorbell c => Sys2Proof.Machine.execIngestDoorbell c s
  | .stepComplete c => Sys2Proof.Machine.execStepComplete c s
  | .stepTimeout c => Sys2Proof.Machine.execStepTimeout c s
  | .dmaTransferStart e => Sys2Proof.Machine.execDmaTransferStart e s
  | .dmaTransferEnd e => Sys2Proof.Machine.execDmaTransferEnd e s
  | .hopInit p pool => Sys2Proof.Machine.execHopInit p pool s
  | .hopInitDone => Sys2Proof.Machine.execHopInitDone s
  | .hopDisable p pool => Sys2Proof.Machine.execHopDisable p pool s
  | .hopGrant pool => Sys2Proof.Machine.execHopGrant pool s
  | .hopCacheRefill pool => Sys2Proof.Machine.execHopCacheRefill pool s
  | .hopCacheSpill pool => Sys2Proof.Machine.execHopCacheSpill pool s
  | .hopWaitLong pool => Sys2Proof.Machine.execHopWaitLong pool s
  | .hopResvWrite p owner b value => Sys2Proof.Machine.execHopResvWrite p owner b value s
  | .dramLineRead master acc addr badFetches => Sys2Proof.Machine.execDramLineRead master acc addr badFetches s
  | .dramLineWrite master acc addr bytes => Sys2Proof.Machine.execDramLineWrite master acc addr bytes s
  | .dramRefresh site => Sys2Proof.Machine.execDramRefresh site s
  | .actWindowStart site => Sys2Proof.Machine.execActWindowStart site s
  | .throttleEnd site => Sys2Proof.Machine.execThrottleEnd site s
  | .maWaitLimitReached master site => Sys2Proof.Machine.execMaWaitLimitReached master site s
  | .maCtlFreeze p on => Sys2Proof.Machine.execMaCtlFreeze p on s
  | .maBankHashWrite p k value => Sys2Proof.Machine.execMaBankHashWrite p k value s
  | .mcChkFlipWrite p site value => Sys2Proof.Machine.execMcChkFlipWrite p site value s
  | .scrubStart p => Sys2Proof.Machine.execScrubStart p s
  | .scrubAbort p bad => Sys2Proof.Machine.execScrubAbort p bad s
  | .scrubDone bad => Sys2Proof.Machine.execScrubDone bad s
  | .ceBucketLeak => Sys2Proof.Machine.execCeBucketLeak s
  | .reqStandby p => Sys2Proof.Machine.execReqStandby p s
  | .reqRun p => Sys2Proof.Machine.execReqRun p s
  | .reqDrain p => Sys2Proof.Machine.execReqDrain p s
  | .reqSlack p => Sys2Proof.Machine.execReqSlack p s
  | .devSreset p => Sys2Proof.Machine.execDevSreset p s
  | .devSresetDone => Sys2Proof.Machine.execDevSresetDone s
  | .slackWakeFrame q da => Sys2Proof.Machine.execSlackWakeFrame q da s
  | .ldgSync p => Sys2Proof.Machine.execLdgSync p s
  | .ldgWriteUser p => Sys2Proof.Machine.execLdgWriteUser p s
  | .ldgReadUser p => Sys2Proof.Machine.execLdgReadUser p s
  | .ldgWriteRecord p => Sys2Proof.Machine.execLdgWriteRecord p s
  | .ldgClearRetire p => Sys2Proof.Machine.execLdgClearRetire p s
  | .ldgReadFaults p => Sys2Proof.Machine.execLdgReadFaults p s
  | .ledgerRecordWrite => Sys2Proof.Machine.execLedgerRecordWrite s
  | .ledgerWriteDone verified => Sys2Proof.Machine.execLedgerWriteDone verified s
  | .ledgerFlashTimeout => Sys2Proof.Machine.execLedgerFlashTimeout s
  | .ledgerIntervalExpiry => Sys2Proof.Machine.execLedgerIntervalExpiry s
  | .ledgerWearUpdate => Sys2Proof.Machine.execLedgerWearUpdate s
  | .tbOffsetWrite p value => Sys2Proof.Machine.execTbOffsetWrite p value s
  | .tbRateWrite p value => Sys2Proof.Machine.execTbRateWrite p value s
  | .tbStepWrite p value => Sys2Proof.Machine.execTbStepWrite p value s
  | .tbCmpWrite p n word value => Sys2Proof.Machine.execTbCmpWrite p n word value s
  | .sdrefWLoss => Sys2Proof.Machine.execSdrefWLoss s
  | .tbPllLockE => Sys2Proof.Machine.execTbPllLockE s
  | .ppsInEdge => Sys2Proof.Machine.execPpsInEdge s
  | .ppsOutPulseEnd => Sys2Proof.Machine.execPpsOutPulseEnd s
  | .sluFlowReload p flow => Sys2Proof.Machine.execSluFlowReload p flow s
  | .sluiceFineSlot => Sys2Proof.Machine.execSluiceFineSlot s
  | .sluiceCoarseSlot => Sys2Proof.Machine.execSluiceCoarseSlot s
  | .sluTblCommit p value => Sys2Proof.Machine.execSluTblCommit p value s
  | .sluTblSwap port => Sys2Proof.Machine.execSluTblSwap port s
  | .gateEntryBoundary port => Sys2Proof.Machine.execGateEntryBoundary port s
  | .packetize session => Sys2Proof.Machine.execPacketize session s
  | .pktRekeyCmd p value => Sys2Proof.Machine.execPktRekeyCmd p value s
  | .feedbackPacket session => Sys2Proof.Machine.execFeedbackPacket session s
  | .srIntervalExpiry session => Sys2Proof.Machine.execSrIntervalExpiry session s
  | .historyExpiry queue lane => Sys2Proof.Machine.execHistoryExpiry queue lane s
  | .leatFlush p value => Sys2Proof.Machine.execLeatFlush p value s
  | .leatStale queue lane => Sys2Proof.Machine.execLeatStale queue lane s
  | .frameHeaderReceived port bytes => Sys2Proof.Machine.execFrameHeaderReceived port bytes s
  | .frameStored port fcsOk => Sys2Proof.Machine.execFrameStored port fcsOk s
  | .frameTxStart port => Sys2Proof.Machine.execFrameTxStart port s
  | .frameTxDone port => Sys2Proof.Machine.execFrameTxDone port s
  | .portUp port => Sys2Proof.Machine.execPortUp port s
  | .portDown port => Sys2Proof.Machine.execPortDown port s
  | .portHoldExpiry port => Sys2Proof.Machine.execPortHoldExpiry port s
  | .anRetry port => Sys2Proof.Machine.execAnRetry port s
  | .quadCfgWrite p q value => Sys2Proof.Machine.execQuadCfgWrite p q value s
  | .quadPortEnWrite p q k value => Sys2Proof.Machine.execQuadPortEnWrite p q k value s
  | .fwdInsert p flow => Sys2Proof.Machine.execFwdInsert p flow s
  | .fwdDelete p flow => Sys2Proof.Machine.execFwdDelete p flow s
  | .fwdRead p flow => Sys2Proof.Machine.execFwdRead p flow s
  | .fwdCommit p => Sys2Proof.Machine.execFwdCommit p s
  | .fwdCommitDone => Sys2Proof.Machine.execFwdCommitDone s
  | .fwdDiscard p => Sys2Proof.Machine.execFwdDiscard p s
  | .ringAnnounceTimer => Sys2Proof.Machine.execRingAnnounceTimer s
  | .ringAnnounceRx east h => Sys2Proof.Machine.execRingAnnounceRx east h s
  | .ringElectTimeout => Sys2Proof.Machine.execRingElectTimeout s
  | .ringTopoRx east h => Sys2Proof.Machine.execRingTopoRx east h s
  | .ringTopoTimeout => Sys2Proof.Machine.execRingTopoTimeout s
  | .ringReadyRx east h => Sys2Proof.Machine.execRingReadyRx east h s
  | .ringDataRx east h => Sys2Proof.Machine.execRingDataRx east h s
  | .weirSwitchDone => Sys2Proof.Machine.execWeirSwitchDone s
  | .weirStuckTimeout => Sys2Proof.Machine.execWeirStuckTimeout s
  | .weirHoldClosedWrite p value => Sys2Proof.Machine.execWeirHoldClosedWrite p value s
  | .pcieCfgWrite p n value => Sys2Proof.Machine.execPcieCfgWrite p n value s
  | .pcieLinkUp n rate width flit => Sys2Proof.Machine.execPcieLinkUp n rate width flit s
  | .pcieLinkDown n => Sys2Proof.Machine.execPcieLinkDown n s
  | .pcieConfigRequest n r => Sys2Proof.Machine.execPcieConfigRequest n r s
  | .pcieInboundWrite n bar addr bytes be poison => Sys2Proof.Machine.execPcieInboundWrite n bar addr bytes be poison s
  | .pcieInboundRead n bar addr len => Sys2Proof.Machine.execPcieInboundRead n bar addr len s
  | .pcieCompletion n addr bytes ok => Sys2Proof.Machine.execPcieCompletion n addr bytes ok s
  | .pcieCplTimeout n addr => Sys2Proof.Machine.execPcieCplTimeout n addr s
  | .ibrImport p slot kek => Sys2Proof.Machine.execIbrImport p slot kek s
  | .ibrClear p slot => Sys2Proof.Machine.execIbrClear p slot s
  | .ibrAttest p => Sys2Proof.Machine.execIbrAttest p s
  | .ibrFuseCust p => Sys2Proof.Machine.execIbrFuseCust p s
  | .reservedLocationRead addr bytes => Sys2Proof.Machine.execReservedLocationRead addr bytes s
  | .corePllRelock clk => Sys2Proof.Machine.execCorePllRelock clk s
  | .overtemp sensor value => Sys2Proof.Machine.execOvertemp sensor value s
  | .wearHourCount => Sys2Proof.Machine.execWearHourCount s
  | .cpImgLoadDone n => Sys2Proof.Machine.execCpImgLoadDone n s
  | .ibrCommandDone => Sys2Proof.Machine.execIbrCommandDone s
  | .ledgerReadDone => Sys2Proof.Machine.execLedgerReadDone s
  | .i3cTargetResetEnd => Sys2Proof.Machine.execI3cTargetResetEnd s

end Sys2Proof.Machine
end

