-- ==== Sys2Proof/Safety.lean ====
section
/-!
DEFINITION. What claims call a sound state and a safe one.
-/

namespace Sys2Proof.Machine

/-- Part DRAM and the register table stand in their canonical forms, so that equal contents are equal states. -/
def State.Canonical (s : State) : Prop := s.mem.wf ∧ Tbl.Sorted s.mem.checks ∧ Tbl.Sorted s.regs

/-- The part runs and shows no failure outside: neither off nor in bring-up or HALT, and ALERT_N high (R37, R417). -/
def State.Safe (s : State) : Prop := s.live = true ∧ s.alert = false

/-- Power and mode agree: with PWR_OK low the part is OFF (R414). -/
def State.Powered (s : State) : Prop := s.dev.pwrOk = false → s.dev.mode = .off

/-- What R414's table lets one command do to the mode: OFF from any mode; from OFF only BRINGUP; from HALT nothing else; from BRINGUP
only STANDBY or HALT; the other modes, of which one command may request several in turn (a REGLOAD or HDR transfer), lead to
each other, to BRINGUP and to HALT. -/
def Mode.mayBecome (a b : Mode) : Bool :=
  a == b || b == .off ||
  match a with
  | .off => b == .bringup
  | .bringup => b == .standby || b == .halt
  | .halt => false
  | _ => true

/-- What a command leaves: its next state, or the state it met where it answers none. -/
def after (i : Instr) (s : State) : State :=
  match exec i s with
  | .next t => t
  | _ => s

/-- A step that no flag of R329 makes special, in a channel with no chained buffer. -/
def State.plainStep (s : State) (c : Nat) (r : StepRun) : Prop :=
  (s.chan c).inBuf = none ∧ r.step.note = false ∧ r.step.attn = false ∧ r.step.hold = false ∧ r.step.dlink = false

/-- A channel has completed a step with OK and goes on at `next`, or is IDLE where nothing follows (R321, R341). -/
def State.wentOn (s t : State) (c : Nat) (next : Option Nat) : Prop :=
  (t.chan c).run = none ∧ (t.chan c).result = 0 ∧ (t.chan c).steps = ((s.chan c).steps + 1) % 2 ^ 32 ∧
  (match next with
   | some p => (t.chan c).st = .active ∧ (t.chan c).pc = p
   | none => (t.chan c).st = .idle ∧ (t.chan c).pc = (s.chan c).pc)

/-- The engine that a channel names is there and its shadow is free (R371, R390). -/
def State.engineFree (s : State) (c : Nat) : Prop := (s.dma (s.chan c).dma).retired = false ∧ (s.dma (s.chan c).dma).armed = false

/-- A transfer of a channel's step is armed on its engine: from `src` to `dst`, of `count` bytes (R371). -/
def State.armedFor (t : State) (c src dst count : Nat) : Prop :=
  let d := t.dma (t.chan c).dma
  d.armed = true ∧ d.shOwner = .channel c ∧ Tbl.getD d.sh 0 0 = loWord src ∧ Tbl.getD d.sh 1 0 = hiWord src ∧
  Tbl.getD d.sh 2 0 = loWord dst ∧ Tbl.getD d.sh 3 0 = hiWord dst ∧ Tbl.getD d.sh 4 0 = word count

end Sys2Proof.Machine
end

