-- ==== Sys2Proof/Certificates/Slice0/Obligations.lean ====
section
/-!
DEFINITION. The statements for the provers, family by family.
-/

open Sys2Proof Sys2Proof.Machine

/-! ## The queue and the reset state -/

/-- With a command in front, a step runs it on the state with the rest of the queue. With no command waiting, a step is one tick of TCLK
outside OFF, and nothing else (R273; both DESIGN CHOICE of log entry 1).
The model's own readings and choices in it: log entry 1. -/
def Obligations.StepTakesTheQueue : Prop :=
  (∀ (i : Instr) (rest : List Instr) (s : State), s.pending = i :: rest → step s = exec i { s with pending := rest }) ∧
  (∀ s : State, s.pending = [] →
    (s.dev.mode ≠ .off → step s = .next { s with tick := s.tick + 1 }) ∧ (s.dev.mode = .off → step s = .next s))

/-- Part DRAM and the register table are in canonical form at reset, and power and mode agree: the invariants of every step hold there.
The model's own readings and choices in it: log entries 3 and 79. -/
def Obligations.ResetIsCanonical : Prop := State.reset.Canonical ∧ State.reset.Powered

/-- What reset leaves (R34, R37, R38, R273, R391, R413, R432, R433, R434): the values that the register tables state.
The model's own readings and choices in it: log entries 2 and 3. -/
def Obligations.ResetRegisters : Prop :=
  let s := State.reset
  s.dev.mode = .standby ∧ s.tick = 0 ∧ s.i3c.da = none ∧ s.i3c.mwl = 259 ∧ s.i3c.mrl = 256 ∧ s.i3c.ibiEn = true ∧
  s.pending = [] ∧ s.mem.cells = [] ∧ s.ldg.faults = [] ∧
  s.liveWord .i3c (baseOf .dev 0 + 0x40) = 2 ∧ s.liveWord .i3c (baseOf .clkpwr 0 + 0x40) = 7 ∧
  s.liveWord .i3c (baseOf .clkpwr 0 + 0x44) = 100 ∧ s.liveWord .i3c (baseOf .evq 0 + 0x40) = 0x10060 ∧
  s.liveWord .i3c (baseOf .dev 0 + 0x38) = 0xFFFFFFFE ∧ s.liveWord .i3c (baseOf .timebase 0 + 0x40) = 0

/-! ## I3C (R24 to R37) -/

/-- ENEC, DISEC, RSTDAA, ENTDAA, SETDASA, SETMWL, SETMRL, RSTACT and the end of a target reset change the target's state so, and
nothing else but the answer they give (R25, R26, R28, R34, R37).
The model's own readings and choices in it: log entries 9, 83, 84 and 86. -/
def Obligations.I3cCommandsSetTarget : Prop :=
  ∀ s : State, s.i3cUp = true →
    (∀ ev : Byte, ev.getLsbD 0 = true →
      exec (.enec ev) s = .next { s with i3c := { s.i3c with ibiEn := true } } ∧
      exec (.disec ev) s = .next { s with i3c := { s.i3c with ibiEn := false } }) ∧
    (∀ ev : Byte, ev.getLsbD 0 = false → exec (.enec ev) s = .next s ∧ exec (.disec ev) s = .next s) ∧
    exec .rstdaa s = .next { s with i3c := { s.i3c with da := none } } ∧
    (∀ a : BitVec 7, s.i3c.da = none →
      exec (.setdasa 0x5A#7 a) s = .next { s with i3c := { s.i3c with da := some a } } ∧
      exec (.entdaa a) s = .next { s with
        i3c := { s.i3c with da := some a }
        out := .i3cData (beBytes 6 (0x1B4C * 2 ^ 33 + 2 ^ 32 + s.dev.serial.toNat % 2 ^ 32) ++ [0x26, 0x00]) :: s.out }) ∧
    (∀ a b : BitVec 7, (s.i3c.da ≠ none ∨ a ≠ 0x5A#7) → exec (.setdasa a b) s = .next s) ∧
    (∀ v : Nat,
      exec (.setmwl v) s = .next { s with i3c := { s.i3c with mwl := if v < 7 then 7 else if 1027 < v then 1027 else v } } ∧
      exec (.setmrl v) s = .next { s with i3c := { s.i3c with mrl := if v < 4 then 4 else if 1024 < v then 1024 else v } }) ∧
    (s.dev.mode ≠ .halt →
      exec (.rstact .broadcast 0x00) s = .next { s with i3c := { s.i3c with armed := some .none } } ∧
      exec (.rstact .broadcast 0x01) s = .next { s with i3c := { s.i3c with armed := some .target } } ∧
      exec (.rstact .broadcast 0x02) s = .next { s with i3c := { s.i3c with armed := some .whole } } ∧
      (∀ db : Byte, 2 < db.toNat → exec (.rstact .broadcast db) s = .next s ∧
        exec (.rstact .direct db) s = .next { s with out := .i3cNack :: s.out }))

/-- The directed reads of the target: GETMWL, GETMRL, GETPID, GETBCR and GETDCR answer the values in force or the fixed identity and
change nothing but the output; without a dynamic address they are not acknowledged (R25, R26, R34). RSTACT_READ answers one
byte for 0x81 and 0x82, of an encoding that the spec leaves to MIPI (log entry 15), and is not acknowledged otherwise (R28).
The model's own readings and choices in it: log entries 9, 83 and 84. -/
def Obligations.I3cReadsAnswer : Prop :=
  ∀ s : State,
    (s.i3cUp = true → s.i3c.da ≠ none →
      exec .getmwl s = .next { s with out := .i3cData (beBytes 2 s.i3c.mwl) :: s.out } ∧
      exec .getmrl s = .next { s with out := .i3cData (beBytes 2 s.i3c.mrl ++ [4]) :: s.out } ∧
      exec .getpid s = .next { s with
        out := .i3cData (beBytes 6 (0x1B4C * 2 ^ 33 + 2 ^ 32 + s.dev.serial.toNat % 2 ^ 32)) :: s.out } ∧
      exec .getbcr s = .next { s with out := .i3cData [0x26] :: s.out } ∧
      exec .getdcr s = .next { s with out := .i3cData [0x00] :: s.out } ∧
      (∃ b : Byte, exec (.rstactRead 0x81) s = .next { s with out := .i3cData [b] :: s.out }) ∧
      (∃ b : Byte, exec (.rstactRead 0x82) s = .next { s with out := .i3cData [b] :: s.out })) ∧
    (s.i3c.da = none → ∀ i ∈ [Instr.getmwl, .getmrl, .getpid, .getbcr, .getdcr, .getstatus, .rstactRead 0x81],
      exec i s = .next { s with out := .i3cNack :: s.out }) ∧
    (∀ db : Byte, db ≠ 0x81 → db ≠ 0x82 → exec (.rstactRead db) s = .next { s with out := .i3cNack :: s.out })

/-- GETSTATUS returns the number of pending IBIs, saturating at 15, in [3:0], the protocol error in [5], the mode in [10:8]
and zeros elsewhere, and clears bit 5 (R29).
The model's own readings and choices in it: log entry 83. -/
def Obligations.GetstatusReportsAndClears : Prop :=
  ∀ s : State, s.i3cUp = true → s.i3c.da ≠ none →
    exec .getstatus s = .next { s with
      i3c := { s.i3c with proto := false }
      out := .i3cData (beBytes 2 (min 15 s.i3c.ibis.length + (if s.i3c.proto then 32 else 0) + 256 * s.dev.mode.code)) :: s.out }

/-- In-band interrupts and target resets (R28, R37): an accepted IBI leaves the queue of causes and counts; a NACKed one stays;
with IBIs disabled or no address nothing is raised. A target reset pattern takes the action armed: by default and for 0x01 the
target loses its address and comes up with its reset values and its causes kept, 0x00 does nothing, and the armed action is
the default again; the reset ends with I3C_TARGET_RESET_END.
The model's own readings and choices in it: log entry 9. -/
def Obligations.IbiAndTargetReset : Prop :=
  ∀ s : State,
    (∀ (b : Ibi) (rest : List Ibi), s.i3c.ibis = b :: rest → s.i3cUp = true → s.i3c.da ≠ none → s.i3c.ibiEn = true →
      (∃ t, exec (.ibiIssue true) s = .next t ∧ t.i3c = { s.i3c with ibis := rest } ∧ t.out = .ibi b.code b.payload :: s.out ∧
        t.reg Reg.i3cIbis = s.reg Reg.i3cIbis + 1 ∧ (∀ a, a ≠ Reg.i3cIbis → t.reg a = s.reg a) ∧
        t = { s with i3c := t.i3c, out := t.out, regs := t.regs }) ∧
      (∃ t, exec (.ibiIssue false) s = .next t ∧ t = { s with regs := t.regs } ∧
        (t.reg Reg.i3cIbiNacks).toNat = min ((s.reg Reg.i3cIbiNacks).toNat + 1) (2 ^ 32 - 1) ∧
        (∀ a, a ≠ Reg.i3cIbiNacks → t.reg a = s.reg a))) ∧
    ((s.i3c.da = none ∨ s.i3c.ibiEn = false) → ∀ acc : Bool, exec (.ibiIssue acc) s = .next s) ∧
    (s.i3cUp = true → s.dev.mode ≠ .halt → s.i3c.armed = some .none →
      exec .targetResetPattern s = .next { s with i3c := { s.i3c with armed := none } }) ∧
    (s.i3cUp = true → s.dev.mode ≠ .halt → (s.i3c.armed = none ∨ s.i3c.armed = some .target) →
      ∃ t, exec .targetResetPattern s = .next t ∧ t.dev = s.dev ∧ t.mem = s.mem ∧
        t.i3c = { da := none, mwl := 259, mrl := 256, ibiEn := true, ibis := s.i3c.ibis, proto := false, armed := none,
                  resetting := true }) ∧
    (s.i3c.resetting = true →
      exec .i3cTargetResetEnd s = .next { s with i3c := { s.i3c with resetting := false, armed := none } })

/-! ## Power, resets and modes (R414 to R425) -/

/-- PWR_OK low, or a rail below its range (R482), puts the part in OFF at once with every domain down: part DRAM, sessions,
channels and keys are gone and pending Ledger updates are lost, while the flash banks stay (R414, R426). PWR_OK rising enters
BRINGUP with TB_COUNT at 0 (R273). -/
def Obligations.PowerOffAndOn : Prop :=
  ∀ s : State,
    (∀ i ∈ [Instr.pwrOkFall, .railUndervoltage],
      ∃ t, exec i s = .next t ∧ t.dev.mode = .off ∧ t.dev.pwrOk = false ∧ t.clk.core = false ∧ t.mem.cells = [] ∧
        t.mem.checks = [] ∧ t.sessions = [] ∧ t.chans = [] ∧ t.i3c.da = none ∧ t.ibr.slots = [] ∧ t.ldg.faults = [] ∧
        t.ldg.bank0 = s.ldg.bank0 ∧ t.ldg.bank1 = s.ldg.bank1 ∧ t.part = s.part ∧ t.pending = s.pending) ∧
    (s.dev.pwrOk = false →
      ∃ t, exec .pwrOkRise s = .next t ∧ t.dev.mode = .bringup ∧ t.dev.cause = .por ∧ t.dev.pwrOk = true ∧ t.tick = 0 ∧
        t.mem = s.mem ∧ t.ldg = s.ldg ∧ t.pending = s.pending)

/-- RESET_N low outside OFF and HALT, and a target reset pattern with 0x02 armed, are warm resets: the mode is BRINGUP, the I3C
address is cleared, part DRAM holds nothing, TB_COUNT, TB_OFFSET and TB_RATE and the pending Ledger updates are kept (R28,
R414, R426). In OFF and HALT the pin has no effect (R417). Releasing RESET_N lets bring-up run. -/
def Obligations.WarmResets : Prop :=
  ∀ s : State,
    (s.dev.mode ≠ .off → s.dev.mode ≠ .halt → s.dev.resetN = true →
      ∃ t, exec .resetNAssert s = .next t ∧ t.dev.mode = .bringup ∧ t.dev.resetN = false ∧ t.dev.cause = .resetN ∧
        t.i3c.da = none ∧ t.mem.checks = [] ∧ t.tick = s.tick ∧ t.tb.offset = s.tb.offset ∧ t.tb.rate = s.tb.rate ∧
        t.ldg.write = none ∧ t.part = s.part ∧ t.pending = s.pending ∧
        (s.ldg.write = none → t.ldg.faults = s.ldg.faults)) ∧
    ((s.dev.mode = .off ∨ s.dev.mode = .halt) →
      exec .resetNAssert s = .next { s with dev := { s.dev with resetN := false } }) ∧
    (s.i3cUp = true → s.dev.mode ≠ .halt → s.i3c.armed = some .whole →
      ∃ t, exec .targetResetPattern s = .next t ∧ t.dev.mode = .bringup ∧ t.dev.cause = .rstact2 ∧ t.i3c.da = none ∧
        t.i3c.ibis = [] ∧ t.mem.checks = [] ∧ t.tick = s.tick ∧ t.tb.offset = s.tb.offset) ∧
    (s.dev.resetN = false →
      ∃ t, exec .resetNRelease s = .next t ∧ t.dev = { s.dev with resetN := true } ∧ t.mem = s.mem ∧ t.tick = s.tick ∧
        t.i3c = s.i3c)

/-- Bring-up ends in STANDBY where the Ledger's content allows it, with BU_MS set; a first failure is recorded and bring-up
repeats; a second leaves the part in BRINGUP with ALERT_N low (R37, R414, R418, R419).
The model's own readings and choices in it: log entries 6 and 62. -/
def Obligations.BringUpEnds : Prop :=
  ∀ s : State, s.buRuns = true →
    (∀ ms : Nat, s.buCode = 0 →
      ∃ t, exec (.bringupComplete ms) s = .next t ∧ t.dev.mode = .standby ∧ t.dev.prev = .bringup ∧ t.dev.buMs = ms ∧
        t.i3c.da = s.i3c.da ∧ t.pending = s.pending) ∧
    (∀ code : Nat, s.buMayFail code = true → s.dev.retried = false →
      exec (.bringupFail code) s = .next { s with dev := { s.dev with buFail := code, retried := true } }) ∧
    (∀ code : Nat, s.buMayFail code = true → s.dev.retried = true →
      ∃ t, exec (.bringupFail code) s = .next t ∧ t.dev.mode = .bringup ∧ t.dev.buFail = code ∧ t.dev.stuck = true ∧
        t.alert = true)

/-- The requests of DEV_CTL.REQ (R414 to R416, R422, R423): each row of the table of R414 makes its change with RESULT OK; a
row whose condition fails ends NOT_READY; a mode with no row for the request ends BAD_REQ; the last two change nothing else.
The model's own readings and choices in it: log entry 17. -/
def Obligations.ModeRequests : Prop :=
  ∀ (s : State) (p : Path), s.takes p = true → s.dev.changing = none →
    ((s.dev.mode = .standby ∨ s.dev.mode = .drain) →
      ∃ t, exec (.reqRun p) s = .next t ∧ t.dev.mode = (if s.short then .degraded else .run) ∧ t.dev.result = 0 ∧
        t.dev.prev = s.dev.mode ∧ t.mem = s.mem) ∧
    ((s.dev.mode = .run ∨ s.dev.mode = .degraded) →
      (∃ t, exec (.reqDrain p) s = .next t ∧ t.dev.mode = .drain ∧ t.dev.result = 0 ∧ t.mem = s.mem) ∧
      (∀ i ∈ [Instr.reqRun p, .reqStandby p, .reqSlack p],
        exec i s = .next { s with dev := { s.dev with result := 1 } })) ∧
    (s.dev.mode = .drain →
      (s.drained = true → s.sessionsFree = true → s.mrActive = 0 →
        ∃ t, exec (.reqStandby p) s = .next t ∧ t.dev.mode = .standby ∧ t.dev.result = 0 ∧ t.mem = s.mem) ∧
      ((s.drained = false ∨ s.sessionsFree = false ∨ s.mrActive ≠ 0) →
        exec (.reqStandby p) s = .next { s with dev := { s.dev with result := 2 } })) ∧
    (s.dev.mode = .standby →
      (s.slackReady = true →
        ∃ t, exec (.reqSlack p) s = .next t ∧ t.dev.mode = .slack ∧ t.dev.result = 0 ∧ t.clk.core = false) ∧
      (s.slackReady = false → exec (.reqSlack p) s = .next { s with dev := { s.dev with result := 2 } })) ∧
    (s.dev.mode = .slack →
      (∃ t, exec (.reqStandby p) s = .next t ∧ t.dev.mode = .standby ∧ t.dev.result = 0 ∧ t.clk.core = true ∧
        t.mem = s.mem) ∧
      exec (.reqRun p) s = .next { s with dev := { s.dev with result := 1 } })

/-- The wake frame ends SLACK: with WAKE_EN 1, a frame to SLACK_WAKE_DA on a keep-alive quad brings STANDBY and the CORE domain
back, and any other frame does nothing (R423).
The model's own readings and choices in it: log entries 17 and 46. -/
def Obligations.WakeFrameEndsSlack : Prop :=
  ∀ (s : State) (q : Nat) (da : BitVec 48), s.live = true → s.dev.mode = .slack →
    let want := (s.reg Reg.slackWakeDaLo).toNat + (s.reg Reg.slackWakeDaHi).toNat % 65536 * 2 ^ 32
    (flag (s.reg Reg.slackCtl) 0 = true → s.keepAlive q = true → da.toNat = want →
      ∃ t, exec (.slackWakeFrame q da) s = .next t ∧ t.dev.mode = .standby ∧ t.clk.core = true ∧ t.clk.quadsOff = [] ∧
        t.mem = s.mem) ∧
    ((flag (s.reg Reg.slackCtl) 0 = false ∨ da.toNat ≠ want) → exec (.slackWakeFrame q da) s = .next s)

/-- The device soft reset: accepted in STANDBY, RUN, DEGRADED and DRAIN, it makes every session FREE and every channel IDLE and
suspends the event queue; at its end SRESET is 0 and the mode is STANDBY; in any other mode it is ignored (R425).
The model's own readings and choices in it: log entry 49. -/
def Obligations.DeviceSoftReset : Prop :=
  ∀ (s : State) (p : Path), s.takes p = true →
    (s.dev.sreset = false → (s.dev.mode = .standby ∨ s.running = true ∨ s.dev.mode = .drain) →
      ∃ t, exec (.devSreset p) s = .next t ∧ t.dev.sreset = true ∧ (∀ n, (t.ses n).st = .free) ∧
        (∀ n, (t.dec n).st = .free) ∧ (∀ c, (t.chan c).st = .idle) ∧ t.evq.suspended = true ∧ t.i3c.da = s.i3c.da) ∧
    (s.dev.mode = .slack → exec (.devSreset p) s = .next s) ∧
    (s.dev.sreset = true →
      ∃ t, exec .devSresetDone s = .next t ∧ t.dev.sreset = false ∧ (t.dev.mode = .standby ∨ t.dev.mode = .halt))

/-- A core PLL that loses lock shows it and sets PLL_LOSS; a relock clears it, the stalled captures of the mirror go on, and nothing else
changes; without a relock within 1 ms every
session is evicted (R433, R444). A sensor above TJ_ALERT and at most 175 °C raises OVERTEMP and leaves the mode.
The model's own readings and choices in it: log entries 4, 16 and 73. -/
def Obligations.ClocksAndTemperature : Prop :=
  ∀ (s : State) (k : Clk), s.live = true →
    (s.clk.locked k = true → (s.pg (ordOf .clkpwr 0)).resetting = false →
      ∃ t, exec (.corePllLoss k) s = .next t ∧ t.clk.locked k = false ∧
        (t.pg (ordOf .clkpwr 0)).err.getLsbD 0 = true ∧ t.mem = s.mem) ∧
    (s.clk.locked k = false →
      ∃ t, exec (.corePllRelock k) s = .next t ∧ t.clk.locked k = true ∧ t.dev = s.dev ∧ t.sessions = s.sessions ∧
        t.chans = s.chans ∧ t.out = s.out ∧ (s.net.mirror = [] → t = { s with clk := t.clk })) ∧
    (∀ t0 : Nat, s.clk.locked k = false → Tbl.get? s.clk.lostAt (Clk.code k) = some t0 →
      ∃ t, exec (.corePllRelockTimeout k) s = .next t ∧ t0 + 1250000 ≤ t.tick ∧ t.clk.locked k = false ∧
        (∀ n, (t.ses n).st = .free)) ∧
    (∀ (n : Nat) (v : BitVec 16), n < 6 → v.toInt ≤ 2800 → signed 16 (fld (s.reg Reg.tjAlert) 15 0) < v.toInt →
      (s.pg (ordOf .clkpwr 0)).resetting = false →
      ∃ t, exec (.overtemp n v) s = .next t ∧ t.reg (Reg.devTj n) = word v.toNat ∧
        (t.pg (ordOf .clkpwr 0)).err.getLsbD 1 = true ∧ t.dev.mode = s.dev.mode ∧ t.mem = s.mem)

/-! ## HALT (R417, R447, R455, R463) -/

/-- Tamper, a failed key store and a double parity error of a CP pair put the part in HALT outside OFF: every session is FREE and
every channel IDLE, key slots are empty, ALERT_N is low and part DRAM keeps its contents; a tamper latches its cause. In OFF
they do nothing (R417, R447, R455, R463).
The model's own readings and choices in it: log entry 77. -/
def Obligations.HaltConditions : Prop :=
  ∀ s : State,
    (s.dev.mode ≠ .off → s.dev.mode ≠ .halt →
      ∀ (c : TamperCause) (w : KeyFailure) (n : Nat), n < s.part.cpsPhys →
        ∀ i ∈ [Instr.tamper c, .keyStoreIntegrityFail w, .lockstepDoubleParity n],
          ∃ t, exec i s = .next t ∧ t.dev.mode = .halt ∧ t.alert = true ∧ t.ibr.slots = [] ∧ (∀ k, (t.ses k).st = .free) ∧
            (∀ k, (t.chan k).st = .idle) ∧ t.tick = s.tick ∧ t.part = s.part) ∧
    (s.dev.mode ≠ .off → ∀ c : TamperCause, ∃ t, exec (.tamper c) s = .next t ∧
      t.ibr.tamper = s.ibr.tamper ||| (match c with
        | .supply => 1#4 | .clock => 2#4 | .temperature => 4#4 | .mesh => 8#4)) ∧
    (s.dev.mode = .off → ∀ (c : TamperCause) (w : KeyFailure) (n : Nat),
      ∀ i ∈ [Instr.tamper c, .keyStoreIntegrityFail w, .lockstepDoubleParity n], exec i s = .next s)

/-! ## Pages and their headers (R38 to R45, R435 to R438, R495) -/

/-- Writes of PG_CTL and ERR_CLASS (R38, R42, R45): ENABLE and FREEZE take the written value, but in DRAIN the FREEZE of a page
that DRAIN freezes is kept for later; each class of ERR_CLASS is the written one, raised to the source's minimum.
The model's own readings and choices in it: log entries 53, 84, 85 and 89. -/
def Obligations.PageControlWrites : Prop :=
  ∀ (s : State) (p : Path) (o : Nat) (f : Fam) (n : Nat), s.takes p = true → pageAt s.part o = some (f, n) →
    (∀ on : Bool, exec (.pgCtlEnable p o on) s = .next { s with pages := Tbl.set s.pages o { s.pg o with enable := on } }) ∧
    (∀ on : Bool, (s.pg o).drainFreeze = none →
      exec (.pgCtlFreeze p o on) s = .next { s with pages := Tbl.set s.pages o ((s.pg o).setFreeze on s.tick) }) ∧
    (∀ on b : Bool, (s.pg o).drainFreeze = some b →
      exec (.pgCtlFreeze p o on) s = .next { s with pages := Tbl.set s.pages o { s.pg o with drainFreeze := some on } }) ∧
    (∀ v : Word, f.info.classes ≠ [] →
      ∃ t, exec (.errClassWrite p o v) s = .next t ∧ t = { s with regs := t.regs } ∧
        (∀ a, a ≠ baseOf f n + 0x1C → t.reg a = s.reg a) ∧
        (∀ k, k < f.info.classes.length → fld (t.reg (baseOf f n + 0x1C)) (2 * k + 1) (2 * k) =
          max (fld v (2 * k + 1) (2 * k)) (f.info.classes.getD k 0)))

/-- A page reset (R495): while it runs the page shows RESETTING, ERR_STAT, INT_STAT and the capture are at reset, and a page whose
work it ends is disabled; DEV, CLKPWR, I3C, LEDGER, TIMEBASE, WEIR, MEMCTL and MEMARB keep every function, their ENABLE
included, but for the status bits of the comparators (R426). With no error held back, its end clears RESETTING and nothing else.
The model's own readings and choices in it: log entries 49, 50, 85 and 132. -/
def Obligations.PageReset : Prop :=
  ∀ (s : State) (p : Path) (o : Nat) (f : Fam) (n : Nat), pageAt s.part o = some (f, n) →
    (s.takes p = true → (s.pg o).resetting = false →
      ∃ t, exec (.pgCtlSreset p o) s = .next t ∧ (t.pg o).resetting = true ∧ (t.pg o).err = 0 ∧ (t.pg o).int = 0 ∧
        (t.pg o).armed = true ∧
        (f ∈ [Fam.dev, .clkpwr, .i3c, .ledger, .timebase, .weir, .memctl, .memarb] →
          (t.pg o).enable = (s.pg o).enable ∧ t.tick = s.tick ∧ t.i3c = s.i3c ∧ t.mem = s.mem ∧ t.ldg = s.ldg ∧
          t.tb = { s.tb with hit := t.tb.hit, skip := t.tb.skip }) ∧
        (f ∈ [Fam.stone, .dec, .sessions, .sluice, .millrace, .cp] → (t.pg o).enable = false)) ∧
    (s.up = true → s.dev.sreset = false → (s.pg o).resetting = true → (s.pg o).held = [] →
      exec (.pgSresetDone o) s = .next { s with pages := Tbl.set s.pages o { s.pg o with resetting := false } })

/-- Recording an error (R40, R41, R437, R492), on the pages DEV, I3C and EVQ, whose sources are of class NOTE: the source's bit is
set; an armed capture takes address, master, access and time, and a later error counts in MERGED, saturating; a forced error
is recorded as one with master 0xFFF; a page in reset holds the error back; in HALT the header alone changes. A protocol error of the I3C
page also shows in GETSTATUS (R29). A correctable error within the size of its bucket fills the bucket and nothing else (R408). Part
DRAM, the mode and the sessions stay.
The model's own readings and choices in it: log entries 20, 22 and 23. -/
def Obligations.ErrorRecording : Prop :=
  ∀ (s : State) (o src : Nat) (f : Fam) (n : Nat) (cap : Cap) (obj : Nat) (p : Path),
    f ∈ [Fam.dev, .i3c, .evq] → pageAt s.part o = some (f, n) → src < f.info.classes.length → s.dev.mode ≠ .off →
    let proto := s.i3c.proto || (f == .i3c && src == 4)
    (f.correctable src = false → (s.pg o).resetting = false →
      ∃ t, exec (.errorDetect o src cap obj) s = .next t ∧ (t.pg o).err = (s.pg o).err ||| BitVec.ofNat 16 (2 ^ src) ∧
        (t.pg o).armed = false ∧ t.mem = s.mem ∧ t.dev = s.dev ∧ t.sessions = s.sessions ∧ t.i3c.proto = proto ∧
        ((s.pg o).armed = true → (t.pg o).capAddr = cap.addr ∧ (t.pg o).capMaster = cap.master ∧ (t.pg o).capAcc = cap.acc ∧
          (t.pg o).capTime = s.tick ∧ (t.pg o).merged = 0) ∧
        ((s.pg o).armed = false → (t.pg o).capAddr = (s.pg o).capAddr ∧ (t.pg o).capMaster = (s.pg o).capMaster ∧
          (t.pg o).merged = min ((s.pg o).merged + 1) 0xFFFF)) ∧
    (f.correctable src = false → (s.pg o).resetting = true →
      exec (.errorDetect o src cap obj) s = .next { s with
        i3c := { s.i3c with proto := proto }
        pages := Tbl.set s.pages o { s.pg o with held := (s.pg o).held ++ [⟨src, cap, obj⟩] } }) ∧
    (f.correctable src = false → s.dev.mode = .halt → (s.pg o).resetting = false →
      ∃ t, exec (.errorDetect o src cap obj) s = .next t ∧
        t = { s with i3c := { s.i3c with proto := proto }, pages := t.pages }) ∧
    (f.correctable src = true → (s.pg o).bucket + 1 ≤ s.bucketSize →
      exec (.errorDetect o src cap obj) s = .next { s with
        pages := Tbl.set s.pages o { s.pg o with bucket := (s.pg o).bucket + 1 } }) ∧
    (s.takes p = true → (s.pg o).resetting = false →
      ∃ t, exec (.errForce p o (BitVec.ofNat 16 (2 ^ src))) s = .next t ∧
        (t.pg o).err = (s.pg o).err ||| BitVec.ofNat 16 (2 ^ src) ∧ t.mem = s.mem ∧ t.dev = s.dev ∧
        ((s.pg o).armed = true → (t.pg o).capMaster = 0xFFF))

/-! ## Register reads (R33, R36 to R40, R276) -/

/-- Reads of a whole word with effects, by REGLOAD: a read of ERR_STAT clears the bits it returned, arms the capture and clears MERGED; a read of
INT_STAT clears it; a read of the LO word of a pair keeps the HI word of that instant; a read of TB_NOW_LO, over either path, keeps the
next five words of the same tick. Nothing else changes (R38 to R40, R276).
The model's own readings and choices in it: log entry 52. -/
def Obligations.ReadsClearAndLatch : Prop :=
  ∀ s : State,
   (s.takes .regload = true → ∀ b : Nat, 4 ≤ b →
    (∀ (o : Nat) (f : Fam) (n : Nat), pageAt s.part o = some (f, n) → f.info.classes ≠ [] →
      (Tbl.get? s.shadows (pathKey .regload (baseOf f n + 0x10)) = none →
        exec (.errStatRead .regload o b) s = .next { s with
          pages := Tbl.set s.pages o { s.pg o with err := 0, armed := true, merged := 0 } }) ∧
      (Tbl.get? s.shadows (pathKey .regload (baseOf f n + 0x34)) = none →
        exec (.rcRead .regload (baseOf f n + 0x34) b) s = .next { s with pages := Tbl.set s.pages o { s.pg o with int := 0 } })) ∧
    (∀ (a : Nat) (f : Fam) (n : Nat), s.readable a = true → pageOf s.part a = some (f, n) → f.latches (a % 0x400) = true →
      f.rcBits (a % 0x400) = 0 → ¬ (f = .timebase ∧ a % 0x400 = 0x40) →
      exec (.loWordRead .regload a b) s = .next { s with
        shadows := Tbl.set s.shadows (pathKey .regload (a + 4)) (s.liveWord .regload (a + 4)) }) ∧
    (∃ t, exec (.tbNowLoRead .regload b) s = .next t ∧ t = { s with shadows := t.shadows } ∧
      ∀ k, k < 5 → Tbl.get? t.shadows (pathKey .regload (Reg.tbNowLo + 4 + 4 * k)) =
        some (s.liveWord .regload (Reg.tbNowLo + 4 + 4 * k)))) ∧
    (s.i3cAddressed = true → 4 ≤ s.i3c.mrl →
      ∃ t, exec (.tbNowLoRead .i3c 4) s = .next t ∧ t = { s with shadows := t.shadows, regs := t.regs, out := t.out } ∧
        (Tbl.get? s.shadows (pathKey .i3c Reg.tbNowLo) = none →
          t.out = .i3cData (leBytes 4 (s.liveWord .i3c Reg.tbNowLo).toNat) :: s.out) ∧
        ∀ k, k < 5 → Tbl.get? t.shadows (pathKey .i3c (Reg.tbNowLo + 4 + 4 * k)) =
          some (s.liveWord .i3c (Reg.tbNowLo + 4 + 4 * k)))

/-- A read over I3C at the part's address answers the word, little-endian, and counts a transfer; one that the controller ends within a word answers the bytes
taken and clears nothing (R33); with no address it is not acknowledged. A read of a reserved location answers 0xFFFF_0BAD, sets ACC_FAULT and raises IBI 0x02 with the address (R9,
R26, R36, R37, R40). HDR-DDR (R35): a write command is a private write of its bytes, and an address command followed by a read
command a private read from that address; a failed CRC discards the bytes and sets HDR_CRC. Without an address ENTHDR0 does
nothing.
The model's own readings and choices in it: log entries 9, 53, 84, 85, 86 and 89. -/
def Obligations.I3cTransfers : Prop :=
  (∀ s : State, 4 ≤ s.i3c.mrl →
    (∀ (o : Nat) (f : Fam) (n : Nat), pageAt s.part o = some (f, n) → f.info.classes ≠ [] → s.i3cAddressed = true →
      Tbl.get? s.shadows (baseOf f n + 0x10) = none →
      ∃ t, exec (.errStatRead .i3c o 4) s = .next t ∧ t.out = .i3cData (leBytes 4 (s.pg o).err.toNat) :: s.out ∧
        t.pg o = { s.pg o with err := 0, armed := true, merged := 0 } ∧ t = { s with pages := t.pages, out := t.out, regs := t.regs } ∧
        t.reg Reg.i3cXfers = s.reg Reg.i3cXfers + 1) ∧
    (∀ (o : Nat) (f : Fam) (n k : Nat), pageAt s.part o = some (f, n) → f.info.classes ≠ [] → s.i3cAddressed = true → 0 < k → k < 4 →
      Tbl.get? s.shadows (baseOf f n + 0x10) = none →
      ∃ t, exec (.errStatRead .i3c o k) s = .next t ∧ t = { s with out := t.out, regs := t.regs } ∧
        t.out = .i3cData ((leBytes 4 (s.pg o).err.toNat).take k) :: s.out) ∧
    (s.i3cAddressed = false → ∀ o k, (pageAt s.part o).isSome = true →
      exec (.errStatRead .i3c o k) s = .next { s with out := .i3cNack :: s.out }) ∧
    (∀ a : Nat, a < 2 ^ 24 → s.readable a = false → s.i3cAddressed = true → s.dev.mode ≠ .halt →
      (s.pg (ordOf .i3c 0)).resetting = false →
      ∃ t, exec (.reservedLocationRead a 4) s = .next t ∧ t.out = .i3cData [0xAD, 0x0B, 0xFF, 0xFF] :: s.out ∧
        (t.pg (ordOf .i3c 0)).err.getLsbD 0 = true ∧ (⟨2, a⟩ : Ibi) ∈ t.i3c.ibis ∧ t.mem = s.mem ∧ t.dev = s.dev)) ∧
  (∀ s : State,
    (s.i3cAddressed = true → ∀ l : List Byte,
      ∃ t, exec (.enthdr0 [.write l true]) s = .next t ∧ exec (.registerWrite .i3c l) s = .next t) ∧
    (s.i3cAddressed = true → s.live = true → (s.pg (ordOf .i3c 0)).resetting = false → ∀ l : List Byte,
      ∃ t, exec (.enthdr0 [.write l false]) s = .next t ∧ (t.pg (ordOf .i3c 0)).err.getLsbD 3 = true ∧ t.mem = s.mem ∧
        t.out = s.out ∧ ∀ b, b ≠ Reg.i3cXfers → t.reg b = s.reg b) ∧
    (s.i3cAddressed = true → ∀ (a : Nat) (k : Nat), a < 2 ^ 24 →
      exec (.enthdr0 [.readAddr (leBytes 3 a) true, .read k]) s = .next (s.i3cRead a k)) ∧
    (s.i3cAddressed = false → ∀ l : List HdrCmd, exec (.enthdr0 l) s = .next s))

/-! ## Register writes (R30 to R36, R417, R491, R493) -/

/-- A one-word write by REGLOAD to a plain register stores the bits of its writable fields and nothing else, shown for PD_DRAIN_US,
SLACK_CTL, TJ_ALERT, EVQ_NOTIFY_COAL, LDG_MIN_INTERVAL_S and EVQ_LAG_LIMIT; a write to a reserved location changes no
register but sets ACC_FAULT with master 0x201 and access 0xA. Over I3C without an address a write is not acknowledged, and in
HALT it is discarded with no capture (R26, R30, R36, R417, R491).
The model's own readings and choices in it: log entries 53, 54 and 89. -/
def Obligations.RegisterWrites : Prop :=
  ∀ (s : State) (v : Word),
    (s.takes .regload = true →
      ∀ r ∈ [(Reg.pdDrainUs, 0xFFFF#32), (Reg.slackCtl, 3#32), (Reg.tjAlert, 0xFFFF#32),
             (Reg.evqNotifyCoal, 0xFFFFFFFF#32), (Reg.ldgMinIntervalS, 0xFFFF#32), (Reg.evqLagLimit, 0xFFFFFFFF#32)],
        ∃ t, exec (.registerWrite .regload (leBytes 3 r.1 ++ leBytes 4 v.toNat)) s = .next t ∧
          t.reg r.1 = (s.reg r.1 &&& ~~~r.2) ||| (v &&& r.2) ∧ (∀ a, a ≠ r.1 → t.reg a = s.reg a) ∧ t = { s with regs := t.regs }) ∧
    (∀ a : Nat, s.takes .regload = true → a < 2 ^ 24 → s.writeShut .regload a = true → (s.pg (ordOf .i3c 0)).resetting = false →
      (s.pg (ordOf .i3c 0)).armed = true →
      ∃ t, exec (.registerWrite .regload (leBytes 3 a ++ leBytes 4 v.toNat)) s = .next t ∧
        (t.pg (ordOf .i3c 0)).err.getLsbD 0 = true ∧ (t.pg (ordOf .i3c 0)).capAddr = BitVec.ofNat 64 a ∧
        (t.pg (ordOf .i3c 0)).capMaster = 0x201 ∧ (t.pg (ordOf .i3c 0)).capAcc = 0xA ∧
        (∀ b, b ≠ Reg.i3cAccFaults → t.reg b = s.reg b) ∧ t.mem = s.mem ∧ t.dev = s.dev) ∧
    (∀ l : List Byte, s.i3cAddressed = false →
      exec (.registerWrite .i3c l) s = .next { s with out := .i3cNack :: s.out }) ∧
    (∀ l : List Byte, s.i3cAddressed = true → s.dev.mode = .halt →
      ∃ t, exec (.registerWrite .i3c l) s = .next t ∧ t = { s with regs := t.regs, out := t.out } ∧
        ∀ b, b ≠ Reg.i3cXfers → t.reg b = s.reg b)

/-- A code that a command field does not list starts nothing and shows BAD_CMD in its result (R493), for the Hopper, the scrubber,
the forwarding tables, the library, the Sluice and the Ledger.
The model's own readings and choices in it: log entry 57. -/
def Obligations.UnlistedCodes : Prop :=
  ∀ (s : State) (p : Path) (v : Word), s.takes p = true →
    (fld v 7 4 ≠ 1 → fld v 7 4 ≠ 2 →
      exec (.unlistedCommandCode p (baseOf .hopper 0 + 0x40) v) s = .next { s with hop := { s.hop with result := 3 } }) ∧
    (fld v 3 0 ≠ 1 → fld v 3 0 ≠ 2 →
      exec (.unlistedCommandCode p (baseOf .memarb 0 + 0xA0) v) s = .next { s with mem := { s.mem with scrubRes := 3 } }) ∧
    (fld v 7 4 ≠ 1 → fld v 7 4 ≠ 2 →
      exec (.unlistedCommandCode p (baseOf .runners0 0 + 0x50) v) s = .next { s with
        runners := { s.runners with result := 6 } }) ∧
    (fld v 15 12 ≠ 1 →
      exec (.unlistedCommandCode p (baseOf .sluice 0 + 0x60) v) s = .next { s with
        regs := Tbl.set s.regs (bank p Reg.sluFlowResult) 3 }) ∧
    ((fld v 2 0 = 0 ∨ 5 < fld v 2 0) →
      ∃ t, exec (.unlistedCommandCode p (baseOf .fwd 0 + 0x78) v) s = .next t ∧ t.net.fwd.entries = s.net.fwd.entries ∧
        t.net.fwd.staged = s.net.fwd.staged ∧ t.mem = s.mem) ∧
    ((fld v 3 0 = 0 ∨ 6 < fld v 3 0) → s.ldg.busy = false →
      exec (.unlistedCommandCode p (baseOf .ledger 0 + 0x48) v) s = .next { s with ldg := { s.ldg with result := 6 } })

/-- The configuration CRC (R46, R47): CFG_COMMIT with 0x0000_C5A1 starts a commit pass and any other value does nothing; a background
pass starts while CFG_CTL.RUN is 1; the end of a commit pass makes its results the reference; the end of another pass whose
pages all match the reference changes the checker alone and counts the pass.
The model's own readings and choices in it: log entry 60. -/
def Obligations.ConfigurationCrc : Prop :=
  ∀ (s : State) (p : Path), s.takes p = true →
    exec (.cfgCommit p 0xC5A1#32) s = .next { s with cfg := { s.cfg with commitBusy := true, passBusy := true } } ∧
    (∀ v : Word, v ≠ 0xC5A1#32 → exec (.cfgCommit p v) s = .next s) ∧
    (flag (s.reg Reg.cfgCtl) 0 = true → s.cfg.passBusy = false →
      exec .cfgPassStart s = .next { s with cfg := { s.cfg with passBusy := true } }) ∧
    (s.cfg.passBusy = true → s.cfg.commitBusy = true →
      ∃ t, exec .cfgPassEnd s = .next t ∧ t = { s with cfg := t.cfg } ∧ t.cfg.refValid = true ∧ t.cfg.refs = s.pageCrcs ∧
        t.cfg.refCrc = t.cfg.liveCrc ∧ t.cfg.commitBusy = false ∧ t.cfg.passBusy = false ∧ t.cfg.mmCount = 0) ∧
    (s.cfg.passBusy = true → s.cfg.commitBusy = false →
      (∀ e ∈ s.pageCrcs, Tbl.getD s.cfg.refs e.1 0 = e.2) →
      ∃ t, exec .cfgPassEnd s = .next t ∧ t = { s with cfg := t.cfg } ∧ t.cfg.passes = s.cfg.passes + 1 ∧ t.cfg.mmCount = 0 ∧
        t.cfg.refs = s.cfg.refs ∧ t.cfg.passBusy = false)

/-! ## The event queue and the router (R43, R48 to R55, R363, R364, R369) -/

/-- The host's and REGLOAD's side of the event queue: a consumer index in range returns credit and any other is ignored with BAD_CONS
(R53); EVQ_CTL is discarded with CFG where it changes the ring while enabled, and otherwise takes effect and clears SUSPENDED
when EN rises (R55).
The model's own readings and choices in it: log entries 87, 88 and 89. -/
def Obligations.EventQueueWrites : Prop :=
  ∀ (s : State) (v : Word),
    let reaches := fun (d : Option Path) => match d with
      | none => s.coreUp
      | some p => s.takes p
    (∀ d : Option Path, reaches d = true → (s.evq.prod + 2 ^ 17 - v.toNat % 2 ^ 17) % 2 ^ 17 ≤ (s.evq.prod + 2 ^ 17 - s.evq.cons) % 2 ^ 17 →
      ∃ t, exec (.evqConsWrite d v) s = .next t ∧ t.evq.cons = v.toNat % 2 ^ 17 ∧ t = { s with evq := t.evq } ∧
        t.evq.prod = s.evq.prod) ∧
    (∀ d : Option Path, reaches d = true → (s.evq.prod + 2 ^ 17 - s.evq.cons) % 2 ^ 17 < (s.evq.prod + 2 ^ 17 - v.toNat % 2 ^ 17) % 2 ^ 17 →
      (s.pg (ordOf .evq 0)).resetting = false →
      ∃ t, exec (.evqConsWrite d v) s = .next t ∧ t.evq = s.evq ∧ (t.pg (ordOf .evq 0)).err.getLsbD 0 = true ∧ t.mem = s.mem) ∧
    (∀ p : Path, s.takes p = true → flag s.evqCtl 0 = true → flag s.evqCtl 1 ≠ flag v 1 → (s.pg (ordOf .evq 0)).resetting = false →
      ∃ t, exec (.evqCtlWrite p v) s = .next t ∧ t.reg Reg.evqCtl = s.reg Reg.evqCtl ∧
        (t.pg (ordOf .evq 0)).err.getLsbD 2 = true ∧ t.evq = s.evq) ∧
    (∀ p : Path, s.takes p = true → flag s.evqCtl 0 = false → flag v 0 = true → 6 ≤ fld v 8 4 → fld v 8 4 ≤ 16 →
      ∃ t, exec (.evqCtlWrite p v) s = .next t ∧ t.reg Reg.evqCtl = v &&& 0x3FFDF7#32 ∧ t.evq = { s.evq with suspended := false } ∧
        t = { s with regs := t.regs, evq := t.evq })

/-- Source messages (R43, R48, R369): SRC_DB and EVR_INJECT send a software source from 3,072 to 4,095 and refuse any other value
with BAD_DB; INT_COAL.TIME after the first gathered cause the page sends its message, and gathers afresh.
The model's own readings and choices in it: log entries 4, 61, 87 and 89. -/
def Obligations.SourceMessages : Prop :=
  ∀ (s : State) (v : Word) (p : Path), s.coreUp = true → s.takes p = true →
    (3072 ≤ v.toNat → v.toNat < 4096 →
      exec (.srcDb v) s = .next { s with
        inputs := Tbl.set s.inputs 4 (Tbl.getD s.inputs 4 [] ++ [⟨v.toNat, .soft, s.tick⟩]) } ∧
      exec (.evrInject p v) s = .next { s with
        inputs := Tbl.set s.inputs 7 (Tbl.getD s.inputs 7 [] ++ [⟨v.toNat, .soft, s.tick⟩]) }) ∧
    ((v.toNat < 3072 ∨ 4096 ≤ v.toNat) → (s.pg (ordOf .millrace 0)).resetting = false →
      ∃ t u, exec (.srcDb v) s = .next t ∧ exec (.evrInject p v) s = .next u ∧
        (t.pg (ordOf .millrace 0)).err.getLsbD 3 = true ∧ (u.pg (ordOf .millrace 0)).err.getLsbD 3 = true ∧
        Tbl.getD t.inputs 4 [] = Tbl.getD s.inputs 4 [] ∧ Tbl.getD u.inputs 7 [] = Tbl.getD s.inputs 7 []) ∧
    (∀ (o : Nat) (f : Fam) (n : Nat), pageAt s.part o = some (f, n) → (s.pg o).gathered ≠ 0 →
      fld (s.reg (baseOf f n + 0x3C)) 15 0 ≠ 0 →
      ∃ t, exec (.intCoalTimeExpiry o) s = .next t ∧ (t.pg o).gathered = 0 ∧
        (s.pg o).gatherAt + 1250 * fld (s.reg (baseOf f n + 0x3C)) 15 0 ≤ t.tick ∧
        Tbl.getD t.inputs 0 [] = Tbl.getD s.inputs 0 [] ++ [⟨2048 + ordOf f n, .page (s.pg o).gatherClass, t.tick⟩] ∧
        t = { s with pages := t.pages, inputs := t.inputs, tick := t.tick })

/-- The router takes the first message of its inputs (R335, R363, R364): a software message with no record asked for counts for a WAIT
or ends the oldest WAIT on its source; the message leaves its input and EVR_MSGS counts it; while a full hold queue blocks
delivery nothing moves. The time-driven sides: a notification after TIME, LAG after EVQ_LAG_LIMIT, and the OVERFLOW record once
an eighth of the ring is free (R52, R54, R55).
The model's own readings and choices in it: log entries 4, 6, 61, 87 and 88. -/
def Obligations.RouterAndQueue : Prop :=
  ∀ s : State,
    (∀ (k src t0 : Nat) (l : List Msg) (rest : Tbl (List Msg)), s.coreUp = true → s.clocked .millrace = true →
      s.routerBlocked = false → s.inputs = (k, ⟨src, .soft, t0⟩ :: l) :: rest → s.swRec src = false →
      ∃ t, exec .routerMessage s = .next t ∧ t.inputs = (k, l) :: rest ∧ t.reg Reg.evrMsgs = s.reg Reg.evrMsgs + 1 ∧
        t.evq = s.evq ∧ t.mem = s.mem ∧
        ((s.waits.find? fun e => e.1 == src) = none → Tbl.getD t.wcnt src 0 = min (Tbl.getD s.wcnt src 0 + 1) 255 ∧ t.chans = s.chans)) ∧
    (s.routerBlocked = true → exec .routerMessage s = .next s) ∧
    (s.coreUp = true → s.evq.unnotified ≠ 0 → fld (s.reg Reg.evqNotifyCoal) 15 0 ≠ 0 →
      ∃ t, exec .evqNotifyTimeout s = .next t ∧ t.evq = { s.evq with unnotified := 0 } ∧ t.mem = s.mem ∧
        (flag s.evqCtl 2 = true → (⟨1, s.evq.prod % 2 ^ 24⟩ : Ibi) ∈ t.i3c.ibis)) ∧
    (∀ t0 : Nat, s.live = true → flag s.evqCtl 0 = true → s.evq.fullAt = some t0 → (s.pg (ordOf .evq 0)).resetting = false →
      ∃ t, exec .evqLagExpiry s = .next t ∧ (t.pg (ordOf .evq 0)).err.getLsbD 1 = true ∧ t.evq = { s.evq with fullAt := none } ∧
        t0 + 1250 * (s.reg Reg.evqLagLimit).toNat ≤ t.tick) ∧
    (s.evq.lost ≠ [] → s.reposts = [] → s.evqCanWrite = true → s.evqSize ≤ 8 * (s.evqSize - s.evqUsed) →
      ∃ t, exec .evqOverflowWrite s = .next t ∧ t.evq.lost = [] ∧ t.evq.prod = (s.evq.prod + 1) % 2 ^ 17) ∧
    (s.evqCanWrite = false → exec .evqOverflowWrite s = .next s)

/-! ## Takeovers (R120, R121, R213, R358, R424) -/

/-- Takeovers and the end of a drain (R120, R121, R213, R358, R424): the lowest spare serves the logical unit of the failed one, and
reads checkpoints only where a tile column is in progress there; a stone with no spare left stays unmapped and RUN becomes DEGRADED; a step that had not started its effect runs again. After
PD_DRAIN_US the core domain's drain is over; a quad with no link leaving is untouched.
The model's own readings and choices in it: log entry 48. -/
def Obligations.Takeovers : Prop :=
  ∀ (s : State) (n m : Nat), s.live = true →
    (s.stoneOwed n = true → s.spareStone = some m →
      ∃ t, exec (.stoneTakeover n) s = .next t ∧ (t.stone m).role = .usable ∧ (t.stone m).lstone = (s.stone n).lstone ∧
        (t.stone n).role = .retired ∧ t.stoneOf (s.stone n).lstone = some m ∧ t.dev = s.dev ∧
        (∀ k, (t.ses k).st = (s.ses k).st) ∧
        (s.columnsOn (s.stone n).lstone = [] → t.mem = s.mem ∧ ∀ a, a ≠ Reg.stoneResumed m → t.reg a = s.reg a)) ∧
    (s.stoneOwed n = true → s.spareStone = none →
      ∃ t, exec (.stoneTakeover n) s = .next t ∧ t.stoneOf (s.stone n).lstone = none ∧
        t.dev.mode = (if s.dev.mode = .run then .degraded else s.dev.mode)) ∧
    (s.stoneOwed n = false → exec (.stoneTakeover n) s = .next s) ∧
    (s.runnerOwed n = true → s.spareRunner = some m →
      ∃ t, exec (.runnerTakeover n) s = .next t ∧ t.runnerOf (s.runner n).logical = some m ∧ (t.runner m).role = .usable ∧
        (t.runner m).logical = (s.runner n).logical ∧ t.reg Reg.runTakeovers = word (min ((s.reg Reg.runTakeovers).toNat + 1) 0xFFFFFFFF) ∧
        t.mem = s.mem ∧ t.dev = s.dev) ∧
    ((s.cp n).failed = true → (s.cp n).role = .retired → s.spareCp n = some m → (s.cp m).img = none →
      (∀ c ∈ s.chansOf (s.cp n).logical, (s.chan c).run = none) →
      ∃ t, exec (.cpTakeover n) s = .next t ∧ (t.cp m).role = .usable ∧ (t.cp m).logical = (s.cp n).logical ∧
        (t.cp n).failed = false ∧ t.chans = s.chans ∧ t.mem = s.mem ∧ t.dev = s.dev ∧ t.regs = s.regs) ∧
    ((∃ d ∈ s.clk.drains, d.dom = .core) →
      exec (.pdDrainExpiry .core) s = .next { s with
        clk := { s.clk with drains := s.clk.drains.filter fun d => !(d.dom == .core) } }) ∧
    (∀ q, (∀ d ∈ s.clk.drains, d.dom ≠ .quad q) → exec (.pdDrainExpiry (.quad q)) s = .next s)

/-! ## Encode sessions (R56 to R77) -/

/-- The session commands of SES_CMD (R57 to R61, R64): SETUP takes a checked descriptor and makes the session READY; START makes a READY
one RUNNING; STOP frees a READY one and makes another STOPPING; ABORT frees it. The result register names session, command and
code. A command in the wrong state or for no session of the part changes no session, ends with its code and sets REFUSED. A CONTROL
step brings the same command and ends with OK or, with the code as detail, SESSION_REFUSED (R59).
The model's own readings and choices in it: log entries 53, 94, 95 and 96. -/
def Obligations.SessionCommands : Prop :=
  ∀ (s : State) (p : Path) (n : Nat), s.coreTakes p = true →
    let done (t : State) (cmd code : Nat) : Prop := t.reg (bank p Reg.sesResult) = pack [(0, n), (12, cmd), (16, code)]
    (∀ (d t : List Byte) (f : FlowDesc) (s1 s2 s3 : State), n < s.part.encSessions → ((s.ses n).st = .free ∨ (s.ses n).st = .ready) →
      s.readBytes 0x122 0x0 (s.preg64 p Reg.sesDescLo / 64 * 64) 256 = (some d, s1) →
      s1.readBytes 0x123 0x0 (s1.reg64 Reg.pktTmplBaseLo + 128 * dTmpl d) 128 = (some t, s2) →
      s2.readFlow (dFlow d) = (some f, s3) → s3.sesDescOk n d t (some f) = true → s3.sesPresent d = true →
      s3.sesRunners d = true → (s3.sesUnbind n).refRoom (dGclass d) (1 + dNshort d + dNlong d) true = true →
      (s3.sesUnbind n).leatRoom (dMaxSegs d) = true →
      ∃ u, exec (.sesSetup (.reg p) n) s = .next u ∧ done u 1 0 ∧ (u.ses n).st = .ready ∧ (u.ses n).desc = d ∧
        (u.ses n).preset = dPreset d ∧ (u.ses n).pkt.tmpl = t ∧ (u.ses n).pkt.next = dSeq0 d ∧
        (u.rses n).bufs.length = 1 + dNshort d + dNlong d ∧ (u.lane (dLane d)).isOpen = true ∧ (u.lane (dLane d)).owner = n) ∧
    (n < s.part.encSessions → (s.ses n).st = .ready → s.running = true →
      usNet (dDeadline (s.ses n).desc) ≤ s.framePer (s.ses n).desc →
      s.admits ((s.ses n).desc :: s.admitted) (s.ses n).desc = true →
      ∃ t, exec (.sesStart (.reg p) n) s = .next t ∧ done t 2 0 ∧ (t.ses n).st = .running ∧ (t.ses n).next = 0 ∧
        (t.ses n).due = [] ∧ (t.ses n).lateDue = [] ∧ (t.ses n).lines = (s.ses n).lines ∧ (t.ses n).desc = (s.ses n).desc ∧
        (∀ m, m ≠ n → t.ses m = s.ses m) ∧ t = { s with sessions := t.sessions, inputs := t.inputs, regs := t.regs }) ∧
    (n < s.part.encSessions → ((s.ses n).st = .running ∨ (s.ses n).st = .held) →
      ∃ t, exec (.sesStop (.reg p) n) s = .next t ∧ done t 3 0 ∧ (t.ses n).st = .stopping ∧ (t.ses n).due = [] ∧
        (∀ m, m ≠ n → t.ses m = s.ses m) ∧ t = { s with sessions := t.sessions, regs := t.regs }) ∧
    (n < s.part.encSessions → (s.ses n).st = .ready →
      ∃ t, exec (.sesStop (.reg p) n) s = .next t ∧ done t 3 0 ∧ (t.ses n).st = .free ∧ (t.ses n).desc = []) ∧
    (n < s.part.encSessions → (s.ses n).st ≠ .free →
      ∃ t, exec (.sesAbort (.reg p) n) s = .next t ∧ done t 4 0 ∧ (t.ses n).st = .free ∧ (t.ses n).desc = [] ∧
        (t.ses n).late = (s.ses n).late) ∧
    (∀ (c : Nat) (r : StepRun), n < s.part.encSessions → (s.chan c).run = some r →
      (s.byStep (.channel c) 4 4 n = true → (s.ses n).st ≠ .free →
        ∃ t, exec (.sesAbort (.channel c) n) s = .next t ∧ (t.ses n).st = .free ∧
          (t.chan c).run = some { r with fin := some ⟨0, 0, 0⟩ }) ∧
      (s.byStep (.channel c) 4 2 n = true → (s.ses n).st = .free →
        ∃ t, exec (.sesStart (.channel c) n) s = .next t ∧ t.sessions = s.sessions ∧
          (t.chan c).run = some { r with fin := some ⟨0x0D, 1, 0⟩ })) ∧
    ((s.pg (ordOf .sessions 0)).resetting = false →
      (s.part.encSessions ≤ n → ∀ c ∈ [(1, Instr.sesSetup (.reg p) n), (2, .sesStart (.reg p) n), (3, .sesStop (.reg p) n),
          (4, .sesAbort (.reg p) n)],
        ∃ t, exec c.2 s = .next t ∧ done t c.1 2 ∧ t.sessions = s.sessions ∧ t.mem = s.mem ∧
          (t.pg (ordOf .sessions 0)).err.getLsbD 3 = true) ∧
      (n < s.part.encSessions → (s.ses n).st = .free → ∀ c ∈ [(2, Instr.sesStart (.reg p) n), (3, .sesStop (.reg p) n),
          (4, .sesAbort (.reg p) n)],
        ∃ t, exec c.2 s = .next t ∧ done t c.1 1 ∧ t.sessions = s.sessions ∧ t.mem = s.mem ∧
          (t.pg (ordOf .sessions 0)).err.getLsbD 3 = true))

/-- Triggers, stripes and the lines of a frame (R66 to R72): a match makes each (DIVIDER + 1)th frame of its sessions due; a good
stripe doorbell raises the lines held and never lowers them, and a bad one is counted and sets BAD_STRIPE; INGEST_TIMEOUT lets the
late rows go in floor mode, of a frame in progress or of one that waits for its predecessor.
The model's own readings and choices in it: log entries 4, 6, 87 and 93. -/
def Obligations.TriggersAndStripes : Prop :=
  ∀ (s : State) (n : Nat),
    (∀ t0 m : Nat, Tbl.get? s.tb.next n = some t0 → s.live = true → s.cmpEn n = true → (s.ses m).st = .running →
      dTrig (s.ses m).desc = n →
      ∃ t, exec (.comparatorMatch n) s = .next t ∧ t.tick = max s.tick (s.tickOf t0) ∧ flag t.tb.hit n = decide (n < 32) ∧
        (t.ses m).begun = true ∧ (t.ses m).st = .running ∧ t.mem = s.mem ∧
        ((s.ses m).begun = false → (t.ses m).due = (s.ses m).due ++
          [⟨0, t0 + dPhase (s.ses m).desc, picClass (s.ses m).desc (s.ses m).sinceKey⟩]) ∧
        ((s.ses m).begun = true → ((s.ses m).count + 1) % (dDivider (s.ses m).desc + 1) = 0 →
          (t.ses m).due = (s.ses m).due ++
            [⟨((s.ses m).count + 1) / (dDivider (s.ses m).desc + 1), t0 + dPhase (s.ses m).desc,
              picClass (s.ses m).desc (s.ses m).sinceKey⟩]) ∧
        ((s.ses m).begun = true → ((s.ses m).count + 1) % (dDivider (s.ses m).desc + 1) ≠ 0 → (t.ses m).due = (s.ses m).due)) ∧
    ((s.live = false ∨ s.cmpEn n = false) → exec (.comparatorMatch n) s = .next s) ∧
    (∀ (r : Nat) (v : Word), s.coreUp = true →
      let x := s.ses (fld v 8 0)
      let off := (fld v 30 23 + 256 - x.kRd % 256) % 256
      (x.st ≠ .free → x.st ≠ .stopping → dRenderer x.desc = r → flag v 31 = false → fld v 22 9 ≤ dInH x.desc → off < dSlots x.desc →
        ∃ t, exec (.stripeDb r v) s = .next t ∧ (t.ses (fld v 8 0)).held (x.kRd + off) = max (x.held (x.kRd + off)) (fld v 22 9) ∧
          (∀ m, m ≠ fld v 8 0 → t.ses m = s.ses m) ∧ t = { s with sessions := t.sessions, inputs := t.inputs }) ∧
      ((x.st = .free ∨ x.st = .stopping ∨ dRenderer x.desc ≠ r ∨ flag v 31 = true ∨ dInH x.desc < fld v 22 9 ∨
          dSlots x.desc ≤ off) →
        (s.pg (ordOf .sessions 0)).resetting = false →
        ∃ t, exec (.stripeDb r v) s = .next t ∧ (t.ses (fld v 8 0)).dbDrop = min (x.dbDrop + 1) 0xFFFFFFFF ∧
          (t.ses (fld v 8 0)).lines = x.lines ∧ (t.pg (ordOf .sessions 0)).err.getLsbD 0 = true ∧ t.mem = s.mem)) ∧
    (∀ f : Frame, (s.ses n).active = some f → s.coreUp = true → f.timedOut = false → (s.ses n).held f.k < dInH (s.ses n).desc →
      (s.pg (ordOf .sessions 0)).resetting = false →
      ∃ t, exec (.ingestTimeout n) s = .next t ∧ (t.ses n).frame = some { f with timedOut := true } ∧ t.mem = s.mem ∧
        (t.pg (ordOf .sessions 0)).err.getLsbD 1 = true ∧ (∀ m, m ≠ n → t.ses m = s.ses m)) ∧
    (∀ k tk : Nat, (s.ses n).waited = some (k, tk, false) → s.coreUp = true → (s.pg (ordOf .sessions 0)).resetting = false →
      ∃ t, exec (.ingestTimeout n) s = .next t ∧ (t.ses n).lateDue = (s.ses n).lateDue ++ [k] ∧ t.mem = s.mem ∧
        (t.pg (ordOf .sessions 0)).err.getLsbD 1 = true ∧ (∀ m, m ≠ n → t.ses m = s.ses m))

/-- Frames (R58, R71, R73 to R75): the next due frame of a RUNNING session starts when none is in progress, and takes a buffer, whose
LOST map it clears and no other byte of part DRAM; its completion
moves the debt by its duration less the deadline, counts a late one, and in DRAIN holds the session; a STOPPING session with nothing
left is FREE.
The model's own readings and choices in it: log entries 4, 6, 91, 94, 97 and 106. -/
def Obligations.Frames : Prop :=
  ∀ (s : State) (n : Nat),
    (∀ (e : Due) (b : Nat), (s.ses n).pick = some e → (s.ses n).st = .running → (s.ses n).active = none → s.framesGo n = true →
      s.running = true → s.memServes = true → s.refSpare n = some b →
      ∃ t f, exec (.frameStart n) s = .next t ∧ (t.ses n).active = some f ∧ f.k = e.k ∧ f.tk = e.tk ∧ f.buf = b ∧ f.segs = [] ∧
        ((s.ses n).debt = 0 → f.preset = dPreset (s.ses n).desc) ∧
        (t.ses n).due = (s.ses n).due.filter (· != e) ∧ (t.ses n).next = max (s.ses n).next (e.k + 1) ∧ (t.ses n).st = .running ∧
        (t.ses n).debt = (s.ses n).debt ∧ t.tick = max s.tick (s.tickOf e.tk) ∧ (∀ m, m ≠ n → t.ses m = s.ses m) ∧
        (∀ a, (a < s.mapBase b ∨ s.mapBase b + 64 * ceilDiv (ceilDiv (s.clsBlocks (keyCls b)) 8) 64 ≤ a) →
          t.mem.byteAt a = s.mem.byteAt a) ∧
        t = { s with sessions := t.sessions, refs := t.refs, mem := t.mem, sites := t.sites, regs := t.regs, pages := t.pages,
                     inputs := t.inputs, i3c := t.i3c, ldg := t.ldg, tick := t.tick }) ∧
    (((s.ses n).st ≠ .running ∨ (s.ses n).pick = none ∨ s.framesGo n = false) → exec (.frameStart n) s = .next s) ∧
    (∀ f : Frame, s.coreUp = true → (s.ses n).active = some f → f.coded = true →
      let dur := s.netTime - f.tk
      let lim := usNet (dDeadline (s.ses n).desc)
      ∃ t, exec (.frameComplete n) s = .next t ∧ (t.ses n).active = none ∧
        (t.ses n).frame = some { f with done := true, dur := dur, input := [] } ∧
        (t.ses n).debt = (s.ses n).debt + dur - lim ∧
        (t.ses n).late = (if lim < dur then min ((s.ses n).late + 1) 0xFFFFFFFF else (s.ses n).late) ∧
        (t.ses n).st = (if s.dev.mode = .drain ∧ (s.ses n).st = .running then .held else (s.ses n).st) ∧
        (∀ m, m ≠ n → t.ses m = s.ses m) ∧ t.mem = s.mem ∧ t.dev = s.dev) ∧
    ((∀ f, (s.ses n).active = some f → f.coded = false) → exec (.frameComplete n) s = .next s) ∧
    (s.coreUp = true → s.sesSpent n = true →
      ∃ t, exec (.sessionStopped n) s = .next t ∧ (t.ses n).st = .free ∧ (t.ses n).desc = [] ∧ t.dev = s.dev) ∧
    (s.sesSpent n = false → exec (.sessionStopped n) s = .next s)

/-! ## Channels and their steps (R320 to R345) -/

/-- Channel commands (R48, R321, R322): START makes an IDLE channel ACTIVE at its program; RESUME lets a HELD one go on and is kept
in a latch while it runs; STOP makes a WAITING, HELD or FAULTED one IDLE and asks a step in progress to end. A channel that the part
lacks gives BAD_DB and an action that its state refuses BAD_CMD; both are counted and change no channel.
The model's own readings and choices in it: log entry 61. -/
def Obligations.ChannelCommands : Prop :=
  ∀ (s : State) (b : ChanBy) (c : Nat), s.coreUp = true → s.chanVia b = true →
    (c < s.part.channels → flag (s.chan c).cfg 0 = true →
      ((s.chan c).st = .idle →
        ∃ t, exec (.chanStart b c) s = .next t ∧ (t.chan c).st = .active ∧ (t.chan c).pc = (s.chan c).prog ∧
          (t.chan c).run = none ∧ (∀ k, k ≠ c → t.chan k = s.chan k) ∧ t = { s with chans := t.chans, inputs := t.inputs }) ∧
      (∀ p, (s.chan c).st = .held → (s.chan c).nextPc = some p →
        ∃ t, exec (.chanResume b c) s = .next t ∧ (t.chan c).st = .active ∧ (t.chan c).pc = p ∧
          t = { s with chans := t.chans, inputs := t.inputs }) ∧
      (((s.chan c).st = .active ∨ (s.chan c).st = .waiting) →
        ∃ t, exec (.chanResume b c) s = .next t ∧ t.chan c = { s.chan c with latch := true } ∧
          t = { s with chans := t.chans, inputs := t.inputs }) ∧
      (((s.chan c).st = .waiting ∨ (s.chan c).st = .held ∨ (s.chan c).st = .faulted ∨
          ((s.chan c).st = .active ∧ (s.chan c).run = none)) →
        ∃ t, exec (.chanStop b c) s = .next t ∧ (t.chan c).st = .idle ∧ t.dev = s.dev) ∧
      (∀ r, (s.chan c).st = .active → (s.chan c).run = some r →
        ∃ t, exec (.chanStop b c) s = .next t ∧ (t.chan c).st = .active ∧ (t.chan c).run.bind (·.ending) = some 1 ∧
          t.mem = s.mem ∧ t.dev = s.dev) ∧
      ((s.chan c).st = .idle → (s.pg (ordOf .millrace 0)).resetting = false → ∀ i ∈ [Instr.chanResume b c, .chanStop b c],
        ∃ t, exec i s = .next t ∧ t.chans = s.chans ∧ t.mem = s.mem ∧ (t.pg (ordOf .millrace 0)).err.getLsbD 4 = true)) ∧
    (s.part.channels ≤ c → (s.pg (ordOf .millrace 0)).resetting = false →
      ∀ i ∈ [Instr.chanStart b c, .chanResume b c, .chanStop b c],
        ∃ t, exec i s = .next t ∧ t.chans = s.chans ∧ t.mem = s.mem ∧ (t.pg (ordOf .millrace 0)).err.getLsbD 3 = true ∧
          t.reg Reg.mrDbDrop = word (min ((s.reg Reg.mrDbDrop).toNat + 1) 0xFFFFFFFF))

/-- Dispatch and the end of a step (R323, R325, R328, R340 to R343): an ACTIVE channel takes the step at its PC, and a step that sets
no device and breaks no rule is in progress; a step with its result ends with it: OK goes on, a retryable failure runs again while
RETRY allows, any other faults the channel; a stopped one leaves it IDLE; TIMEOUT asks the step to end.
The model's own readings and choices in it: log entries 64 and 68. -/
def Obligations.DispatchAndCompletion : Prop :=
  ∀ (s : State) (c : Nat),
    (∀ (n : Nat) (l : List Byte) (s1 : State), s.accepts .millrace 0 = true → s.memServes = true → (s.chan c).st = .active →
      (s.chan c).run = none → c < s.part.channels → (s.chan c).lcp < s.part.cpsUse → s.cpFor c = some n →
      s.unbound (s.chan c).lcp = false → s.progRead c (s.chan c).pc 32 = (.got l, s1) → opBare (stepOf l).op = true → (stepOf l).rsvd = 0 →
      (stepOf l).breaks [] (s.chan c).inBuf.isSome s.part.channels = false →
      ∃ t r, exec (.stepDispatch c) s = .next t ∧ (t.chan c).run = some r ∧ r.step = stepOf l ∧ r.phase = .start ∧
        (t.chan c).st = .active ∧ t.mem.cells = s.mem.cells ∧ (∀ k, k ≠ c → t.chan k = s.chan k)) ∧
    ((s.chan c).st ≠ .active → exec (.stepDispatch c) s = .next s) ∧
    (∀ r : StepRun, s.coreUp = true → (s.chan c).run = some r → r.quiet = true → r.doneIs = none →
      (∀ e : StepEnd, r.ending = none → r.fin = some e → e.result = 0 → s.plainStep c r →
        ∃ t, exec (.stepComplete c) s = .next t ∧ s.wentOn t c ((s.chan c).next r) ∧ t.mem = s.mem ∧
          (∀ k, k ≠ c → t.chan k = s.chan k)) ∧
      (r.ending = none → r.fin = none → r.phase = .moved → r.pos = 2 → s.plainStep c r →
        ∃ t, exec (.stepComplete c) s = .next t ∧ s.wentOn t c ((s.chan c).next r) ∧ t.mem = s.mem) ∧
      (r.ending = some 1 → ∃ t, exec (.stepComplete c) s = .next t ∧ (t.chan c).st = .idle ∧ (t.chan c).run = none ∧
        (t.chan c).result = 1) ∧
      (∀ e : StepEnd, r.ending = none → r.fin = some e → retryable e.result = true → (s.chan c).retries < r.step.retry →
        (s.chan c).inBuf = none →
        ∃ t, exec (.stepComplete c) s = .next t ∧ (t.chan c).st = .active ∧ (t.chan c).run = none ∧
          (t.chan c).pc = (s.chan c).pc ∧ (t.chan c).retries = (s.chan c).retries + 1 ∧ (t.chan c).result = e.result) ∧
      (∀ e : StepEnd, r.ending = none → r.fin = some e → e.result ≠ 0 → retryable e.result = false →
        ∃ t, exec (.stepComplete c) s = .next t ∧ (t.chan c).st = .faulted ∧ (t.chan c).result = e.result ∧
          (t.chan c).pc = (s.chan c).pc ∧ flag (t.reg (Reg.mrFaultMap (c / 32))) (c % 32) = true)) ∧
    (∀ r : StepRun, s.coreUp = true → (s.chan c).run = some r → (s.chan c).st = .active → r.step.timeout ≠ 0 → r.fin = none →
      r.ending = none → r.phase ≠ .waiting →
      ∃ t, exec (.stepTimeout c) s = .next t ∧ (t.chan c).run.bind (·.ending) = some 2 ∧
        t.tick = max s.tick (r.at_ + 1250 * r.step.timeout) ∧ t.mem = s.mem ∧ t.dev = s.dev)

/-- The steps that only steer a program (R330, R335 to R337): NOP and SIGNAL go on in order, JUMP goes to ADDR, END makes the channel
IDLE, TEST skips one step on a match of the previous RESULT, WAIT takes one from the source's count or leaves the channel WAITING;
SIGNAL waits while its router input is full (R363). None of them touches part DRAM or the mode.
The model's own readings and choices in it: log entries 63 and 68. -/
def Obligations.StepsThatSteer : Prop :=
  ∀ (s : State) (c : Nat) (r : StepRun), s.plainStep c r →
    let inOrder : Option Nat := if r.step.link then some (((s.chan c).pc + 32) % 2 ^ 64) else none
    let same (t : State) : Prop := t.mem = s.mem ∧ t.dev = s.dev ∧ t.regs = s.regs ∧ t.sessions = s.sessions
    (s.opRun c 0xE = some r → ∃ t, exec (.stepNop c) s = .next t ∧ s.wentOn t c inOrder ∧ same t ∧
      (∀ k, k ≠ c → t.chan k = s.chan k)) ∧
    (s.opRun c 0xA = some r → ∃ t, exec (.stepJump c) s = .next t ∧ s.wentOn t c (some r.step.addr) ∧ same t ∧
      (∀ k, k ≠ c → t.chan k = s.chan k)) ∧
    (s.opRun c 0xF = some r → ∃ t, exec (.stepEnd c) s = .next t ∧ s.wentOn t c none ∧ same t ∧
      (∀ k, k ≠ c → t.chan k = s.chan k)) ∧
    (s.opRun c 0xB = some r → r.step.count = 0 →
      ∃ t, exec (.stepTest c) s = .next t ∧ same t ∧
        s.wentOn t c (if !r.step.link then none
          else if (s.chan c).result &&& r.step.p1 = r.step.p0 then some (((s.chan c).pc + 64) % 2 ^ 64)
          else some (((s.chan c).pc + 32) % 2 ^ 64))) ∧
    (s.opRun c 8 = some r → r.phase = .start →
      (Tbl.getD s.wcnt (r.step.p0 % 4096) 0 ≠ 0 →
        ∃ t, exec (.stepWait c) s = .next t ∧ s.wentOn t c inOrder ∧ same t ∧
          Tbl.getD t.wcnt (r.step.p0 % 4096) 0 = Tbl.getD s.wcnt (r.step.p0 % 4096) 0 - 1) ∧
      (Tbl.getD s.wcnt (r.step.p0 % 4096) 0 = 0 →
        ∃ t, exec (.stepWait c) s = .next t ∧ (t.chan c).st = .waiting ∧ t.waits = s.waits ++ [(r.step.p0 % 4096, c)] ∧
          t = { s with chans := t.chans, waits := t.waits })) ∧
    (s.opRun c 9 = some r → s.inputFull .signal = true → exec (.stepSignal c) s = .next s) ∧
    (s.opRun c 9 = some r → s.inputFull .signal = false → 3072 ≤ r.step.p0 % 4096 →
      ∃ t, exec (.stepSignal c) s = .next t ∧ s.wentOn t c inOrder ∧ same t ∧
        Tbl.getD t.inputs 5 [] = Tbl.getD s.inputs 5 [] ++ [⟨r.step.p0 % 4096, .soft, s.tick⟩])

/-- The steps that move data (R314, R315, R330 to R332): FILL stores its word over its range of part DRAM and SENSE a block; MOVE, a WRITE to
an ingest window and a CRYPTO transform arm their engine; a READ of a namespace and a SUBMIT issue a command; a skipped READ of a receive
queue takes its oldest frame; an asset transform joins the queue.
The model's own readings and choices in it: log entries 40, 66, 70, 108 and 126. -/
def Obligations.StepsThatMoveData : Prop :=
  ∀ (s : State) (c : Nat) (r : StepRun),
    let a := r.step.addr
    let n := r.step.count
    let q := bits (ew r.entry 1) 4 0
    (s.opRun c 0xD = some r → s.plainStep c r → r.step.sgl = false → eType r.entry = 9 → pieceOk r.entry a n = true → 0 < n →
      a + n ≤ s.dramSize →
      ∃ t, exec (.stepFill c) s = .next t ∧ s.wentOn t c ((s.chan c).next r) ∧ t.dev = s.dev ∧
        (∀ i, i < n → t.mem.byteAt (a + i) = (leBytes 4 r.step.p0).getD (i % 4) 0) ∧
        (∀ b, (b < a ∨ a + n ≤ b) → t.mem.byteAt b = s.mem.byteAt b)) ∧
    (s.opRun c 5 = some r → s.plainStep c r → eType r.memEntry = 9 → pieceOk r.memEntry a 64 = true → a + 64 ≤ s.dramSize →
      ∃ t, exec (.stepSense c) s = .next t ∧ s.wentOn t c ((s.chan c).next r) ∧
        t.mem.bytesAt a 32 = s.senseBlock c r.entry ∧ t.mem.bytesAt (a + 32) 32 = List.replicate 32 0 ∧
        (∀ b, (b < a ∨ a + 64 ≤ b) → t.mem.byteAt b = s.mem.byteAt b)) ∧
    (s.opRun c 3 = some r → r.phase = .start → r.pos = 0 → r.step.keyed = false → r.step.sgl = false → s.engineFree c →
      pieceOk r.entry r.step.offset n = true → pieceOk r.memEntry a n = true →
      ∃ t, exec (.stepMove c) s = .next t ∧ t.armedFor c r.step.offset a n ∧
        (t.chan c).run = some { r with phase := .dma, done := 0, pos := 2 } ∧ t = { s with chans := t.chans, dmas := t.dmas }) ∧
    (s.opRun c 2 = some r → eType r.entry = 2 → (s.chan c).inBuf = none → r.step.sgl = false → s.engineFree c →
      (s.ses (eSession r.entry)).st ≠ .free → pieceOk r.memEntry a n = true → r.step.offset % 64 = 0 → n % 64 = 0 →
      r.step.offset + n ≤ dSlots (s.ses (eSession r.entry)).desc * dStride (s.ses (eSession r.entry)).desc →
      ∃ t, exec (.stepWrite c) s = .next t ∧ t.armedFor c a (dIngest (s.ses (eSession r.entry)).desc + r.step.offset) n ∧
        t = { s with chans := t.chans, dmas := t.dmas }) ∧
    (s.opRun c 6 = some r → eType r.entry = 7 → r.phase = .start → r.pos = 0 → (s.chan c).inBuf = none → r.step.sgl = false →
      s.engineFree c → pieceOk r.memEntry a n = true →
      ∃ t, exec (.stepTransform c) s = .next t ∧ t.armedFor c a 0 n ∧
        (t.chan c).run = some { r with phase := .dma, done := 0 } ∧ t = { s with chans := t.chans, dmas := t.dmas }) ∧
    (∀ (l : List (Nat × Nat)) (b : List Byte) (s1 s2 : State), s.opRun c 6 = some r → eType r.entry = 6 → r.phase = .start →
      s.assetHas (eImage r.entry) = true → (r.step.dlink = false ∨ r.out.isSome = true) →
      (∀ x ∈ s.runners.queue, x.slot ≠ eXslot r.entry) → r.step.keyed = false → (s.chan c).inBuf = none →
      s.pieces c r.memEntry r.step.sgl a n = (.at_ l, s1) → s1.getPieces c r.memEntry l = (.bytes b 0, s2) →
      ∃ t, exec (.stepTransform c) s = .next t ∧
        t.runners.queue = s.runners.queue ++ [{
          chan := c, id := eImage r.entry, slot := eXslot r.entry, dict := dictOf r, input := b, pos := 0, dicts := s2.dicts
          frame := none }] ∧
        (t.chan c).run.map (·.phase) = some .xform) ∧
    (∀ lba : Nat, s.opRun c 1 = some r → eType r.entry = 1 → r.phase ≠ .moved → r.step.dlink = false →
      s.serves .pawl q r.at_ = true → (s.pawl q).running = true → (s.nvme q).st = .ready → (s.nvme q).range (ew r.entry 2) r.step.offset n = some lba → 0 < n → n ≤ (s.nvme q).most →
      ∃ t x, exec (.stepRead c) s = .next t ∧ Tbl.get? (t.nvme q).cmds (s.nvme q).nextCid = some x ∧ x.opcode = 2 ∧ x.chan = c ∧
        x.lba = r.step.offset / 2 ^ lba ∧ x.len = n ∧ x.nsid = ew r.entry 2 ∧ (t.chan c).run.map (·.phase) = some .nvme ∧
        (t.chan c).run.map (·.left) = some 1 ∧
        t = { s with chans := t.chans, nvmes := t.nvmes, pawls := t.pawls, free := t.free }) ∧
    (∀ (f : RxFrame) (rest : List RxFrame), s.opRun c 1 = some r → eType r.entry = 3 → s.plainStep c r → r.pos ≠ 1 → r.step.skip = true →
      (s.openDev r.step.dev).isSome = true → (s.chan c).rx = f :: rest →
      ∃ t, exec (.stepRead c) s = .next t ∧ (t.chan c).rx = rest ∧ s.wentOn t c ((s.chan c).next r) ∧ t.mem = s.mem) ∧
    (∀ (l : List Byte) (s1 : State), s.opRun c 7 = some r → r.phase ≠ .moved → eBase r.memEntry ≤ a → a + 64 ≤ eLimit r.memEntry + 1 →
      s.serves .pawl q r.at_ = true → (s.pawl q).running = true → (s.nvme q).st = .ready → s.memRead c r.memEntry a 64 = (.got l, s1) →
      submitOk (bitOf r.step.p0 0) l = true → pieceOk r.memEntry (leAt l 24 8) n = true →
      (bitOf (leAt l 0 1) 1 = true ∨ n = 0 ∨ eType r.memEntry = 9) →
      ∃ t x cid, exec (.stepSubmit c) s = .next t ∧ Tbl.get? (t.nvme q).cmds cid = some x ∧ x.chan = c ∧
        x.opcode = leAt l 0 1 ∧ x.nsid = ew r.entry 2 ∧ x.admin = bitOf r.step.p0 0 ∧ (t.chan c).run.map (·.phase) = some .nvme)

/-- The steps on devices of the part (R67, R217, R223, R331, R338, R339, R355): REGLOAD applies the records of its image and a POLL reads again
after 1 µs; an extension step calls its CP; OPEN opens a lane, CLOSE marks it and ends once it is empty, FLUSH empties it; a doorbell is
the renderer's.
The model's own readings and choices in it: log entries 4, 65 and 69. -/
def Obligations.StepsOnDevices : Prop :=
  ∀ (s : State) (c : Nat) (r : StepRun),
    (∀ (v : Word) (s1 : State), s.opRun c 0xC = some r → s.plainStep c r → (s.chan c).priv = true → s.regload = [] → r.step.count = 8 →
      eBase r.memEntry ≤ r.step.addr → r.step.addr + 8 ≤ eLimit r.memEntry + 1 →
      ({ s with regload := [c] }).memRead c r.memEntry r.step.addr 8 =
        (.got (leBytes 4 Reg.pdDrainUs ++ leBytes 4 v.toNat), s1) →
      ∃ t, exec (.stepRegload c) s = .next t ∧ t.reg Reg.pdDrainUs = (s.reg Reg.pdDrainUs &&& 0xFFFF0000#32) ||| (v &&& 0xFFFF#32) ∧
        s.wentOn t c ((s.chan c).next r) ∧ t.regload = []) ∧
    (s.opRun c 0xC = some r → (s.chan c).priv = true → (∃ k rest, s.regload = k :: rest ∧ k ≠ c ∧ c ∈ rest) → r.step.count = 0 →
      ∃ t, exec (.stepRegload c) s = .next t ∧ (t.chan c).run = some { r with phase := .waiting } ∧ t = { s with chans := t.chans }) ∧
    (s.coreUp = true → (s.chan c).run = some r → r.phase = .poll → r.fin = none → r.ending = none → r.pos < r.data.length →
      recPoll (r.data.drop r.pos) = true → s.readable (recAddr (r.data.drop r.pos)) = true →
      ((s.reach (r.mark + 1250)).readWord .regload (recAddr (r.data.drop r.pos))).1.toNat &&& leAt (r.data.drop r.pos) 4 4 ≠
        leAt (r.data.drop r.pos) 8 4 →
      ∃ t, exec (.regloadPoll c) s = .next t ∧ t.tick = max s.tick (r.mark + 1250) ∧
        (t.chan c).run = some { r with phase := .poll, sent := true, mark := t.tick } ∧ t.mem = s.mem) ∧
    (∀ n : Nat, s.opRun c r.step.op = some r → 0x80 ≤ r.step.op → s.physOf (s.chan c).lcp = some n → (s.cp n).ext = true →
      ((s.cp n).wordAt (12288 + (r.step.op - 0x80))).toNat ≠ 0 → (s.cp n).call = none → (s.cp n).imms = [] → (s.cp n).rep = false →
      (s.cp n).latch = none → (s.cp n).stack.length < 15 →
      ∃ t, exec (.stepExtension c) s = .next t ∧ (t.cp n).call.map (·.chan) = some c ∧ (t.cp n).sleep = false ∧
        (t.cp n).pc = (if (s.cp n).extInit then 12417 else ((s.cp n).wordAt (12288 + (r.step.op - 0x80))).toNat) ∧
        (t.chan c).run = some { r with phase := .ext } ∧ t.mem = s.mem) ∧
    (∀ (b : List Byte) (s1 : State), s.opRun c 4 = some r → s.plainStep c r → r.doneIs = none → eType r.entry = 3 →
      r.step.p0 % 256 = 1 → (s.lane (eLane r.entry)).isOpen = false → s.flow? (eFlow r.entry) = none →
      s.readBytes 0x126 0x0 (s.reg64 Reg.sluFlowBaseLo + 16 * eFlow r.entry) 16 = (some b, s1) →
      (flowDesc b).port < 4 * s.part.quads → s1.flowOk (flowDesc b) = true → s1.leatRoom (eMaxSegs r.entry) = true →
      ∃ t, exec (.egressOpen c) s = .next t ∧ (t.lane (eLane r.entry)).isOpen = true ∧ (t.lane (eLane r.entry)).device = true ∧
        (t.lane (eLane r.entry)).owner = r.step.dev ∧ (t.lane (eLane r.entry)).maxSegs = eMaxSegs r.entry ∧
        (t.flow? (eFlow r.entry)).map (·.desc) = some (flowDesc b) ∧ s.wentOn t c ((s.chan c).next r)) ∧
    (∀ (l : Nat) (x : Lane), s.opRun c 4 = some r → eType r.entry = 3 → s.openDev r.step.dev = some (l, x) →
      (r.step.p0 % 256 = 2 →
        ∃ t, exec (.egressClose c) s = .next t ∧ t.lane l = { x with closing := true } ∧
          (t.chan c).run = some { r with phase := .close, sent := true } ∧ t = { s with chans := t.chans, leat := t.leat }) ∧
      (r.step.p0 % 256 = 3 → s.lane l = x → x.isOpen = true →
        ∃ t, exec (.egressFlush c) s = .next t ∧ (t.lane l).units = [] ∧ (t.lane l).frames = [] ∧ (t.lane l).isOpen = true)) ∧
    (∀ (dev l f : Nat) (x : Lane), s.coreUp = true → s.openDev dev = some (l, x) → s.lane l = x → x.closing = true → x.linkedBytes = 0 →
      s.deviceFlow dev = some f → (∀ y, s.flow? f = some y → y.pkts = []) →
      ∃ t, exec (.egressCloseDone dev) s = .next t ∧ t.lane l = Lane.reset ∧ t.flow? f = none) ∧
    (s.opRun c 4 = some r → s.plainStep c r → eType r.entry = 2 → r.step.p0 % 256 = 1 →
      ∃ t, exec (.ingestDoorbell c) s = .next t ∧ s.wentOn t c ((s.chan c).next r) ∧
        t.sessions = (s.stripe (dRenderer (s.ses (eSession r.entry)).desc) (word r.step.p1)).sessions)

/-! ## Engines and the Hopper (R370 to R391) -/

/-- DMA engines (R372, R377, R380): an armed set becomes current once the engine is free, and toward a domain that is powering
down ends at once with DOMAIN_OFF; a transfer within part DRAM moves its bytes, touches no other, and ends with OK and its count.
The model's own readings and choices in it: log entries 6, 91 and 128. -/
def Obligations.Transfers : Prop :=
  ∀ (s : State) (e : Nat), e < 32 →
    (s.serves .dma e (s.stepSince (s.dma e).shOwner) = true → (s.dma e).armed = true → (s.dma e).cur = none → (s.dma e).retired = false →
      let x := (s.dma e).shadowSet
      (s.spaceOff (bits x.ctl 3 0) = false → s.spaceOff (bits x.ctl 7 4) = false →
        ∃ t, exec (.dmaTransferStart e) s = .next t ∧ (t.dma e).cur = some x ∧ (t.dma e).armed = false ∧
          (∀ k, k ≠ e → t.dma k = s.dma k) ∧ t = { s with dmas := t.dmas, out := t.out }) ∧
      ((s.spaceOff (bits x.ctl 3 0) = true ∨ s.spaceOff (bits x.ctl 7 4) = true) →
        ∃ t, exec (.dmaTransferStart e) s = .next t ∧ (t.dma e).cur = none ∧ (t.dma e).armed = false ∧ (t.dma e).lastCode = 6 ∧
          (t.dma e).lastDone = 0 ∧ t.mem = s.mem)) ∧
    (((s.dma e).armed = false ∨ (s.dma e).cur.isSome = true ∨ (s.dma e).retired = true) → exec (.dmaTransferStart e) s = .next s) ∧
    (∀ (x : DmaSet) (l : List Byte) (s1 : State), s.works .dma e = true → s.memServes = true → (s.dma e).cur = some x →
      (s.dma e).ending = none → x.bad = false → x.misaligned = false → bits x.ctl 3 0 = 0 → bits x.ctl 7 4 = 0 →
      bitOf x.ctl 16 = false → bitOf x.ctl 17 = false → x.dst + x.count ≤ s.dramSize →
      s.readLines (0x180 + e) 0x3 x.src (x.count / 64) = (l, true, s1) →
      ∃ t, exec (.dmaTransferEnd e) s = .next t ∧ (t.dma e).cur = none ∧ (t.dma e).lastCode = 0 ∧ (t.dma e).lastDone = x.count ∧
        (t.dma e).lastTag = x.tag ∧ t.reg (Reg.dmaXfers e) = word ((s.reg (Reg.dmaXfers e)).toNat + 1) ∧
        (∀ i, i < x.count → t.mem.byteAt (x.dst + i) = l.getD i 0) ∧
        (∀ b, (b < x.dst ∨ x.dst + x.count ≤ b) → t.mem.byteAt b = s.mem.byteAt b)) ∧
    (∀ x : DmaSet, s.works .dma e = true → s.memServes = true → (s.dma e).cur = some x → (s.dma e).ending = none → x.bad = true →
      ∃ t, exec (.dmaTransferEnd e) s = .next t ∧ (t.dma e).cur = none ∧ (t.dma e).lastCode = 9 ∧ (t.dma e).lastDone = 0 ∧ t.mem = s.mem)

/-- The Hopper (R382 to R391): INIT starts on a disabled pool of a good configuration and enables it when done; DISABLE ends with HELD
while a buffer is held; a grant reaches the waiting channel; refill and spill move indexes between the cache and the ring and keep
FREE; a long wait is counted and set; a reserve write is free while every pool is disabled.
The model's own readings and choices in it: log entries 4, 6, 72 and 127. -/
def Obligations.HopperCommands : Prop :=
  ∀ (s : State) (p : Nat) (a : Path),
    (s.coreTakes a = true → s.hop.busy = none → (s.pool p).heldAll = 0 →
      (p < 6 → s.poolCount p ≠ 0 → s.resvSum p ≤ s.poolCount p →
        exec (.hopInit a p) s = .next { s with hop := { s.hop with busy := some p, result := 0 } }) ∧
      ((6 ≤ p ∨ s.poolCount p = 0 ∨ s.poolCount p < s.resvSum p) →
        exec (.hopInit a p) s = .next { s with hop := { s.hop with result := 2 } }) ∧
      (p < 6 → ∃ t, exec (.hopDisable a p) s = .next t ∧ (t.pool p).en = false ∧ t.hop.result = 0 ∧
        (∀ q, q ≠ p → t.pool q = s.pool q) ∧ t = { s with hop := t.hop })) ∧
    (s.coreTakes a = true → s.hop.busy = none → p < 6 → 0 < (s.pool p).heldAll →
      exec (.hopInit a p) s = .next { s with hop := { s.hop with result := 1 } } ∧
      exec (.hopDisable a p) s = .next { s with hop := { s.hop with result := 1 } }) ∧
    (s.memServes = true → s.hop.busy = some p →
      ∃ t, exec .hopInitDone s = .next t ∧ t.hop.busy = none ∧ (t.pool p).en = true ∧ (t.pool p).count = s.poolCount p ∧
        (t.pool p).free = s.poolCount p ∧ (t.pool p).heldAll = 0 ∧ (∀ q, q ≠ p → t.pool q = s.pool q)) ∧
    (∀ (w : HopWait) (c : Nat) (r : StepRun) (b : Buf) (s1 : State), s.works .hopper 0 = true → s.memServes = true → s.hopNext p = some w →
      w.who = .chan c → (s.chan c).run = some r → s.hopGive p w.owner (poolSize p) = (some b, s1) →
      ∃ t, exec (.hopGrant p) s = .next t ∧ (t.chan c).run = some { r with out := some b, phase := .start } ∧
        (t.chan c).hopWait = false ∧ (t.pool p).waiters = (s.pool p).waiters.erase w ∧ b.owner = w.owner) ∧
    (s.hopNext p = none → exec (.hopGrant p) s = .next s) ∧
    (∀ (l : List Byte) (s1 : State), s.memServes = true → (s.pool p).en = true → (s.pool p).cache.length ≤ 16 →
      s.readLine hopMaster 0x0 ((s.ringBase p + 4 * (s.pool p).head) / 64 * 64) = (some l, s1) →
      ∃ t, exec (.hopCacheRefill p) s = .next t ∧ (t.pool p).free = (s.pool p).free ∧
        (s.pool p).cache.length ≤ (t.pool p).cache.length ∧ (t.pool p).ringLen ≤ (s.pool p).ringLen ∧ t.mem.cells = s.mem.cells ∧
        (0 < (s.pool p).ringLen → (s.pool p).head < s.poolCount p → (s.pool p).cache.length < (t.pool p).cache.length)) ∧
    (s.memServes = true → (s.pool p).en = true → 48 ≤ (s.pool p).cache.length →
      ∃ t, exec (.hopCacheSpill p) s = .next t ∧ (t.pool p).free = (s.pool p).free ∧
        (t.pool p).cache.length ≤ (s.pool p).cache.length ∧ (t.pool p).held = (s.pool p).held) ∧
    (∀ w : HopWait, s.coreUp = true → (s.pool p).waiters.find? (fun w => !w.long) = some w →
      fld (s.reg Reg.hopWaitLimitUs) 23 0 ≠ 0 → (s.pg (ordOf .hopper 0)).resetting = false →
      ∃ t, exec (.hopWaitLong p) s = .next t ∧ t.tick = max s.tick (w.since + 1250 * fld (s.reg Reg.hopWaitLimitUs) 23 0) ∧
        Tbl.getD t.hop.waits w.owner 0 = min (Tbl.getD s.hop.waits w.owner 0 + 1) 0xFFFFFFFF ∧ t.mem = s.mem ∧
        (t.pg (ordOf .hopper 0)).err.getLsbD 4 = true) ∧
    (∀ (o : Nat) (v : Word), s.coreTakes a = true → o < 64 → (∀ q, q < 6 → (s.pool q).en = false) →
      ∃ t u, exec (.hopResvWrite a o false v) s = .next t ∧ exec (.hopResvWrite a o true v) s = .next u ∧
        t.reg (Reg.hopResvA o) = v ∧ u.reg (Reg.hopResvB o) = v &&& 0xFFFF#32 ∧
        (∀ b, b ≠ Reg.hopResvA o → t.reg b = s.reg b) ∧ (∀ b, b ≠ Reg.hopResvB o → u.reg b = s.reg b) ∧
        t = { s with regs := t.regs } ∧ u = { s with regs := u.regs })

/-! ## Part DRAM (R392 to R412) -/

/-- A granted write of a whole line stores it and no other byte; a granted read of a good line answers it, of a bad one nothing, with
LINE_UE; a refused request answers nothing and sets ACCESS; without a grant nothing moves (R399, R403 to R405).
The model's own readings and choices in it: log entries 71, 79 and 92. -/
def Obligations.DramLines : Prop :=
  ∀ (s : State) (m : BitVec 12) (acc : BitVec 4) (a : Nat),
    let n := (s.place a).site
    (s.memServes = true → s.granted m.toNat n = true → s.refusesLine a = false →
      (∀ bytes : List Byte, bytes.length = 64 →
        ∃ t, exec (.dramLineWrite m acc a bytes) s = .next t ∧ t.mem.bytesAt a 64 = bytes ∧
          (∀ b, (b < a ∨ a + 64 ≤ b) → t.mem.byteAt b = s.mem.byteAt b) ∧ t.mem.isOpen = true ∧ t.dev = s.dev ∧
          (s.flipFor n a = 0 → (s.site n).trained = true → t.lineGood a = true)) ∧
      (∀ bad : Nat, bad ≤ 2 → s.lineGood a = true →
        ∃ t, exec (.dramLineRead m acc a bad) s = .next t ∧ t.mem.answer = some (s.mem.bytesAt a 64) ∧ t.mem.cells = s.mem.cells ∧
          t.dev = s.dev) ∧
      (∀ bad : Nat, (2 < bad ∨ s.lineGood a = false) → (s.pg (ordOf .memctl n)).resetting = false → s.dev.mode ≠ .off →
        ∃ t, exec (.dramLineRead m acc a bad) s = .next t ∧ t.mem.answer = none ∧
          (t.pg (ordOf .memctl n)).err.getLsbD 2 = true ∧
          (0x22 ≤ m.toNat → m ≠ 0x121 → m ≠ 0x124 → t.mem.cells = s.mem.cells))) ∧
    (s.memServes = true → s.granted m.toNat n = true → s.refusesLine a = true → (s.pg (ordOf .memarb 0)).resetting = false →
      (∀ bytes : List Byte, ∃ t, exec (.dramLineWrite m acc a bytes) s = .next t ∧ t.mem.cells = s.mem.cells ∧
        (t.pg (ordOf .memarb 0)).err.getLsbD 1 = true) ∧
      (∀ bad : Nat, ∃ t, exec (.dramLineRead m acc a bad) s = .next t ∧ t.mem.answer = none ∧
        (t.pg (ordOf .memarb 0)).err.getLsbD 1 = true)) ∧
    ((s.memServes = false ∨ s.granted m.toNat n = false) → ∀ (bytes : List Byte) (bad : Nat),
      exec (.dramLineWrite m acc a bytes) s = .next s ∧ exec (.dramLineRead m acc a bad) s = .next s)

/-- What one master writes another reads: a read after a write of the same line answers the bytes written, and a read of any other
good line answers what it answered before (R403, R405).
The model's own readings and choices in it: log entry 79. -/
def Obligations.ReadAfterWrite : Prop :=
  ∀ (s t : State) (m m' : BitVec 12) (acc acc' : BitVec 4) (a b : Nat) (bytes : List Byte),
    bytes.length = 64 → s.memServes = true → s.granted m.toNat (s.place a).site = true → s.refusesLine a = false →
    s.flipFor (s.place a).site a = 0 → (s.site (s.place a).site).trained = true →
    exec (.dramLineWrite m acc a bytes) s = .next t →
    (t.granted m'.toNat (t.place a).site = true →
      ∃ u, exec (.dramLineRead m' acc' a 0) t = .next u ∧ u.mem.answer = some bytes) ∧
    (b % 64 = 0 → b ≠ a → b < s.dramSize → s.lineGood b = true → t.granted m'.toNat (t.place b).site = true →
      ∃ u, exec (.dramLineRead m' acc' b 0) t = .next u ∧ u.mem.answer = some (s.mem.bytesAt b 64))

/-- The memory's other commands (R395, R397, R398, R400, R402, R406, R408, R409): refresh, a new window of counts, the end of a throttle, a
master that has waited its limit, FREEZE, the bank hash before the first request, the check flip, a scrub, and the leak of every
bucket. None of them changes a byte of part DRAM.
The model's own readings and choices in it: log entries 4, 12 and 129. -/
def Obligations.MemoryCommands : Prop :=
  ∀ (s : State) (n : Nat) (p : Path), s.takes p = true →
    (n < s.part.sites →
      (∃ t, exec (.dramRefresh n) s = .next t ∧ t.tick = max s.tick ((s.site n).refAt + nsTicks (s.site n).interval) ∧
        (t.site n).refAt = t.tick ∧ (t.site n).interval = fld (s.reg (Reg.mcRef n)) 15 0 ∧
        t.reg (Reg.mcRefreshes n) = s.reg (Reg.mcRefreshes n) + 1 ∧ (∀ a, a ≠ Reg.mcRefreshes n → t.reg a = s.reg a) ∧
        t = { s with tick := t.tick, sites := t.sites, regs := t.regs }) ∧
      (∃ t, exec (.actWindowStart n) s = .next t ∧
        t.tick = max s.tick ((s.site n).actAt + usTicks (max 1 (fld (s.reg (Reg.mcActWindowUs n)) 15 0))) ∧
        t.site n = { s.site n with acts := [], actAt := t.tick } ∧
        (∀ k, k ≠ n → t.site k = s.site k) ∧ t = { s with sites := t.sites, tick := t.tick }) ∧
      (∀ v : Word, ∃ t, exec (.mcChkFlipWrite p n v) s = .next t ∧ t.reg (Reg.mcChkFlip n) = v &&& 0x3FFFF#32 ∧
        (∀ a, a ≠ Reg.mcChkFlip n → t.reg a = s.reg a) ∧ t = { s with regs := t.regs }) ∧
      (∀ m : BitVec 12, s.memServes = true → fld (s.reg Reg.maWaitLimit) 9 0 ≠ 0 → s.mem.forced.contains (m.toNat, n) = false →
        (s.site n).throttle = none →
        exec (.maWaitLimitReached m n) s = .next { s with mem := { s.mem with forced := s.mem.forced ++ [(m.toNat, n)] } })) ∧
    (∀ x, (s.site n).throttle = some x →
      ∃ t, exec (.throttleEnd n) s = .next t ∧ t.site n = { s.site n with throttle := none } ∧ t.tick = max s.tick x.until_ ∧
        t = { s with tick := t.tick, sites := t.sites }) ∧
    (∀ on : Bool, ∃ t, exec (.maCtlFreeze p on) s = .next t ∧ t.reg Reg.maCtl = (if on then 1#32 else 0#32) ∧
      ((on = true ∨ s.net.mirror = []) → (∀ a, a ≠ Reg.maCtl → t.reg a = s.reg a) ∧ t = { s with regs := t.regs }) ∧
      (on = true → t.memServes = false)) ∧
    (∀ (k : Nat) (v : Word), k < 6 →
      (s.mem.isOpen = false → ∃ t, exec (.maBankHashWrite p k v) s = .next t ∧ t.reg (Reg.maBankHash k) = v &&& 0x7FFF#32 ∧
        (∀ a, a ≠ Reg.maBankHash k → t.reg a = s.reg a) ∧ t = { s with regs := t.regs }) ∧
      (s.mem.isOpen = true → (s.pg (ordOf .memarb 0)).resetting = false →
        ∃ t, exec (.maBankHashWrite p k v) s = .next t ∧ t.regs = s.regs ∧ t.mem = s.mem ∧
          (t.pg (ordOf .memarb 0)).err.getLsbD 3 = true)) ∧
    (s.mem.scrub = none → (s.pg (ordOf .memarb 0)).freeze = false → (s.pg (ordOf .memarb 0)).enable = true →
      (s.reg64 Reg.maScrubBaseLo + s.reg64 Reg.maScrubLenLo ≤ s.dramSize →
        ∃ t x, exec (.scrubStart p) s = .next t ∧ t.mem.scrub = some x ∧ x.base = s.reg64 Reg.maScrubBaseLo ∧
          x.len = s.reg64 Reg.maScrubLenLo ∧ x.since = s.tick ∧ t.mem.cells = s.mem.cells ∧ t.reg Reg.maScrubUncorr = 0 ∧
          t = { s with mem := t.mem, regs := t.regs }) ∧
      (s.dramSize < s.reg64 Reg.maScrubBaseLo + s.reg64 Reg.maScrubLenLo →
        exec (.scrubStart p) s = .next { s with mem := { s.mem with scrubRes := 1 } })) ∧
    (∀ x, s.mem.scrub = some x →
      exec (.scrubStart p) s = .next s ∧
      (∀ bad : List (Nat × Nat), ∃ t, exec (.scrubAbort p bad) s = .next t ∧ t.mem.scrub = none ∧ t.mem.scrubRes = 2 ∧ t.mem.cells = s.mem.cells) ∧
      (∀ bad : List (Nat × Nat), s.memServes = true →
        ∃ t, exec (.scrubDone bad) s = .next t ∧ t.mem.scrub = none ∧ t.mem.scrubRes = 0 ∧ t.mem.cells = s.mem.cells ∧
          flag (t.pg (ordOf .memarb 0)).int 1 = true)) ∧
    (∃ t, exec .ceBucketLeak s = .next t ∧ (∀ o, (t.pg o).bucket = (s.pg o).bucket - 1) ∧
      (∀ o, (t.pg o).err = (s.pg o).err) ∧ s.tick ≤ t.tick ∧ t.mem.cells = s.mem.cells ∧ t.regs = s.regs)

/-! ## Coding a picture (R90 to R137) -/

/-- Rows and segments (R69, R72, R92, R95, R97, R102, R108, R113, R122, R132, R134): a Bolter starts the row that is next by target time, in
floor mode where lines are missing, and computes it where they are not; its end hands the row to the stones, unless ABORT has dropped it,
and after the last line the slot is read; a stone takes a queued segment at the lower preset, and ends it once the last block is
reconstructed and the bands of its neighbours are there; the commit of a DONE runner's segment with a complete checkpoint counts its
bits, within the ceiling, against target and cap; a band that is late is an error.
The model's own readings and choices in it: log entries 6, 26, 33, 74, 91, 98, 99, 100, 101 and 106. -/
def Obligations.RowsAndSegments : Prop :=
  ∀ (s : State) (b n : Nat),
    (∀ (k : Nat) (f : Frame) (short : Bool), s.bolterOn b = true → (s.bolter b).busy = false → s.bolterPick b = some (k, f, short) →
      (s.ses k).frame = some f →
      ∃ t f', exec (.bolterRowStart b) s = .next t ∧ t.bolter b = { busy := true, ses := k, row := f.nextRow, drop := false } ∧
        (t.ses k).frame = some f' ∧ f'.nextRow = f.nextRow + 1 ∧ f'.segs.length = f.segs.length + dCols (s.ses k).desc ∧
        t.mem.cells = s.mem.cells ∧ (∀ m, m ≠ k → t.ses m = s.ses m) ∧
        (short = false → (Tbl.get? f'.input f.nextRow).isSome = true) ∧
        (short = true → ∀ g ∈ f'.segs.drop f.segs.length, g.floor = true ∧ g.q = 51)) ∧
    (s.bolterPick b = none → exec (.bolterRowStart b) s = .next s) ∧
    (∀ f : Frame, s.bolterOn b = true → (s.bolter b).busy = true → (s.bolter b).drop = false →
      (s.ses (s.bolter b).ses).active = some f →
      (f.segs.any fun g => g.row == (s.bolter b).row && g.st == .atBolter) = true →
      ∃ t f', exec (.bolterRowDone b) s = .next t ∧ t.bolter b = { s.bolter b with busy := false } ∧ t.mem = s.mem ∧
        t.reg (Reg.bolterRows b) = s.reg (Reg.bolterRows b) + 1 ∧ (t.ses (s.bolter b).ses).frame = some f' ∧
        (∀ g ∈ f'.segs, g.row = (s.bolter b).row → g.st ≠ .atBolter) ∧
        ((s.bolter b).row + 1 = dNy (s.ses (s.bolter b).ses).desc →
          let x := s.ses (s.bolter b).ses
          let y := t.ses (s.bolter b).ses
          (x.kRd = f.k → f.k + 1 ∉ x.readOn → y.kRd = f.k + 1) ∧
          (x.kRd < f.k → x.kRd ∉ x.readOn → y.kRd = x.kRd ∧ f.k ∈ y.readOn))) ∧
    (s.bolterOn b = true → (s.bolter b).busy = true → (s.bolter b).drop = true →
      exec (.bolterRowDone b) s = .next { s with bolters := Tbl.set s.bolters b { s.bolter b with busy := false, drop := false } }) ∧
    (∀ (k : Nat) (f : Frame) (g : Seg) (bl : List Block), s.stoneOn n = true → (s.stone n).busy = false →
      (s.imageAt 1 (s.stone n).lstone).isSome = true →
      s.segPick (fun d g => g.st == .queued && dStone d g.col == (s.stone n).lstone) = some (k, f, g) →
      (s.ses k).frame = some f →
      (s.segTakes k f g (s.segPreset n f) bl = true →
        ∃ t f' g', exec (.stoneSegmentStart n bl) s = .next t ∧ t.mem = s.mem ∧
          t.stone n = { s.stone n with busy := true, ses := k, row := g.row, col := g.col, since := s.tick,
                                       units := (s.stone n).units ++ [(k, g.row, g.col)], cache := f.refs } ∧
          (t.ses k).active = some f' ∧ f'.seg? g.row g.col = some g' ∧ g'.st = .coding ∧ g'.phys = n ∧
          g'.preset = min f.preset (fld (s.reg (Reg.stoneCtl n)) 1 0) ∧ g'.blocks = bl) ∧
      (s.segTakes k f g (s.segPreset n f) bl = false → exec (.stoneSegmentStart n bl) s = .next s)) ∧
    (∀ (f : Frame) (g : Seg) (r : SegRecon), s.stoneOn n = true → (s.stone n).busy = true → s.memServes = true →
      let x := s.stone n
      let d := (s.ses x.ses).desc
      (s.ses x.ses).active = some f → f.seg? x.row x.col = some g →
      (∀ at_ u : Nat, g.reconAt = some at_ → f.seamAt d x.row x.col = some u → g.st = .coding → g.phys = n →
        g.queue.length ≤ elemMost → reconFits d x.row x.col r = true →
        ∃ t, exec (.stoneSegmentDone n r) s = .next t ∧ t.stone n = { x with busy := false } ∧
          (t.ses x.ses).frame = some (f.mapSeg x.row x.col fun g => { g with st := .coded }) ∧
          (∀ m, m ≠ x.ses → t.ses m = s.ses m) ∧
          (∀ c : Ckpt, Tbl.get? s.ckpts (16 * x.ses + 2 * x.col + s.ckptArea x.ses x.col) = some c → c.row = x.row →
            (s.rses x.ses).sblk.isSome = true →
            ∃ c' : Ckpt, Tbl.get? t.ckpts (16 * x.ses + 2 * x.col + s.ckptArea x.ses x.col) = some c' ∧ c'.complete = true ∧
              c'.samples = r.edge ∧ c'.modes = r.modes ∧ c'.seq = c.seq)) ∧
      ((g.reconAt = none ∨ f.seamAt d x.row x.col = none) → exec (.stoneSegmentDone n r) s = .next s) ∧
      (∀ at_ : Nat, g.reconAt = some at_ → f.seamAt d x.row x.col = none → (s.pg (ordOf .stone n)).resetting = false →
        ∃ t, exec (.seamTimeout n) s = .next t ∧ (t.pg (ordOf .stone n)).err.getLsbD 4 = true ∧ t.mem = s.mem ∧
          t.stones = s.stones ∧ at_ < t.tick)) ∧
    (∀ (k : Nat) (f : Frame) (g : Seg),
      s.segPick (fun _ g => g.st == .coded && g.phys == n) = some (k, f, g) → s.stoneOn n = true → (s.ses k).frame = some f →
      let d := (s.ses k).desc
      let len := g.wrote + segHead d
      let bits := segBits d g.row g.col len (f.unitSize d g.row + len)
      (g.out.isSome = true → s.ckptDone k f g = true → bits ≤ f.segMost d g →
        ∃ t f', exec (.segmentCommit n) s = .next t ∧ t.reg (Reg.stoneSegs n) = s.reg (Reg.stoneSegs n) + 1 ∧
          (t.ses k).frame = some f' ∧ f'.usedSoft = f.usedSoft + (bits : Nat) - g.t ∧
          f'.usedHard = f.usedHard + (bits : Nat) - (g.c : Nat) ∧
          ∃ v ∈ f'.segs, v.row = g.row ∧ v.col = g.col ∧ v.st = .committed ∧ v.bits = bits ∧ v.cplx = g.complexity) ∧
      ((g.out = none ∨ s.ckptDone k f g = false ∨ f.segMost d g < bits) → exec (.segmentCommit n) s = .next s)) ∧
    (s.stoneOn n = true → (s.stone n).busy = true →
      ∃ t, exec (.stoneWatchdog n) s = .next t ∧ (t.pg (ordOf .stone n)).err.getLsbD 3 = true ∧ (t.stone n).role = .retired ∧
        s.tick ≤ t.tick)

/-- The Governor (R140 to R143): the oldest report is taken; outside the loop C stays, and in it C falls by its factor, or rises by its
step up to the session's rate, or is held; 256 VCLK later C is in force; no report for the timeout counts as over-use.
The model's own readings and choices in it: log entries 4, 6 and 105. -/
def Obligations.GovernorLoop : Prop :=
  ∀ (s : State) (n : Nat), s.coreUp = true →
    let g := (s.ses n).gov
    let d := (s.ses n).desc
    let low := max (dMinBps d) (g.cNow * s.decFactor / 1000)
    (∀ (r : FbReport) (rest : List FbReport), (s.ses n).st ≠ .free → g.reports = r :: rest →
      ∃ t, exec (.govFeedbackReport n) s = .next t ∧ (t.ses n).gov.reports = rest ∧ (t.ses n).gov.lastAt = r.time ∧
        (t.ses n).gov.count = (g.count + 1) % 2 ^ 32 ∧ (t.ses n).gov.cForce = g.cForce ∧
        (∀ m, m ≠ n → t.ses m = s.ses m) ∧ t = { s with sessions := t.sessions, inputs := t.inputs } ∧
        ((govLoop d = false ∨ (s.ses n).started = false ∨ r.time < g.hold) → (t.ses n).gov.cNow = g.cNow) ∧
        (govLoop d = true → (s.ses n).started = true → g.hold ≤ r.time →
          (t.ses n).gov.cNow = low ∨
          (t.ses n).gov.cNow = min (dRate d) (g.cNow + fld (s.reg Reg.govIncRate) 9 0 * dRate d * (r.time - g.lastAt) / (1000 * 1250000000)))) ∧
    (g.reports = [] → exec (.govFeedbackReport n) s = .next s) ∧
    (∀ at_ : Nat, g.pendAt = some at_ →
      ∃ t, exec (.govRateInForce n) s = .next t ∧ (t.ses n).gov = { g with cForce := g.cNow, pendAt := none } ∧
        t.tick = max s.tick (at_ + vclkTicks 256) ∧ (∀ m, m ≠ n → t.ses m = s.ses m) ∧
        t = { s with sessions := t.sessions, flows := t.flows, tick := t.tick }) ∧
    (g.pendAt = none → exec (.govRateInForce n) s = .next s) ∧
    (fld (s.reg Reg.govFbTimeoutMs) 15 0 ≠ 0 → ((s.ses n).st = .running ∨ (s.ses n).st = .stopping ∨ (s.ses n).st = .held) →
      (s.pg (ordOf .governor 0)).resetting = false →
      let at_ := g.toAt + msTicks (fld (s.reg Reg.govFbTimeoutMs) 15 0)
      ∃ t, exec (.govFbTimeout n) s = .next t ∧ (t.ses n).gov.toAt = at_ ∧ t.tick = max s.tick at_ ∧ t.mem = s.mem ∧
        (t.pg (ordOf .governor 0)).err.getLsbD 4 = true ∧
        (t.ses n).gov.cNow = (if govLoop d = true ∧ g.hold ≤ at_ then low else g.cNow)) ∧
    (fld (s.reg Reg.govFbTimeoutMs) 15 0 = 0 → exec (.govFbTimeout n) s = .next s)

/-- The reference pool's commands (R149, R161): a packet whose wait for a report has passed counts as lost once; a class register
takes its value while no buffer of the class is bound, BASE by its HI word, and is otherwise discarded with CFG.
The model's own readings and choices in it: log entries 4, 6, 29, 102 and 103. -/
def Obligations.ReferencePool : Prop :=
  ∀ (s : State), s.coreUp = true →
    (∀ (n : Nat) (q : BitVec 16) (w : Nat × Nat), (s.rses n).waits.find? (fun w => w.1 % 65536 == q.toNat) = some w →
      (s.rses n).gone.contains w.1 = false → (s.rses n).got.contains w.1 = false →
      ∃ t, exec (.packetLost n q) s = .next t ∧ (t.rses n).gone = w.1 :: (s.rses n).gone ∧
        (∀ v ∈ (t.rses n).waits, v.1 ≠ w.1) ∧ t.tick = max s.tick w.2 ∧ t.mem = s.mem ∧ t.dev = s.dev) ∧
    (∀ (n : Nat) (q : BitVec 16), (s.rses n).waits = [] → exec (.packetLost n q) s = .next s) ∧
    (∀ (p : Path) (i : Nat) (v : Word), s.coreTakes p = true → i < 16 →
      (∀ k ∈ [0, 3], s.clsBound i = false → (k = 0 → 2 ≤ fld v 7 0 ∧ fld v 7 0 ≤ 128 ∧ 2 ≤ fld v 15 8 ∧ fld v 15 8 ≤ 68) →
        (s.setReg (clsReg i k) (v &&& clsMask k)).bufsSum ≤ 8192 →
        ∃ t, exec (.refClsWrite p i k v) s = .next t ∧ t.reg (clsReg i k) = v &&& clsMask k ∧
          (∀ a, a ≠ clsReg i k → t.reg a = s.reg a) ∧ t = { s with regs := t.regs }) ∧
      (∀ k ∈ [0, 3], s.clsBound i = true → s.reg (clsReg i k) ≠ v &&& clsMask k → (s.pg (ordOf .refpool 0)).resetting = false →
        ∃ t, exec (.refClsWrite p i k v) s = .next t ∧ t.regs = s.regs ∧ (t.pg (ordOf .refpool 0)).err.getLsbD 7 = true ∧
          t.refs = s.refs ∧ t.mem = s.mem) ∧
      exec (.refClsWrite p i 1 v) s = .next { s with heldLo := Tbl.set s.heldLo (pathKey p (clsReg i 1)) (v &&& 0xFFFFF000#32) } ∧
      (∀ lo : Word, s.clsBound i = false → Tbl.get? s.heldLo (pathKey p (clsReg i 1)) = some lo →
        ∃ t, exec (.refClsWrite p i 2 v) s = .next t ∧ t.reg (clsReg i 1) = lo ∧ t.reg (clsReg i 2) = v ∧
          (∀ a, a ≠ clsReg i 1 → a ≠ clsReg i 2 → t.reg a = s.reg a) ∧ t = { s with regs := t.regs, heldLo := t.heldLo }))

/-! ## Transport (R215 to R239) -/

/-- The packetizer (R225 to R234): the next piece of linked bytes leaves as one sealed packet of the next index; a key change is armed
with both new keys; a due sender report takes the next SRTCP index; a feedback packet is taken from the intake, and counts as
accepted or dropped.
The model's own readings and choices in it: log entries 4, 25 and 43. -/
def Obligations.PacketsAndFeedback : Prop :=
  ∀ (s : State) (n : Nat),
    let x := s.ses n
    let d := x.desc
    (∀ (u : RowUnit) (us : List (List Byte)) (p : Piece), s.pktOn n = true → s.memServes = true → x.pkt.rtxWait = [] → s.nextPiece n = some (u, us, p) →
      let k := x.pkt.switchTx
      let last := p.units == us.length && u.full && u.last
      let hdr := [0x80, byte (128 * b2n last + dPt d)] ++ beBytes 2 (k.next % 65536) ++ beBytes 4 (rtpStamp d x.t0 u.tk) ++
        beBytes 4 (dSsrc d)
      let srtp := srtpSeal k.tx (dSsrc d) k.next hdr p.payload
      let frame := buildFrame k.tmpl k.ipId srtp
      (k.next < 2 ^ 48 → s.flowTakes (dFlow d) true frame = true →
        ∃ t e, exec (.packetize n) s = .next t ∧ (t.ses n).pkt.next = k.next + 1 ∧
          Tbl.get? (t.ses n).pkt.index k.next = some e ∧ e.srtp = srtp ∧ e.frame = u.frame ∧ e.last = last ∧ e.sent = none ∧
          (t.flow? (dFlow d)).map (·.pkts) = (s.flow? (dFlow d)).map (fun f => f.pkts ++ [⟨frame, false, k.next⟩]) ∧
          (t.ses n).st = x.st ∧ (t.ses n).desc = d ∧ t.dev = s.dev) ∧
      ((2 ^ 48 ≤ k.next ∨ s.flowTakes (dFlow d) true frame = false) → exec (.packetize n) s = .next s)) ∧
    (s.pktOn n = false → exec (.packetize n) s = .next s ∧ exec (.feedbackPacket n) s = .next s) ∧
    (∀ (a : Path) (v : Word), s.coreTakes a = true → flag v 31 = true → fld (s.preg a Reg.pktSel) 8 0 = n → x.st ≠ .free →
      (s.slot (fld v 11 0)).typ = 2 → (s.slot (fld v 27 16)).typ = 2 →
      ∃ t, exec (.pktRekeyCmd a v) s = .next t ∧ t = { s with sessions := t.sessions, ibr := t.ibr } ∧
        (t.ses n).pkt.armed = some ((s.preg a Reg.pktRekeyIdxLo).toNat + fld (s.preg a Reg.pktRekeyIdxHi) 15 0 * 2 ^ 32,
          s.srtpKey (fld v 11 0), s.srtpKey (fld v 27 16)) ∧
        (t.ses n).pkt.txDone = false ∧ (t.ses n).pkt.rxDone = false ∧ (t.ses n).pkt.oldFree = false ∧
        (t.ses n).pkt.tx = x.pkt.tx ∧ (t.ses n).pkt.rx = x.pkt.rx ∧ (∀ m, m ≠ n → t.ses m = s.ses m)) ∧
    (dSrMs d ≠ 0 → x.st ≠ .ready → s.pktOn n = true →
      let u := s.reach x.pkt.srAt
      let frame := buildFrame x.pkt.tmpl x.pkt.ipId (srtcpSeal x.pkt.tx (dSsrc d) x.pkt.srtcp (u.senderReport n))
      (x.pkt.srtcp < 2 ^ 31 → u.flowTakes (dFlow d) false frame = true →
        ∃ t, exec (.srIntervalExpiry n) s = .next t ∧ (t.ses n).pkt.srtcp = x.pkt.srtcp + 1 ∧
          (t.ses n).pkt.srAt = x.pkt.srAt + msTicks (dSrMs d) ∧ t.tick = max s.tick x.pkt.srAt ∧ t.mem = s.mem ∧
          (t.flow? (dFlow d)).map (·.pkts) = (s.flow? (dFlow d)).map (fun f => f.pkts ++ [⟨frame, false, 2 ^ 48⟩])) ∧
      (2 ^ 31 ≤ x.pkt.srtcp → x.pkt.exhausted = false → (s.pg (ordOf .packetizer 0)).resetting = false →
        ∃ t, exec (.srIntervalExpiry n) s = .next t ∧ (t.ses n).pkt.exhausted = true ∧ (t.ses n).pkt.srtcp = x.pkt.srtcp ∧
          t.flows = s.flows ∧ (t.pg (ordOf .packetizer 0)).err.getLsbD 5 = true)) ∧
    (∀ (p : List Byte) (at_ : Nat) (rest : List (List Byte × Nat)), s.pktOn n = true → x.pkt.fb = (p, at_) :: rest →
      ((beAt p 1 1 < 192 ∨ 223 < beAt p 1 1) →
        ∃ t, exec (.feedbackPacket n) s = .next t ∧ t = { s with sessions := t.sessions } ∧
          (t.ses n).pkt = { x.pkt with fb := rest, fbDrop := min (x.pkt.fbDrop + 1) 0xFFFFFFFF } ∧ (∀ m, m ≠ n → t.ses m = s.ses m)) ∧
      (192 ≤ beAt p 1 1 → beAt p 1 1 ≤ 223 →
        ∃ t, exec (.feedbackPacket n) s = .next t ∧ (t.ses n).pkt.fb = rest ∧ (t.ses n).desc = d ∧ t.dev = s.dev ∧
          (match ({ x.pkt with fb := rest } : Pkt).openFb p with
           | (some (i, _), _) => i ∈ (t.ses n).pkt.seen ∨ (t.ses n).pkt.fbDrop = min (x.pkt.fbDrop + 1) 0xFFFFFFFF
           | (none, _) => (t.ses n).pkt.fbDrop = min (x.pkt.fbDrop + 1) 0xFFFFFFFF ∧ (t.ses n).pkt.authBad = x.pkt.authBad + 1)))

/-- Leat queues (R220, R222, R223): the oldest segment of history is freed once every packet in it is older than HIST_MS and none of
them has a retransmission pending; a flush drops what a lane holds and its fragments' bytes, and the lane stays open; bytes that no one has
read for LEAT_STALE_US mark the lane, an encode or a device one, and set STALE.
The model's own readings and choices in it: log entries 4, 6, 32 and 107. -/
def Obligations.LeatQueues : Prop :=
  ∀ (s : State) (q k : Nat), s.coreUp = true → k < 2 →
    let l := 2 * q + k
    let x := s.lane l
    (∀ e : Nat, x.histEnd = some e → dHist (s.ses x.owner).desc ≠ 0 → s.histMay l e = true →
      (∀ h ∈ x.histOld e, (s.histSent x.owner h).isSome = true) →
      ∃ t, exec (.historyExpiry q k) s = .next t ∧ e ≤ (t.lane l).base ∧ (∀ h ∈ (t.lane l).hist, h ∈ x.hist ∧ e ≤ h.lo) ∧
        (t.lane l).units = x.units ∧ (t.lane l).read = x.read ∧ s.tick ≤ t.tick ∧ t.dev = s.dev ∧
        (∀ h ∈ x.histOld e, ∀ a : Nat, s.histSent x.owner h = some a → a + msTicks (dHist (s.ses x.owner).desc) < t.tick) ∧
        (∀ h ∈ x.histOld e, ∀ i : PktIdx, Tbl.get? (t.ses x.owner).pkt.index h.idx = some i → i.held = false)) ∧
    (x.histEnd = none → exec (.historyExpiry q k) s = .next s) ∧
    (∀ e : Nat, x.histEnd = some e → s.histMay l e = false → exec (.historyExpiry q k) s = .next s) ∧
    (∀ (p : Path) (v : Word), s.coreTakes p = true → fld v 7 0 = q → fld v 8 8 = k → x.isOpen = true →
      ∃ t, exec (.leatFlush p v) s = .next t ∧ (t.lane l).isOpen = true ∧ (t.lane l).units = [] ∧ (t.lane l).frames = [] ∧
        (t.lane l).hist = [] ∧ (t.lane l).base = x.read ∧ (t.lane l).read = x.read ∧ (t.lane l).owner = x.owner ∧ t.dev = s.dev ∧
        (x.device = false → ∀ f, (t.ses x.owner).frame = some f → ∀ g ∈ f.segs, ∀ o, g.out = some o → o = []) ∧
        (x.device = false → (t.ses x.owner).pkt.rtxWait = [])) ∧
    (∀ t0 : Nat, x.oldest = some t0 → fld (s.reg Reg.leatStaleUs) 23 0 ≠ 0 → x.isOpen = true → x.stale = false →
      (s.pg (ordOf .leat0 0)).resetting = false →
      ∃ t, exec (.leatStale q k) s = .next t ∧ t.lane l = { x with stale := true } ∧ t.mem = s.mem ∧
        t.tick = max s.tick (t0 + usTicks (fld (s.reg Reg.leatStaleUs) 23 0)) ∧ (t.pg (ordOf .leat0 0)).err.getLsbD 2 = true) ∧
    (fld (s.reg Reg.leatStaleUs) 23 0 = 0 → exec (.leatStale q k) s = .next s)

/-- The Sluice (R286 to R296): RELOAD takes a flow's new description and answers 0; the coarse slot moves flows that are near to the
fine wheel; the fine slot releases the packet of a due flow with credit; a committed table is swapped in at its cycle's end; an entry of a
table gives way to the next.
The model's own readings and choices in it: log entries 4, 6 and 119. -/
def Obligations.SluiceAndGates : Prop :=
  ∀ (s : State) (f p : Nat),
    (∀ (a : Path) (x : Flow) (d : FlowDesc) (s1 : State), s.coreTakes a = true → f < 4096 → s.flow? f = some x →
      s.readFlow f = (some d, s1) →
      ∃ t, exec (.sluFlowReload a f) s = .next t ∧ (t.flow? f).map (·.desc) = some d ∧ (t.flow? f).map (·.pkts) = some x.pkts ∧
        t.reg (bank a Reg.sluFlowResult) = 0 ∧ flag (t.pg (ordOf .sluice 0)).int 2 = true ∧ (∀ g, g ≠ f → t.flow? g = s.flow? g)) ∧
    (∀ a : Path, s.coreTakes a = true → f < 4096 → s.flow? f = none →
      ∃ t, exec (.sluFlowReload a f) s = .next t ∧ t.flows = s.flows ∧ t.reg (bank a Reg.sluFlowResult) = 1 ∧ t.mem = s.mem) ∧
    (s.sluiceOn = true →
      let c := s.reach ((s.tick / coarseSlot + 1) * coarseSlot)
      let u := s.reach ((s.tick / fineSlot + 1) * fineSlot)
      (∃ t, exec .sluiceCoarseSlot s = .next t ∧ t.tick = (s.tick / coarseSlot + 1) * coarseSlot ∧
        t = { s with tick := t.tick, flows := t.flows } ∧
        ∀ x, s.flow? f = some x → t.flow? f = some (match x.wheel with
          | some (at_, true) => if at_ < c.tick + 2 * coarseSlot then { x with wheel := some (at_, false) } else x
          | _ => x)) ∧
      (s.flows = [] → s.leat.lanes = [] → exec .sluiceFineSlot s = .next u) ∧
      (∀ (x : Flow) (t0 : Nat) (g : FlowPkt), s.flows = [(f, x)] → s.leat.lanes = [] → x.wheel = some (t0, false) → t0 ≤ u.tick →
        x.pkts = [g] → 0 ≤ (x.settle u.tick).k → u.flowBlocked (x.settle u.tick) = false →
        ∃ t, exec .sluiceFineSlot s = .next t ∧ (t.flow? f).map (·.pkts) = some [] ∧ t.tick = u.tick ∧
          (t.flow? f).map (·.sent) = some ((x.sent + 1) % 2 ^ 32) ∧ (t.flow? f).bind (·.wheel) = none ∧
          (t.flow? f).map (·.k) = some (min ((x.desc.burst * 65536 : Nat) : Int)
            ((x.settle u.tick).k - (((g.frame.length + 4 : Nat) : Int) + x.desc.overhead) * 65536)))) ∧
    (∀ (a : Path) (v : Word), s.coreTakes a = true →
      (fld v 6 0 < 4 * s.part.quads →
        ∃ t, exec (.sluTblCommit a v) s = .next t ∧ t.gate (fld v 6 0) = { s.gate (fld v 6 0) with pending := true } ∧
          (∀ k, k ≠ fld v 6 0 → t.gate k = s.gate k) ∧ t = { s with gates := t.gates }) ∧
      (4 * s.part.quads ≤ fld v 6 0 → exec (.sluTblCommit a v) s = .next s)) ∧
    (s.sluiceOn = true → (s.gate p).pending = true →
      ∃ t, exec (.sluTblSwap p) s = .next t ∧ (t.gate p).active = !(s.gate p).active ∧ (t.gate p).pending = false ∧
        (t.gate p).openAll = false ∧ (t.gate p).copy0 = (s.gate p).copy0 ∧ (t.gate p).copy1 = (s.gate p).copy1 ∧
        (((s.gate p).copy (s.gate p).active).en = false → t.tick = s.tick + 1) ∧ t = { s with tick := t.tick, gates := t.gates }) ∧
    ((s.gate p).pending = false → exec (.sluTblSwap p) s = .next s) ∧
    (s.sluiceOn = true → ((s.gate p).copy (s.gate p).active).en = true →
      let c := (s.gate p).copy (s.gate p).active
      ∃ t, exec (.gateEntryBoundary p) s = .next t ∧ t.tick = max s.tick (s.tickOf (s.netTime + (c.now s.netTime).2)) ∧
        t.gate p = { s.gate p with entry := (c.now t.netTime).1 } ∧ t = { s with tick := t.tick, gates := t.gates })

/-! ## The time base (R273 to R285) -/

/-- Network time (R274, R277, R282, R283, R285): the last word of TB_OFFSET applies the whole value; a rate in range keeps N continuous,
any other sets CFG; TB_STEP moves N by its ns; an enabled comparator starts on its grid and refuses its words; the loss of SDREF_W, the
lock to SDREF_E, an edge of PPS_IN and the end of a pulse.
The model's own readings and choices in it: log entries 52, 53, 89 and 118. -/
def Obligations.NetworkTime : Prop :=
  ∀ (s : State) (p : Path) (v : Word),
    (s.takes p = true →
      (∃ t, exec (.tbOffsetWrite p v) s = .next t ∧ t.tick = s.tick ∧ t.tb.rate = s.tb.rate ∧ t.mem = s.mem ∧
        t.tb.offset = (s.offsetWord p 0 + s.offsetWord p 1 * 2 ^ 32 + s.offsetWord p 2 * 2 ^ 64 + fld v 15 0 * 2 ^ 96) % netMod ∧
        (t.tb.offset ≠ s.tb.offset → flag (t.pg (ordOf .timebase 0)).int 3 = true)) ∧
      (let r := fld v 7 0 * 2 ^ 32 + (Tbl.getD s.heldLo (pathKey p Reg.tbRateLo) (loWord s.tb.rate)).toNat
       (rateOk r = true →
         ∃ t, exec (.tbRateWrite p v) s = .next t ∧ t.tb.rate = r ∧ t.netTime = s.netTime ∧
           t = { s with tb := t.tb, heldLo := t.heldLo }) ∧
       (rateOk r = false → (s.pg (ordOf .timebase 0)).resetting = false →
         ∃ t, exec (.tbRateWrite p v) s = .next t ∧ t.tb = s.tb ∧ t.tick = s.tick ∧
           (t.pg (ordOf .timebase 0)).err.getLsbD 1 = true)) ∧
      (let step := signed 64 (pair64 (Tbl.getD s.heldLo (pathKey p Reg.tbStepLo) 0) v)
       ∃ t, exec (.tbStepWrite p v) s = .next t ∧ ((t.tb.offset : Nat) : Int) = ((s.tb.offset : Int) + step * 2 ^ 32) % (netMod : Nat) ∧
         t.tb.rate = s.tb.rate ∧ t.tick = s.tick) ∧
      (∀ (n k : Nat), n < 32 → k < 4 →
        (k < 3 → s.cmpEn n = false → ∃ t, exec (.tbCmpWrite p n k v) s = .next t ∧
          t.reg (cmpReg n k) = (if k = 1 then v &&& 0xFFFF#32 else v) ∧ (∀ a, a ≠ cmpReg n k → t.reg a = s.reg a) ∧
          t = { s with regs := t.regs }) ∧
        (k < 3 → s.cmpEn n = true → (s.pg (ordOf .timebase 0)).resetting = false →
          ∃ t, exec (.tbCmpWrite p n k v) s = .next t ∧ t.regs = s.regs ∧ t.tb = s.tb ∧
            (t.pg (ordOf .timebase 0)).err.getLsbD 1 = true) ∧
        (k = 3 → flag v 0 = true → s.cmpEn n = false → 1000 ≤ (s.reg (Reg.tbCmpPeriodNs n)).toNat → s.cmpPhase n < s.cmpPeriod n →
          ∃ t, exec (.tbCmpWrite p n k v) s = .next t ∧ t.cmpEn n = true ∧
            Tbl.get? t.tb.next n = some (gridFrom (s.cmpPeriod n) (s.cmpPhase n) s.netTime) ∧
            t = { s with regs := t.regs, tb := t.tb }))) ∧
    (s.tb.refE = false → s.dev.mode ≠ .off → (s.pg (ordOf .timebase 0)).resetting = false →
      ∃ t, exec .sdrefWLoss s = .next t ∧ t.tb = { s.tb with refE := true, pllLock := false } ∧ t.tick = s.tick ∧
        (t.pg (ordOf .timebase 0)).err.getLsbD 0 = true) ∧
    (s.tb.refE = true → exec .sdrefWLoss s = .next s ∧
      exec .tbPllLockE s = .next { s with tb := { s.tb with pllLock := true } }) ∧
    (s.tb.refE = false → exec .tbPllLockE s = .next s) ∧
    (s.up = true → (∀ t0, s.tb.ppsInAt = some t0 → t0 + 1250 ≤ s.tick) →
      ∃ t, exec .ppsInEdge s = .next t ∧ t.tb = { s.tb with ppsInAt := some s.tick } ∧ t.reg64 Reg.tbPpsInLo = s.tick % 2 ^ 64 ∧
        t.reg Reg.tbPpsInCnt = s.reg Reg.tbPpsInCnt + 1 ∧ flag (t.pg (ordOf .timebase 0)).int 2 = true ∧ t.tick = s.tick) ∧
    (∀ t0, s.up = true → s.tb.ppsInAt = some t0 → s.tick < t0 + 1250 →
      exec .ppsInEdge s = .next { s with tb := { s.tb with ppsInAt := some s.tick } }) ∧
    (s.up = false → exec .ppsInEdge s = .next s) ∧
    (s.tb.ppsOut = true →
      exec .ppsOutPulseEnd s = .next { s with
        tick := max s.tick s.tb.ppsFall, tb := { s.tb with ppsOut := false }, out := .pps false :: s.out }) ∧
    (s.tb.ppsOut = false → exec .ppsOutPulseEnd s = .next s)

/-! ## The Ledger (R427 to R434) -/

/-- The Ledger's commands and writes (R429, R431, R434): while a command or a write is in progress every command ends BUSY; a write goes into
the bank that does not hold the newest record and takes the pending updates; its verified end makes the bank valid; a failed one is
tried once more, and then the updates wait; the reads copy their bytes to part DRAM.
The model's own readings and choices in it: log entries 4, 38 and 130. -/
def Obligations.LedgerCommands : Prop :=
  ∀ (s : State) (p : Path),
    let began (u t : State) (cmd : Option LdgCmd) : Prop := ∃ w, t.ldg.write = some w ∧ w.cmd = cmd ∧ w.added = u.ldg.faults ∧
      w.retry = false ∧ t.ldg.faults = [] ∧ t.ldg.updates = false ∧
      (u.ldg.newest.map (·.1) = some 0 → w.bank = 1 ∧ t.ldg.bank0 = u.ldg.bank0 ∧ t.ldg.bank1 = .blank) ∧
      (u.ldg.newest.map (·.1) ≠ some 0 → w.bank = 0 ∧ t.ldg.bank1 = u.ldg.bank1 ∧ t.ldg.bank0 = .blank)
    (s.takes p = true → s.ldg.busy = true → ∀ i ∈ [Instr.ldgSync p, .ldgWriteUser p, .ldgReadUser p, .ldgWriteRecord p, .ldgClearRetire p,
        .ldgReadFaults p], exec i s = .next { s with ldg := { s.ldg with result := 4 } }) ∧
    (s.takes p = true → s.ldg.busy = false →
      (s.ldg.updates = true → ∃ t, exec (.ldgSync p) s = .next t ∧ began s t (some .sync) ∧ t = { s with ldg := t.ldg }) ∧
      (s.ldg.updates = false → exec (.ldgSync p) s = .next { s with ldg := { s.ldg with result := 0 } }) ∧
      (∃ t, exec (.ldgClearRetire p) s = .next t ∧ began s t (some .clearRetire) ∧ t.ldg.retire = Retire.none ∧ t = { s with ldg := t.ldg }) ∧
      exec (.ldgReadUser p) s = .next { s with ldg := { s.ldg with read := some (.readUser, s.ldgAddr) } } ∧
      exec (.ldgReadFaults p) s = .next { s with ldg := { s.ldg with read := some (.readFaults, s.ldgAddr) } } ∧
      (∀ (l : List Byte) (s1 : State), s.ldgLen % 64 = 0 → s.ldgLen ≤ 2 ^ 20 →
        s.readBytes ldgMaster 0x0 s.ldgAddr s.ldgLen = (some l, s1) →
        ∃ t, exec (.ldgWriteUser p) s = .next t ∧ began s1 t (some .writeUser) ∧
          (t.ldg.write.map fun w => Tbl.getD w.record.secs 9 []) = some l ∧ t.mem.cells = s.mem.cells) ∧
      (∀ (l : List Byte) (s1 : State) (secs : Tbl (List Byte)), s.ldgLen % 64 = 0 → s.ldgLen ≠ 0 → s.ldgLen ≤ 2 ^ 24 →
        s.readBytes ldgMaster 0x0 s.ldgAddr s.ldgLen = (some l, s1) → ldgParse l = some secs →
        (∀ y ∈ [2, 3, 4], ∀ c ∈ s1.secImgs y (Tbl.getD secs y []), c = 0) →
        ∃ t, exec (.ldgWriteRecord p) s = .next t ∧ began s1 t (some .writeRecord) ∧
          (t.ldg.write.map (·.record.secs)) = some secs ∧ t.mem.cells = s.mem.cells) ∧
      (s.ldgLen % 64 ≠ 0 → (s.pg (ordOf .ledger 0)).resetting = false → ∀ i ∈ [Instr.ldgWriteUser p, .ldgWriteRecord p],
        ∃ t, exec i s = .next t ∧ t.ldg.result = 1 ∧ t.ldg.write = none ∧ (t.pg (ordOf .ledger 0)).err.getLsbD 2 = true)) ∧
    (s.up = true → s.ldg.updates = true → s.ldg.busy = false → s.ldgDue = true →
      ∃ t, exec .ledgerRecordWrite s = .next t ∧ began s t none ∧ t = { s with ldg := t.ldg }) ∧
    (∀ w : LdgWrite, s.up = true → s.ldg.write = some w →
      (w.bank = 0 ∨ w.bank = 1) →
      (∃ t, exec (.ledgerWriteDone true) s = .next t ∧ t.ldg.write = none ∧ t.ldg.lastAt = some s.tick ∧
        (w.bank = 0 → t.ldg.bank0 = .valid w.record ∧ t.ldg.bank1 = s.ldg.bank1) ∧
        (w.bank = 1 → t.ldg.bank1 = .valid w.record ∧ t.ldg.bank0 = s.ldg.bank0) ∧
        t.ldg.result = (if w.cmd.isSome then 0 else s.ldg.result) ∧ t = { s with ldg := t.ldg }) ∧
      (w.retry = false → ∀ i ∈ [Instr.ledgerWriteDone false, .ledgerFlashTimeout],
        ∃ t v, exec i s = .next t ∧ t.ldg.write = some v ∧ v.retry = true ∧ v.record = w.record ∧ v.since = t.tick ∧ t.mem = s.mem) ∧
      (w.retry = true → s.dev.mode ≠ .halt → (s.pg (ordOf .ledger 0)).resetting = false →
        ∀ i ∈ [Instr.ledgerWriteDone false, .ledgerFlashTimeout],
        ∃ t, exec i s = .next t ∧ t.ldg.write = none ∧ (t.pg (ordOf .ledger 0)).err.getLsbD 1 = true ∧
          ((w.added ≠ [] ∨ w.retireP = true ∨ w.wearP = true) → t.ldg.updates = true) ∧ (w.cmd.isSome = true → t.ldg.result = 3) ∧
          (w.bank = 0 → t.ldg.bank0 = .bad) ∧ (w.bank = 1 → t.ldg.bank1 = .bad) ∧
          (∀ e ∈ w.added, ∃ e' ∈ t.ldg.faults, e'.page = e.page ∧ e'.src = e.src ∧ e'.time = e.time))) ∧
    (∀ t0 : Nat, s.up = true → s.ldg.lastAt = some t0 → s.ldg.updates = true → s.ldg.busy = false →
      ∃ t, exec .ledgerIntervalExpiry s = .next t ∧ began s t none ∧
        t.tick = max s.tick (t0 + secTicks (fld (s.reg Reg.ldgMinIntervalS) 15 0)) ∧ t.mem = s.mem) ∧
    (s.up = true → s.ldg.busy = true →
      exec .ledgerWearUpdate s = .next { s with ldg := { s.ldg with wearP := true } }) ∧
    (s.up = true → s.ldg.busy = false → s.ldgDue = true → ∃ t, exec .ledgerWearUpdate s = .next t ∧ began s t none) ∧
    (s.up = true →
      let tj := signed 16 (fld (s.reg Reg.devTjMax) 15 0)
      let w := s.ldg.wear
      exec .wearHourCount s = .next { s with ldg := { s.ldg with wear :=
        if tj < 1760 then { w with hoursLow := min (w.hoursLow + 1) 0xFFFFFFFF }
        else if tj ≤ 2400 then { w with hoursMid := min (w.hoursMid + 1) 0xFFFFFFFF }
        else { w with hoursTop := min (w.hoursTop + 1) 0xFFFFFFFF } } }) ∧
    (∀ (c : LdgCmd) (a : Nat), s.live = true → s.memServes = true → s.ldg.read = some (c, a) →
      a + (s.ldg.readData c).length ≤ s.dramSize →
      ∃ t, exec .ledgerReadDone s = .next t ∧ t.ldg.read = none ∧ t.ldg.result = 0 ∧
        t.mem.bytesAt a (s.ldg.readData c).length = s.ldg.readData c)

/-! ## Decode sessions and runners (R167 to R214) -/

/-- Decode sessions (R57, R167, R170, R174 to R188): SETUP, START, STOP and ABORT move the session as R57 gives and answer their code; packets
and a late access unit leave the intake; a pipeline takes the oldest access unit, with the last picture for a reference that is missing,
discards one of an unsupported sequence, and outputs a shown picture again; a picture ends at its time, with its status; pictures go
out in order while their consumer has room; a hung pipeline is lost; an engine that another names is refused.
The model's own readings and choices in it: log entries 26, 74, 108, 109, 110, 111, 112, 113 and 116. -/
def Obligations.DecodeSessions : Prop :=
  ∀ (s : State) (a : Path) (p n : Nat), s.coreUp = true → p < s.part.pipes →
    let x := s.dec n
    let done (t : State) (cmd code : Nat) : Prop := t.reg (bank a (Reg.decSesResult p)) = pack [(0, n), (12, cmd), (16, code)]
    (∀ (d : List Byte) (s1 : State), s.via a = true → n < s.part.decSessions → (x.st = .free ∨ x.st = .ready) →
      s.readBytes 0x122 0x0 (s.preg64 a (Reg.decSesDescLo p) / 64 * 64) 128 = (some d, s1) → s1.eeOk d = true →
      s1.eePresent d = true → s1.pipeServes (eePipe d) (dCodec d) = true →
      (s1.decFree n).refRoom (eeClass d) (eeBufs d) false = true →
      ∃ t, exec (.decSetup (.reg a) p n) s = .next t ∧ done t 1 0 ∧ (t.dec n).st = .ready ∧ (t.dec n).desc = d ∧
        (t.rses (512 + n)).bufs.length = eeBufs d) ∧
    (s.via a = true → n < s.part.decSessions → x.st = .ready → s.running = true →
      s.pipeSum (eePipe x.desc) + s.eeLoad x.desc ≤ 10 ^ 12 →
      ∃ t, exec (.decStart (.reg a) p n) s = .next t ∧ done t 2 0 ∧ t.dec n = { x with st := .running } ∧
        (∀ m, m ≠ n → t.dec m = s.dec m) ∧ t = { s with decs := t.decs, inputs := t.inputs, regs := t.regs }) ∧
    (s.via a = true → n < s.part.decSessions → (x.st = .running ∨ x.st = .held) →
      ∃ t, exec (.decStop (.reg a) p n) s = .next t ∧ done t 3 0 ∧ (t.dec n).st = .stopping ∧ (t.dec n).input = [] ∧
        (t.dec n).inBufs = [] ∧ (t.dec n).rtp = [] ∧ (t.dec n).net = [] ∧ (t.dec n).aus = x.aus) ∧
    (s.via a = true → n < s.part.decSessions → x.st = .ready →
      ∃ t, exec (.decStop (.reg a) p n) s = .next t ∧ done t 3 0 ∧ (t.dec n).st = .free) ∧
    (s.via a = true → n < s.part.decSessions → x.st ≠ .free →
      ∃ t, exec (.decAbort (.reg a) p n) s = .next t ∧ done t 4 0 ∧ (t.dec n).st = .free ∧ (t.dec n).pics = x.pics) ∧
    (s.via a = true → s.part.decSessions ≤ n → (s.pg (ordOf .dec p)).resetting = false →
      ∀ c ∈ [(1, Instr.decSetup (.reg a) p n), (2, .decStart (.reg a) p n), (3, .decStop (.reg a) p n), (4, .decAbort (.reg a) p n)],
        ∃ t, exec c.2 s = .next t ∧ done t c.1 2 ∧ t.decs = s.decs ∧ t.mem = s.mem ∧ (t.pg (ordOf .dec p)).err.getLsbD 5 = true) ∧
    (x.st = .stopping → s.decSpent n = true → ∃ t, exec (.decSessionStopped n) s = .next t ∧ (t.dec n).st = .free) ∧
    ((x.st ≠ .stopping ∨ s.decSpent n = false) → exec (.decSessionStopped n) s = .next s) ∧
    (∀ (b : List Byte) (at_ : Nat) (rest : List (List Byte × Nat)), x.takes = true → x.net = (b, at_) :: rest →
      ∃ t, exec (.decRtpPacket n) s = .next t ∧ (t.dec n).net = rest ∧ t.dev = s.dev ∧
        ((t.dec n).drops = min (x.drops + 1) 0xFFFFFFFF ∨ x.aus.length < (t.dec n).aus.length ∨
          (t.dec n).rtp.length = x.rtp.length + 1) ∧
        ((beAt b 0 1 / 64 ≠ 2 ∨ beAt b 8 4 ≠ eeSsrc x.desc ∨ beAt b 1 1 % 128 ≠ eePt x.desc) →
          (t.dec n).drops = min (x.drops + 1) 0xFFFFFFFF ∧ (t.dec n).rtp = x.rtp ∧ (t.dec n).aus = x.aus ∧
            (t.dec n).inLost = true ∧ t.mem = s.mem)) ∧
    (∀ (q : DecRtp) (rest : List DecRtp), x.takes = true → x.rtp = q :: rest →
      let first := (((x.rtp.takeWhile fun r => r.ts == q.ts).map (·.time)).min?).getD q.time
      ∃ t, exec (.decReorderTimeout n) s = .next t ∧ x.aus.length < (t.dec n).aus.length ∧
        (t.dec n).rtp.length < x.rtp.length ∧ t.tick = max s.tick (first + usTicks (eeReorder x.desc)) ∧ t.dev = s.dev) ∧
    (∀ (k : Nat) (u : DecAu), s.accepts .dec p = true → (s.pipe p).busy = false → (s.pipe p).lost = false → s.memServes = true →
      s.decPick p = some (k, u) →
      (∃ t, exec (.decPictureStart p none) s = .next t ∧ (t.dec k).aus = (s.dec k).aus.tail ∧ t.pipe p = s.pipe p ∧
        (t.dec k).num = (s.dec k).num) ∧
      (∀ h : DecHead, s.decSeqOk (s.dec k).desc h.seq = false →
        ∃ t, exec (.decPictureStart p (some h)) s = .next t ∧ (t.dec k).aus = (s.dec k).aus.tail ∧ t.pipe p = s.pipe p ∧
          (t.dec k).num = (s.dec k).num ∧ (t.pg (ordOf .dec p)).err.getLsbD 4 = true) ∧
      (∀ (h : DecHead) (b : Nat), s.decSeqOk (s.dec k).desc h.seq = true → h.shows = none →
        (s.refTake (512 + k) (s.dec k).num (s.dec k).num).1 = some b →
        ∃ t, exec (.decPictureStart p (some h)) s = .next t ∧ (t.dec k).aus = (s.dec k).aus.tail ∧ (t.pipe p).busy = true ∧
          (t.pipe p).ses = k ∧ (t.pipe p).buf = b ∧ (t.pipe p).au = some u ∧ (t.pipe p).head = some h ∧ (t.pipe p).since = s.tick ∧
          (h.refs = [] → (t.pipe p).refs = [] ∧ (t.pipe p).subst = false) ∧
          (∀ v, (s.dec k).lastBuf = some v → h.refs ≠ [] → (∀ o ∈ h.refs, o = none) →
            (t.pipe p).refs = h.refs.map (fun _ => v) ∧ (t.pipe p).subst = true ∧ (t.pipe p).grey = none)) ∧
      (∀ (h : DecHead) (j : Nat) (q : DecPic), s.decSeqOk (s.dec k).desc h.seq = true → h.shows = some j →
        (s.dec k).dpb.find? (fun q => q.num == j) = some q →
        ∃ t, exec (.decPictureStart p (some h)) s = .next t ∧ t.pipe p = s.pipe p ∧ (t.dec k).num = (s.dec k).num ∧
          { q with flags := q.flags + b2n q.shown } ∈ (t.dec k).ready)) ∧
    (∀ (r : DecodeOutcome) (u : DecAu) (h : DecHead), (s.pipe p).au = some u → (s.pipe p).head = some h → (s.pipe p).busy = true →
      (s.pipe p).ses = n → s.serves .dec p (s.pipe p).since = true → s.memServes = true → s.pipeServes p (dCodec x.desc) = true →
      let noCabac := dCodec x.desc == 1 && (s.imageAt 2 p).any fun i => i.id == 0x12
      let sound := r.slices.flatMap (DecSlice.sound u.size (s.pipe p).bad noCabac)
      ∃ t q, exec (.decPictureDone p r) s = .next t ∧ (t.pipe p).busy = false ∧ (t.pipe p).au = none ∧
        (t.dec n).num = x.num + 1 ∧ (t.dec n).pics = (x.pics + 1) % 2 ^ 32 ∧ (t.dec n).lastBuf = some (s.pipe p).buf ∧
        t.dev = s.dev ∧ t.tick = max s.tick ((s.pipe p).since + nsTicks (decNs (dCodec x.desc) h)) ∧
        q ∈ (t.dec n).dpb ∧ q.num = x.num ∧ q.buf = (s.pipe p).buf ∧ q.width = h.width ∧ q.height = h.height ∧
        ((s.pipe p).subst = false → (∀ i, i < ceilDiv h.seq.width 16 * ceilDiv h.seq.height 16 → i ∈ sound) →
          (∀ v ∈ (s.pipe p).refs, (s.rbuf v).concealed = false) → q.status = 0 ∧ (t.dec n).conc = false) ∧
        ((s.pipe p).subst = true → bitOf q.status 0 = true ∧ (t.dec n).conc = true) ∧
        (∀ i, i < ceilDiv h.seq.width 16 * ceilDiv h.seq.height 16 → i ∉ sound →
          bitOf q.status 0 = true ∧ bitOf q.status 3 = true ∧ (t.dec n).conc = true)) ∧
    (∀ (l : List Byte) (s1 : State), x.st ≠ .free → x.ready ≠ [] → eeCons x.desc ≠ 0 → x.polled = none → eeSpace x.desc = none →
      s.readBytes (0x40 + eePipe x.desc) 0x0 (eeCons x.desc) 4 = (some l, s1) →
      ∃ t, exec (.decConsPoll n) s = .next t ∧ (t.dec n).polled = some (leNat l) ∧ (t.dec n).ready = x.ready ∧
        t.mem.cells = s.mem.cells) ∧
    (∀ (q : DecPic) (rest : List DecPic) (e : Nat), x.st ≠ .free → x.ready = q :: rest → s.decDma (eePipe x.desc) = some e →
      s.accepts .dma e = true → s.memServes = true →
      (eeCons x.desc = 0 ∨ ∃ c, x.polled = some c ∧ (x.out + 2 ^ 32 - c) % 2 ^ 32 < eeSlots x.desc) →
      ∃ t, exec (.decDeliveryDone n) s = .next t ∧ (t.dec n).ready = rest ∧ (t.dec n).out = (x.out + 1) % 2 ^ 32 ∧
        (t.dec n).polled = none ∧ t.reg (Reg.dmaXfers e) = s.reg (Reg.dmaXfers e) + 1 ∧ t.dev = s.dev) ∧
    (x.ready = [] → exec (.decDeliveryDone n) s = .next s ∧ exec (.decConsPoll n) s = .next s) ∧
    (∀ h : DecHead, (s.pipe p).busy = true → (s.pipe p).head = some h → (s.pg (ordOf .dec p)).resetting = false →
      ∃ t, exec (.decWatchdog p) s = .next t ∧ (t.pipe p).lost = true ∧ (t.pg (ordOf .dec p)).err.getLsbD 2 = true) ∧
    (∀ v : Word, s.via a = true →
      let other := ∃ k, k < s.part.pipes ∧ k ≠ p ∧ flag (s.reg (Reg.decCtl k)) 7 = true ∧ fld (s.reg (Reg.decCtl k)) 4 0 = fld v 4 0
      let named := ∃ c ∈ s.chans, flag c.2.cfg 0 = true ∧ c.2.dma = fld v 4 0
      ((flag v 7 = false ∨ (¬ other ∧ ¬ named)) →
        ∃ t, exec (.decCtlWrite a p v) s = .next t ∧ t.reg (Reg.decCtl p) = v &&& 0x9F#32 ∧
          (∀ b, b ≠ Reg.decCtl p → t.reg b = s.reg b) ∧ t = { s with regs := t.regs }) ∧
      (flag v 7 = true → (other ∨ named) → (s.pg (ordOf .dec p)).resetting = false →
        ∃ t, exec (.decCtlWrite a p v) s = .next t ∧ t.regs = s.regs ∧ t.mem = s.mem ∧ (t.pg (ordOf .dec p)).err.getLsbD 6 = true))

/-- Runners and the library (R190 to R207, R211, R214): assignments wait, for a place that another holds too, and come into force at a
boundary; a spare loads a new image first; INSERT and REMOVE keep the slots and answer a code; a load ends with its image or without; a
unit starts at its entry with G0 naming session and column and runs word by word; a word that writes waits for its lane; memory and copy
operations end; an asset block joins its step's output or ends its transform; a hung runner is retired.
The model's own readings and choices in it: log entries 26, 36, 42, 44, 74, 91 and 108. -/
def Obligations.RunnersAndLibrary : Prop :=
  ∀ (s : State) (a : Path) (n k : Nat), s.coreUp = true →
    let x := s.runner n
    let m := x.m
    (∀ v : Word, s.via a = true → (s.pg (ordOf .runners0 0)).resetting = false → k < s.part.runnersUse →
      (s.asgOk k (asgOf v) = true →
        ∃ t, exec (.runnerAssignWrite a k v) s = .next t ∧ t.reg (Reg.runnerAssign k) = v &&& 0xFFB#32 ∧
          (∀ b, b ≠ Reg.runnerAssign k → t.reg b = s.reg b) ∧ t = { s with regs := t.regs }) ∧
      (s.asgOk k (asgOf v) = false →
        ∃ t, exec (.runnerAssignWrite a k v) s = .next t ∧ t.regs = s.regs ∧ t.mem = s.mem ∧
          (t.pg (ordOf .runners0 0)).err.getLsbD 6 = true)) ∧
    (k < s.part.runnersUse → s.runnerOf k = some n → s.asgWaits k = true → x.loading = none →
      (s.placeHeld k (s.asked k) = true → exec (.runnerAssignApply k) s = .next s) ∧
      (s.asgHeld (s.assign k) = false → s.asgHeld (s.asked k) = false → s.placeHeld k (s.asked k) = false →
        (x.busy = false → ((s.asked k).side = 0 ∨ x.lib = some (s.asked k).lib) →
          ∃ t, exec (.runnerAssignApply k) s = .next t ∧ t.assign k = s.asked k ∧ t.asgWaits k = false ∧
            flag (t.pg (ordOf .runners0 0)).int 2 = true ∧ t.mem = s.mem ∧ t.runner n = x) ∧
        (∀ r : Nat, s.asgReplaces k = true → (∀ j, j < k → s.asgReplaces j = false) → s.spareRunner = some r → r ≠ n →
          (s.runner r).lib ≠ some (s.asked k).lib → (s.runner r).loading ≠ some (s.asked k).lib →
          (s.lib (s.asked k).lib).valid = true →
          ∃ t, exec (.runnerAssignApply k) s = .next t ∧ (t.runner r).loading = some (s.asked k).lib ∧ t.runner n = x ∧
            t.assign k = s.assign k ∧ t = { s with runners := t.runners }))) ∧
    (k < 16 → s.via a = true →
      (s.runners.cmd = none →
        ((s.lib k).valid = false →
          exec (.libInsert a k) s = .next { s with runners := { s.runners with cmd := some (k, s.libAddr) } }) ∧
        ((s.lib k).valid = true →
          ∃ t, exec (.libInsert a k) s = .next t ∧ t.runners.result = 4 ∧ t.lib k = s.lib k ∧ t.runners.cmd = none) ∧
        (s.libHeld k = false →
          ∃ t, exec (.libRemove a k) s = .next t ∧ t.lib k = LibSlot.empty ∧ t.runners.result = 0 ∧
            flag (t.pg (ordOf .runners0 0)).int 1 = true ∧ t.mem = s.mem) ∧
        (s.libHeld k = true →
          ∃ t, exec (.libRemove a k) s = .next t ∧ t.lib k = s.lib k ∧ t.runners.result = 4)) ∧
      (s.runners.cmd.isSome = true → exec (.libInsert a k) s = .next s ∧ exec (.libRemove a k) s = .next s)) ∧
    (∀ addr : Nat, s.memServes = true → s.runners.cmd = some (k, addr) →
      ∃ t, exec .libInsertDone s = .next t ∧ t.runners.cmd = none ∧ t.runners.result = (s.libRead addr).1 ∧
        t.mem.cells = s.mem.cells ∧
        ((s.libRead addr).1 = 0 → (t.lib k).valid = true ∧ (t.lib k).image = (s.libRead addr).2.1 ∧ (t.lib k).addr = addr)) ∧
    (n < s.part.runnersPhys → x.loading = some k → (s.lib k).ledger = true → (s.pg (ordOf .runners0 0)).resetting = false →
      ∃ t, exec (.runnerLoadDone n) s = .next t ∧ (t.runner n).loading = none ∧ t.mem = s.mem ∧
        ((t.runner n).lib = some k ∨ ((t.runner n).lib = none ∧ (t.pg (ordOf .runners0 0)).err.getLsbD 5 = true))) ∧
    (∀ u : VideoUnit, x.inited = true → s.videoUnit (s.assign x.logical) = some u → s.runnerFree n u.since = true →
      let re := x.resume || ((s.assign x.logical).side == 1 && s.runners.again.contains (u.ses, u.col))
      ∃ t, exec (.runnerUnitStart n) s = .next t ∧ (t.runner n).busy = true ∧ (t.runner n).since = s.tick ∧ (t.runner n).unit = u.seg ∧
        (t.runner n).m.pc = (s.lib (x.lib.getD 0)).entry (if re then 2 else 1) ∧ (t.runner n).m.input = u.input ∧
        fld ((t.runner n).m.gr 0) 15 0 = u.ses % 65536 ∧ fld ((t.runner n).m.gr 0) 18 16 = u.col % 8 ∧
        (t.runner n).m.gr 7 = word u.row ∧
        (∀ (v : Nat × Nat × Nat) (p : Nat), u.seg = some v → s.stoneOf (s.assign x.logical).target = some p →
          (t.stone p).units = (s.stone p).units.tail) ∧
        t = { s with runners := t.runners, stones := t.stones, free := s.free + 1 }) ∧
    (x.inited = false → s.runnerFree n s.tick = true →
      (∃ t, exec (.runnerUnitStart n) s = .next t ∧ (t.runner n).busy = true ∧
        (t.runner n).m.pc = (s.lib (x.lib.getD 0)).entry 0 ∧ t = { s with runners := t.runners }) ∧
      ((s.assign x.logical).side = 3 →
        ∃ t, exec (.assetUnitStart n) s = .next t ∧ (t.runner n).busy = true ∧
          (t.runner n).m.pc = (s.lib (x.lib.getD 0)).entry 0 ∧ t = { s with runners := t.runners })) ∧
    (∀ (q : XForm) (f : XFrame) (run : StepRun), x.inited = true → (s.assign x.logical).side = 3 → s.memServes = true →
      s.runners.queue.find? (fun q => q.id == (s.lib (x.lib.getD 0)).id) = some q → (s.chan q.chan).run = some run →
      s.runnerFree n run.at_ = true → q.frame = some f →
      let r := frameBlock q f run.data
      let good (i : Nat) : Prop := s.xstateAddr q.slot + 64 * i < s.dramSize ∧ s.lineGood (s.xstateAddr q.slot + 64 * i) = true
      ((∀ i < 16, good i) → r.code = 0 → run.data.length + r.bytes.length ≤ run.step.p0 →
        ∃ t, exec (.assetUnitStart n) s = .next t ∧ (t.runner n).busy = false ∧ (t.runner n).units = (x.units + 1) % 2 ^ 32 ∧
          (t.chan q.chan).run = some { run with data := run.data ++ r.bytes, done := run.done + r.bytes.length,
                                                phase := if r.last || run.ending.isSome then .moved else run.phase } ∧
          (r.last = true → ∀ y ∈ t.runners.queue, y.chan ≠ q.chan) ∧
          (r.last = false → run.ending = none → t.runners.queue.getLast? = some r.next)) ∧
      (((∃ i < 16, ¬ good i) ∨ r.code ≠ 0 ∨ run.step.p0 < run.data.length + r.bytes.length) →
        ∃ t, exec (.assetUnitStart n) s = .next t ∧ (t.runner n).busy = false ∧ (t.runner n).units = (x.units + 1) % 2 ^ 32 ∧
          (t.pg (ordOf .runners0 0)).err.getLsbD 7 = true)) ∧
    (∀ inp : RunnerInput, s.unitOn n = true → m.waited = false → m.mem = none → m.cpy = none →
      let img := s.lib (x.lib.getD 0)
      let u := img.fetch m.pc (Config.freeNat (s.free + 6))
      uwBad u.w (img.word1 29 28) u.nxt u.cond = false →
      (u.nxt = 0 → bits u.w 121 120 = 0 → (uwWrites u.w = false ∨ s.outRefused n = false) →
        ∃ t, exec (.runnerMicroword n inp) s = .next t ∧ (t.runner n).busy = true ∧
          (t.runner n).m.pc = (m.pc + 1) % (if img.word1 30 30 = 1 then 32768 else 8192) ∧
          (bitOf u.w 41 = true → (t.runner n).m.gr (bits u.w 40 37) = uAlu (bits u.w 27 24) (m.gr (bits u.w 31 28)) (m.asb u.w)) ∧
          t.free = s.free + 24 ∧ t.dev = s.dev ∧
          (x.unit = none → ((s.assign x.logical).side ≠ 2 ∨ bits u.w 113 112 ≠ 2) →
            t = { s with runners := t.runners, free := s.free + 24 })) ∧
      (uwWrites u.w = true → s.outRefused n = true →
        ∃ t, exec (.runnerMicroword n inp) s = .next t ∧ t.runner n = { x with stall := min (x.stall + 1) 0xFFFFFFFF } ∧
          t = { s with runners := t.runners, free := s.free + 24 })) ∧
    (∀ (l : List Byte) (s1 : State) (at_ : Nat), s.unitOn n = true → s.memServes = true → m.mem = some (2, at_) →
      s.readBytes (runMaster n) 0x0 at_ 64 = (some l, s1) →
      ∃ t, exec (.runnerMemOpDone n) s = .next t ∧ (t.runner n).m.mem = none ∧ t.mem.cells = s.mem.cells ∧
        ∀ i, i < 16 → Tbl.getD (t.runner n).m.line i 0 = word (leAt l (4 * i) 4)) ∧
    (∀ (len v : Nat), s.unitOn n = true → m.cpy = some (3, len, v) →
      ∃ t, exec (.runnerCpyOpDone n) s = .next t ∧ (t.runner n).m.cpy = none ∧
        (t.runner n).m.outB = m.outB ++ List.replicate len (byte v) ∧ t = { s with runners := t.runners }) ∧
    (n < s.part.runnersPhys → s.part.runnersPhys ≤ 128 → x.busy = true → (s.pg (ordOf .runners0 0)).resetting = false →
      ∃ t, exec (.runnerWatchdog n) s = .next t ∧ (t.runner n).role = .retired ∧
        (t.pg (ordOf .runners0 0)).err.getLsbD 2 = true)

/-! ## Channel processors (R347 to R367) -/

/-- CP arithmetic, moves and memory (R349 to R352): the result, flags, pointer and data memory of MOVI, ADDI, CMPI, ALU, SHF, SHI, LD,
ST, LDB, STB, MOVP, PMOV, PADDI, CRC and BIT, the immediates that prefixes make, the ADDR trap of an access that R348 shuts, and
REP, which runs its instruction RC times. Every other register, all of the part and the other CPs stay.
The model's own readings and choices in it: log entries 5 and 124. -/
def Obligations.CpArithmetic : Prop :=
  (∀ (a b : Word) (ci : Bool),
    let t := a.toNat + b.toNat + b2n ci
    let i := a.toInt + b.toInt + b2n ci
    addWith a b ci = (BitVec.ofNat 32 t, { z := t % 2 ^ 32 == 0, n := decide (2 ^ 31 ≤ t % 2 ^ 32), c := decide (2 ^ 32 ≤ t),
                                            v := decide (i < -2 ^ 31 ∨ 2 ^ 31 ≤ i) })) ∧
  (∀ (s : State) (n : Nat), s.cpActive n = true →
    let c := s.cp n
    let w := (c.wordAt c.pc).toNat
    let op := bits w 13 9
    let d := bits w 8 6
    let a := c.wr d
    let b := c.wr (bits w 5 3)
    let imm (k f : Nat) : Nat := match c.imms with
      | [] => f
      | [x] => x * 2 ^ k + f
      | x :: y :: _ => (x * 2 ^ 9 + y) * 2 ^ k + f
    let simm (k f : Nat) : Word := BitVec.ofInt 32 (BitVec.ofNat (k + 9 * c.imms.length) (imm k f)).toInt
    let next (c' : Cp) : Result := .next (s.setCp n c'.adv)
    let logic (r : Word) : Cp := (c.setW d r).setFlags { c.flags with z := r == 0, n := r.msb }
    let sum (x y : Word) (ci : Bool) : Cp := (c.setW d (addWith x y ci).1).setFlags (addWith x y ci).2
    let sft (kind k : Nat) : Cp := if k = 0 then c.setW d a else
      (c.setW d (if kind = 0 then a <<< k else if kind = 1 then a >>> k else if kind = 2 then a.sshiftRight k
        else a.rotateRight k)).setFlags { c.flags with c := a.getLsbD (if kind = 0 then 32 - k else k - 1) }
    let p := bits w 5 4
    let x := c.ptr p
    let q := bits w 8 7
    let low := if c.x then 0xC000 else 0
    let shut (t : State) : Prop := ∃ left, t = (s.bump (Reg.cpTraps n)).setCp n { c with
      tpc := c.first.getD c.pc, tnext := (c.pc + 1) % 16384, tfl := c.fl, tcause := 3, trep := left, imms := [], rep := false,
      latch := none, first := none, fl := (c.fl ||| 0x20#8) &&& 0xEF#8, pc := 3 }
    (c.x = true → 12288 ≤ c.pc) → c.latch = none → c.imms.length ≤ 2 →
    (c.rep = false →
      (op = 3 → exec (.cpMovi n) s = next (c.setW d (word (imm 6 (bits w 5 0))))) ∧
      (op = 4 → exec (.cpAddi n) s = next (sum a (simm 6 (bits w 5 0)) false)) ∧
      (op = 5 → exec (.cpCmpi n) s = next (c.setFlags (addWith a (~~~(simm 6 (bits w 5 0))) true).2)) ∧
      (op = 15 → exec (.cpPaddi n) s = next (c.setP q (c.ptr q + simm 7 (bits w 6 0)))) ∧
      (∀ e ∈ [(9, Instr.cpLd n), (10, .cpSt n)], op = e.1 →
        let ea := (x.toNat + 4 * imm 4 (bits w 3 0)) % 65536
        (x.toNat < 65536 → low ≤ ea → ea % 4 = 0 →
          exec e.2 s = next (if op = 9 then c.setW d (word (c.wordOf ea)) else c.store ea (leBytes 4 a.toNat))) ∧
        ((65536 ≤ x.toNat ∨ ea < low ∨ ea % 4 ≠ 0) → c.t = false → ∃ t, exec e.2 s = .next t ∧ shut t)) ∧
      (∀ e ∈ [(11, Instr.cpLdb n), (12, .cpStb n)], op = e.1 →
        let ea := (x.toNat + imm 4 (bits w 3 0)) % 65536
        (x.toNat < 65536 → low ≤ ea →
          exec e.2 s = next (if op = 11 then c.setW d (word (c.byteAt ea).toNat) else c.store ea (leBytes 1 a.toNat))) ∧
        ((65536 ≤ x.toNat ∨ ea < low) → c.t = false → ∃ t, exec e.2 s = .next t ∧ shut t))) ∧
    (c.rep = false → c.imms = [] →
      (op = 6 →
        (bits w 2 0 = 0 → exec (.cpAlu n) s = next (logic b)) ∧ (bits w 2 0 = 1 → exec (.cpAlu n) s = next (sum a b false)) ∧
        (bits w 2 0 = 2 → exec (.cpAlu n) s = next (sum a (~~~b) true)) ∧
        (bits w 2 0 = 3 → exec (.cpAlu n) s = next (sum a b c.flags.c)) ∧
        (bits w 2 0 = 4 → exec (.cpAlu n) s = next (logic (a &&& b))) ∧ (bits w 2 0 = 5 → exec (.cpAlu n) s = next (logic (a ||| b))) ∧
        (bits w 2 0 = 6 → exec (.cpAlu n) s = next (logic (a ^^^ b))) ∧
        (bits w 2 0 = 7 → exec (.cpAlu n) s = next (c.setFlags (addWith a (~~~b) true).2))) ∧
      (op = 7 →
        (bits w 2 0 ≤ 3 → exec (.cpShf n) s = next (sft (bits w 2 0) (b.toNat % 32))) ∧
        (bits w 2 0 = 4 → exec (.cpShf n) s = next (c.setW d (~~~b))) ∧ (bits w 2 0 = 5 → exec (.cpShf n) s = next (c.setW d (0 - b))) ∧
        (bits w 2 0 = 6 → ∃ k, exec (.cpShf n) s = next (c.setW d (word k)) ∧ k ≤ 32 ∧ (k < 32 → b.getLsbD (31 - k) = true) ∧
          ∀ i, i < k → b.getLsbD (31 - i) = false) ∧
        (bits w 2 0 = 7 → ∃ r : Word, exec (.cpShf n) s = next (c.setW d r) ∧
          ∀ i, i < 32 → r.getLsbD i = b.getLsbD (24 - 8 * (i / 8) + i % 8))) ∧
      (op = 8 → exec (.cpShi n) s = next (sft (bits w 5 4) (bits w 3 0))) ∧
      (op = 26 → bits w 2 0 ≤ 4 → ∃ r : Word, exec (.cpBit n) s = next (c.setW d r) ∧
        let ones (lo k : Nat) : Nat := ((List.range k).filter fun i => b.getLsbD (lo + i)).length
        (bits w 2 0 = 0 → r = word (ones 0 32 % 2)) ∧
        (bits w 2 0 = 1 → ∀ i, i < 32 → r.getLsbD i = (decide (i < 4) && ones (8 * i) 8 % 2 == 1)) ∧
        (bits w 2 0 = 2 → ∀ i, i < 32 → r.getLsbD i = b.getLsbD (8 * (i / 8) + 7 - i % 8)) ∧
        (bits w 2 0 = 3 → ∀ i, i < 32 → r.getLsbD i = b.getLsbD (31 - i)) ∧ (bits w 2 0 = 4 → r = word (ones 0 32))) ∧
      (op = 13 → bits w 1 0 = 0 →
        let wide := if bitOf w 3 then 1 else 4
        (x.toNat < 65536 → low ≤ x.toNat → x.toNat % wide = 0 →
          exec (.cpMovp n) s = next (((if bitOf w 2 then c.store x.toNat (leBytes wide a.toNat)
            else c.setW d (word (leNat ((List.range wide).map fun i => c.byteAt (x.toNat + i))))).setP p (x + word wide)))) ∧
        ((65536 ≤ x.toNat ∨ x.toNat < low ∨ x.toNat % wide ≠ 0) → c.t = false → ∃ t, exec (.cpMovp n) s = .next t ∧ shut t)) ∧
      (op = 14 → bits w 0 0 = 0 →
        let f := bits w 3 1
        let v := c.wr (bits w 6 4)
        (f = 0 → exec (.cpPmov n) s = next (c.setP q v)) ∧ (f = 1 → exec (.cpPmov n) s = next (c.setW (bits w 6 4) (c.ptr q))) ∧
        (f = 2 → exec (.cpPmov n) s = next (c.setP q (c.ptr q + v))) ∧
        (f = 3 → exec (.cpPmov n) s = next { c with rc := BitVec.ofNat 16 v.toNat }) ∧
        (f = 4 → exec (.cpPmov n) s = next (c.setW (bits w 6 4) (word c.rc.toNat))) ∧
        (f = 5 → exec (.cpPmov n) s = next { c with fl := (c.fl &&& 0x30#8) ||| (BitVec.ofNat 8 v.toNat &&& 0x0F#8) }) ∧
        (f = 6 → exec (.cpPmov n) s = next (c.setW (bits w 6 4) (word c.fl.toNat)))) ∧
      (op = 25 → bits w 0 0 = 0 → bits w 2 1 ≠ 3 →
        let k := 2 ^ bits w 2 1
        let l := (List.range k).map fun i => c.byteAt (x.toNat + i)
        (x.toNat + k ≤ 65536 → low ≤ x.toNat →
          exec (.cpCrc n) s = next ((c.setW d (word (if bitOf w 3 then crcMsb 0x1021 (a.toNat % 65536) l
            else l.foldl (crcRefByte 0x82F63B78) a.toNat))).setP p (x + word k))))) ∧
    (c.rep = true → op = 15 →
      ∃ t, exec (.cpPaddi n) s = .next t ∧ t = { s with cps := t.cps } ∧ (∀ m, m ≠ n → t.cp m = s.cp m) ∧
        (∀ j, (t.cp n).ptr j = if j = q then c.ptr q + word c.rc.toNat * simm 7 (bits w 6 0) else c.ptr j) ∧
        t.cp n = { c with p := (t.cp n).p, pc := (c.pc + 1) % 16384, imms := [], rep := false, latch := none, first := none }))

/-- CP control and ports (R349, R351 to R356, R364): NOP, RET, RETT, WFM, XCALL, REP, IMM, the branches, CALL, JR, IN and OUT, the traps
RSVD, PREFIX, STACK and PORT, the double trap, leaving WFM, and the extension watchdog.
The model's own readings and choices in it: log entries 5, 8 and 124. -/
def Obligations.CpControl : Prop :=
  ∀ (s : State) (n : Nat),
    let c := s.cp n
    let w := (c.wordAt c.pc).toNat
    let op := bits w 13 9
    let d := bits w 8 6
    let a := c.wr d
    let next (c' : Cp) : Result := .next (s.setCp n c')
    let ret := (c.pc + 1) % 16384
    let offset : Int := match c.imms with
      | [] => (BitVec.ofNat 9 (bits w 8 0)).toInt
      | [x] => (BitVec.ofNat 18 (x * 2 ^ 9 + bits w 8 0)).toInt
      | x :: y :: _ => (BitVec.ofNat 27 ((x * 2 ^ 9 + y) * 2 ^ 9 + bits w 8 0)).toInt
    let target : Nat := ((c.pc + 1 + offset) % 16384).toNat
    let at_ (k : Nat) (c' : Cp) : Cp := { c' with pc := k, imms := [], rep := false, latch := none, first := none }
    let trap (k : Nat) (t : State) : Prop := ∃ left, t = (s.bump (Reg.cpTraps n)).setCp n { at_ k c with
      tpc := c.first.getD c.pc, tnext := ret, tfl := c.fl, tcause := k, trep := left, fl := (c.fl ||| 0x20#8) &&& 0xEF#8 }
    (s.cpActive n = true → (c.x = true → 12288 ≤ c.pc) → c.latch = none → c.imms.length ≤ 2 →
      (c.rep = false →
        (op = 2 → c.imms.length < 2 →
          exec (.cpImm n) s = next { c with imms := c.imms ++ [bits w 8 0], first := some (c.first.getD c.pc), pc := ret }) ∧
        (∀ e ∈ [(16, Instr.cpJmp n, true), (17, .cpBz n, c.flags.z), (18, .cpBnz n, !c.flags.z), (19, .cpBc n, c.flags.c),
                (20, .cpBnc n, !c.flags.c), (21, .cpBn n, c.flags.n), (22, .cpBnn n, !c.flags.n)],
          op = e.1 → exec e.2.1 s = next (at_ (if e.2.2 then target else ret) c)) ∧
        (op = 23 → c.stack.length < 16 → exec (.cpCall n) s = next (at_ target { c with stack := (ret, false) :: c.stack }))) ∧
      (c.rep = false → c.imms = [] →
        (op = 1 → bits w 8 0 = 0 → exec (.cpRep n) s = next { c with rep := true, first := some c.pc, pc := ret }) ∧
        (op = 0 → bits w 5 0 = 0 → exec (.cpNop n) s = next (at_ ret c)) ∧
        (op = 0 → bits w 5 0 = 1 →
          (∀ r rest, c.stack = (r, false) :: rest → exec (.cpRet n) s = next (at_ (r % 16384) { c with stack := rest })) ∧
          (∀ r rest x, c.stack = (r, true) :: rest → c.call = some x →
            ∃ t, exec (.cpRet n) s = .next t ∧ t = { s with cps := t.cps, chans := t.chans } ∧
              t.cp n = at_ (r % 16384) { c with stack := rest, fl := c.fl &&& 0xEF#8, call := none } ∧
              (∀ run, (s.chan x.chan).run = some run → run.fin = none →
                let code := if fld (c.wr 0) 15 0 = 0 then 0x00 else 0x17
                (t.chan x.chan).run = some { run with fin := some ⟨code, fld (c.wr 0) 15 0, (c.wr 1).toNat⟩ }))) ∧
        (op = 0 → bits w 5 0 = 2 → exec (.cpRett n) s = next (at_ (c.tnext % 16384) { c with fl := c.tfl })) ∧
        (op = 0 → bits w 5 0 = 3 → s.wfmReady n = false → exec (.cpWfm n) s = next { c with sleep := true }) ∧
        (op = 0 → bits w 5 0 = 4 → c.stack.length < 16 →
          exec (.cpXcall n) s = next (at_ (fld a 13 0) { c with stack := (ret, true) :: c.stack, fl := c.fl ||| 0x10#8 })) ∧
        (op = 24 → bits w 5 0 = 0 → exec (.cpJr n) s = next (at_ (fld a 13 0) c)) ∧
        (op = 24 → bits w 5 0 = 1 → c.stack.length < 16 →
          exec (.cpJr n) s = next (at_ (fld a 13 0) { c with stack := (ret, false) :: c.stack })) ∧
        (op = 27 →
          (∀ e ∈ [(0, c.tpc), (1, c.tnext), (2, c.tcause), (3, (c.wordAt ((c.tnext + 16383) % 16384)).toNat), (4, c.trep), (9, c.eic.sel),
                  (10, (Tbl.getD c.eic.pend c.eic.sel 0).toNat), (11, (Tbl.getD c.eic.mask c.eic.sel 0xFFFFFFFF#32).toNat),
                  (17, c.timeHi.toNat), (18, n + 256 * c.logical)],
            bits w 5 0 = e.1 → exec (.cpIn n) s = next (at_ ret (c.setW d (word e.2)))) ∧
          (bits w 5 0 = 16 → exec (.cpIn n) s = next (at_ ret { c.setW d (word s.tick) with timeHi := word (s.tick / 2 ^ 32) })) ∧
          (bits w 5 0 = 8 → c.eic.lowest = none →
            exec (.cpIn n) s = next (at_ ret ((c.setW d 0x80000000#32).setFlags { c.flags with z := true }))) ∧
          (∀ k, bits w 5 0 = 8 → c.eic.lowest = some k →
            ∃ t, exec (.cpIn n) s = .next t ∧ t = { s with cps := t.cps } ∧ (t.cp n).wr d = word k ∧ (t.cp n).flags.z = false ∧
              (t.cp n).eic.pended k = false ∧ (t.cp n).pc = ret) ∧
          (32 ≤ bits w 5 0 → c.x = false →
            ∃ v : Word, exec (.cpIn n) s = .next ({ s with free := s.free + 1 }.setCp n (at_ ret (c.setW d v))))) ∧
        (op = 28 →
          (bits w 5 0 = 1 → exec (.cpOut n) s = next (at_ ret { c with tnext := fld a 13 0 })) ∧
          (bits w 5 0 = 9 → exec (.cpOut n) s = next (at_ ret { c with eic := { c.eic with sel := fld a 6 0 } })) ∧
          (bits w 5 0 = 10 →
            exec (.cpOut n) s = next (at_ ret { c with eic := { c.eic with pend := Tbl.set c.eic.pend c.eic.sel a } })) ∧
          (bits w 5 0 = 11 →
            exec (.cpOut n) s = next (at_ ret { c with eic := { c.eic with mask := Tbl.set c.eic.mask c.eic.sel a } })) ∧
          (bits w 5 0 = 13 → flag a 0 = true → c.eic.hold = none →
            exec (.cpOut n) s = next (at_ ret { c with eic := { c.eic with hold := some s.tick } })) ∧
          (bits w 5 0 = 14 → (a.toNat < 3072 ∨ 4096 ≤ a.toNat) → (s.pg (ordOf .millrace 0)).resetting = false →
            ∃ t, exec (.cpOut n) s = .next t ∧ (t.pg (ordOf .millrace 0)).err.getLsbD 3 = true ∧ (t.cp n).pc = ret ∧
              t.mem = s.mem ∧ t.chans = s.chans) ∧
          (bits w 5 0 = 14 → 3072 ≤ a.toNat → a.toNat < 4096 →
            (s.inputFull .cpSend = true → exec (.cpOut n) s = next { c with latch := some 1 }) ∧
            (s.inputFull .cpSend = false →
              exec (.cpOut n) s = .next ((s.send .cpSend a.toNat .soft).setCp n (at_ ret c)))) ∧
          (bits w 5 0 = 24 → a.toNat ≤ 6 → exec (.cpOut n) s = next (at_ ret { c with dmaIdx := a.toNat })) ∧
          (∀ ch, bits w 5 0 = 25 → s.cpChan n = some ch → c.dmaIdx ≤ 6 → (s.dma (s.chan ch).dma).armed = true →
            exec (.cpOut n) s = next { c with latch := some 1 })) ∧
        (c.x = false → c.t = false →
          (29 ≤ op → ∃ t, exec (.cpReservedOpcode n) s = .next t ∧ trap 1 t) ∧
          (op = 0 → bits w 5 0 = 1 → c.stack = [] → ∃ t, exec (.cpRet n) s = .next t ∧ trap 5 t) ∧
          (op = 24 → bits w 5 0 = 1 → 16 ≤ c.stack.length → ∃ t, exec (.cpJr n) s = .next t ∧ trap 5 t) ∧
          (op = 27 → (bits w 5 0 ∈ [5, 6, 7, 12, 13, 14, 15] ∨ (19 ≤ bits w 5 0 ∧ bits w 5 0 < 32)) →
            ∃ t, exec (.cpIn n) s = .next t ∧ trap 4 t)) ∧
        (29 ≤ op → c.x = false → c.t = true → s.stepsOn n = [] → (s.pg (ordOf .cp n)).resetting = false →
          ∃ t, exec (.cpReservedOpcode n) s = .next t ∧ (t.cp n).pc = 0 ∧ (t.cp n).fl = 0 ∧ (t.cp n).stack = [] ∧
            (t.pg (ordOf .cp n)).err.getLsbD 3 = true ∧ t.chans = s.chans)) ∧
      (c.x = false → c.t = false → c.imms ≠ [] →
        (op = 0 → bits w 5 0 = 0 → ∃ t, exec (.cpNop n) s = .next t ∧ trap 2 t) ∧
        (op = 2 → c.imms.length = 2 → ∃ t, exec (.cpImm n) s = .next t ∧ trap 2 t) ∧
        (op = 1 → bits w 8 0 = 0 → ∃ t, exec (.cpRep n) s = .next t ∧ trap 2 t)) ∧
      (c.x = true → 29 ≤ op → c.ext = true → (c.wordAt 12416).toNat ≠ 0 → c.stack.length < 16 →
        ∃ t, exec (.cpReservedOpcode n) s = .next t ∧ (t.cp n).pc = (c.wordAt 12416).toNat ∧ (t.cp n).stack = (ret, false) :: c.stack ∧
          (t.cp n).tnext = ret ∧ (t.cp n).fl = c.fl)) ∧
    (s.coreUp = true → c.sleep = true → (s.pg (ordOf .cp n)).resetting = false → s.wfmReady n = true →
      ∃ t, exec (.cpWfmWake n) s = .next t ∧ t.cp n = at_ ret { c with sleep := false, eic := { c.eic with count := 0 } } ∧
        t.reg (Reg.cpWakes n) = s.reg (Reg.cpWakes n) + 1 ∧ t.tick = s.tick ∧ t.mem = s.mem) ∧
    (s.coreUp = true → c.sleep = true → (s.pg (ordOf .cp n)).resetting = false → s.wfmReady n = false →
      (∀ t0 : Nat, s.wfmTimeout n = some t0 →
        ∃ t, exec (.cpWfmWake n) s = .next t ∧ t.cp n = at_ ret { c with sleep := false, eic := { c.eic with count := 0 } } ∧
          t.reg (Reg.cpWakes n) = s.reg (Reg.cpWakes n) + 1 ∧ t.tick = max s.tick t0 ∧ t.mem = s.mem) ∧
      (s.wfmTimeout n = none → exec (.cpWfmWake n) s = .next s)) ∧
    (c.sleep = false → exec (.cpWfmWake n) s = .next s) ∧ (c.call = none → exec (.cpExtWatchdog n) s = .next s) ∧
    (∀ (x : ExtCall) (run : StepRun), s.coreUp = true → c.call = some x → (s.chan x.chan).run = some run → run.fin = none →
      (s.pg (ordOf .cp n)).resetting = false → c.t = false → c.x = true →
      ∃ t, exec (.cpExtWatchdog n) s = .next t ∧ (t.chan x.chan).run = some { run with fin := some ⟨0x17, 0xFFFF, 0⟩ } ∧
        (t.cp n).call = none ∧ (t.cp n).pc = 6 ∧ (t.cp n).tcause = 6 ∧ (t.cp n).x = false ∧ (t.cp n).t = true ∧
        (t.pg (ordOf .cp n)).err.getLsbD 4 = true)

/-- The event controllers of the CPs (R363 to R367) and the images of CPs and pawls (R357 to R359, R362, R367, R368): one bit of PEND or
MASK changes; a hold ends by itself; a LOAD is refused on a CP in use, waits, and ends with the image, restarted at word 0, or
without one and LOAD_ERR; MOVE binds a logical CP to the spare once it has no step in progress.
The model's own readings and choices in it: log entry 25. -/
def Obligations.EventControllersAndImages : Prop :=
  ∀ (s : State) (a : Path) (n : Nat),
    let c := s.cp n
    (s.cpPage n = true → s.via a = true → ∀ src : Nat, src < 4096 →
      (∃ t, exec (.eicSetPend a n src) s = .next t ∧ t = s.setCp n { c with eic := { c.eic with pend := (t.cp n).eic.pend } } ∧
        (t.cp n).eic.pended src = true ∧ ∀ k, k ≠ src → (t.cp n).eic.pended k = c.eic.pended k) ∧
      (∃ t, exec (.eicClrPend a n src) s = .next t ∧ t = s.setCp n { c with eic := { c.eic with pend := (t.cp n).eic.pend } } ∧
        (t.cp n).eic.pended src = false ∧ ∀ k, k ≠ src → (t.cp n).eic.pended k = c.eic.pended k) ∧
      (∃ t, exec (.eicMask a n src) s = .next t ∧ t = s.setCp n { c with eic := { c.eic with mask := (t.cp n).eic.mask } } ∧
        (t.cp n).eic.masked src = true ∧ ∀ k, k ≠ src → (t.cp n).eic.masked k = c.eic.masked k) ∧
      (∃ t, exec (.eicUnmask a n src) s = .next t ∧ t = s.setCp n { c with eic := { c.eic with mask := (t.cp n).eic.mask } } ∧
        (t.cp n).eic.masked src = false ∧ ∀ k, k ≠ src → (t.cp n).eic.masked k = c.eic.masked k)) ∧
    (∀ h : Nat, c.eic.hold = some h → s.coreUp = true → (s.pg (ordOf .cp n)).resetting = false →
      ∃ t, exec (.eicHoldExpiry n) s = .next t ∧ (t.cp n).eic.hold = none ∧ (t.cp n).eic.queue = [] ∧
        (t.pg (ordOf .cp n)).err.getLsbD 6 = true ∧ (∀ k, k ∈ c.eic.queue → (t.cp n).eic.pended k = true) ∧
        (t.cp n).w = c.w ∧ (t.cp n).pc = c.pc ∧ t.mem = s.mem) ∧
    (c.eic.hold = none → exec (.eicHoldExpiry n) s = .next s) ∧
    (s.cpPage n = true → s.via a = true → c.img = none →
      (c.role ≠ .spare → ∀ i ∈ [Instr.cpImgLoad a n, .cpImgLoadExt a n, .cpImgMove a n 0],
        exec i s = .next (s.setCp n { c with imgRes := 4 })) ∧
      (c.role = .spare →
        exec (.cpImgLoad a n) s = .next (s.setCp n { c with img := some (1, 0), imgRes := 0 }) ∧
        (c.running = true → exec (.cpImgLoadExt a n) s = .next (s.setCp n { c with img := some (2, 0), imgRes := 0 })) ∧
        (c.running = false → exec (.cpImgLoadExt a n) s = .next (s.setCp n { c with imgRes := 6 })) ∧
        (∀ l, c.running = true → l < s.part.cpsUse →
          exec (.cpImgMove a n l) s = .next (s.setCp n { c with img := some (3, l), imgRes := 0 })))) ∧
    (∀ l : Nat, s.cpPage n = true → c.img = some (3, l) → (∀ k, (s.chan k).run.isSome = true → (s.chan k).lcp ≠ l) →
      s.chans.Pairwise (fun x y => x.1 < y.1) → s.physOf l ≠ some n →
      ∃ t, exec (.cpMoveBind n) s = .next t ∧ (t.cp n).role = .usable ∧ (t.cp n).logical = l ∧ (t.cp n).pc = 0 ∧ (t.cp n).img = none ∧
        (t.cp n).imgRes = 0 ∧ (∀ o, s.physOf l = some o → (t.cp o).role = .spare ∧ (t.cp o).pc = 0) ∧ t = { s with cps := t.cps }) ∧
    (∀ (code : Nat) (h b : List Byte) (s1 : State), s.cpPage n = true → s.memServes = true → c.img = some (1, 0) →
      s.imgRead (s.reg64 (Reg.cpImgAddrLo n) / 64 * 64) 1 12288 768 = (code, h, b, s1) → (s.pg (ordOf .cp n)).resetting = false →
      ∃ t, exec (.cpImgLoadDone n) s = .next t ∧ (t.cp n).img = none ∧ (t.cp n).imgRes = code ∧ (t.cp n).pc = 0 ∧ (t.cp n).stack = [] ∧
        t.mem.cells = s.mem.cells ∧
        (code = 0 → (t.cp n).running = true ∧ (t.cp n).baseDig = slice h 0x40 48 ∧
          (∀ k, k < leAt h 8 2 → (t.cp n).wordAt k = BitVec.ofNat 14 (leAt b (2 * k) 2)) ∧
          (∀ k, leAt h 8 2 ≤ k → (t.cp n).wordAt k = 0x3FFF#14)) ∧
        (code ≠ 0 → (t.cp n).running = false ∧ (t.cp n).prog = [] ∧ (t.pg (ordOf .cp n)).err.getLsbD 5 = true)) ∧
    (s.coreTakes a = true → n < s.part.quads → (s.pawl n).loading = false →
      exec (.pawlImgLoad a n) s = .next (s.setPawl n { s.pawl n with loading := true, imgRes := 0 })) ∧
    (∀ (code : Nat) (h b : List Byte) (s1 : State), s.coreUp = true → s.memServes = true → (s.pawl n).loading = true →
      (s.pawl n).loadable = true → (s.pg (ordOf .pawl n)).resetting = false →
      s.imgRead (s.reg64 (Reg.pawlImgAddrLo n) / 64 * 64) 3 4096 0 = (code, h, b, s1) →
      ∃ t, exec (.pawlLoadDone n) s = .next t ∧ (t.pawl n).loading = false ∧ (t.pawl n).imgRes = code ∧ (t.pawl n).pc = 0 ∧
        t.mem.cells = s.mem.cells ∧
        (code = 0 → (t.pawl n).running = true ∧ (t.pawl n).dig = slice h 0x40 48) ∧
        (code ≠ 0 → (t.pawl n).running = false ∧ (t.pawl n).prog = [] ∧ (t.pg (ordOf .pawl n)).err.getLsbD 4 = true)) ∧
    ((s.pawl n).loading = false → exec (.pawlLoadDone n) s = .next s)

/-! ## Pawls (R360 to R362) -/

/-- Pawl instructions (R360 to R362): results, Z and C, T, E and EP, the call stack, ports, RSVD, PREFIX, STACK and PORT traps at vector 1, the
double trap, leaving WFE and TWAIT, and the ends of outbound requests and of line transfers. C after MOV, AND, OR and XOR is a
value that the spec leaves open.
The model's own readings and choices in it: log entries 4, 5, 8 and 124. -/
def Obligations.PawlInstructions : Prop :=
  ∀ (s : State) (n : Nat),
    let x := s.pawl n
    let w := (x.wordAt x.pc).toNat
    let op := bits w 11 8
    let v := bits w 7 6
    let a := x.vr v
    let b := x.vr (bits w 5 4)
    let ret := (x.pc + 1) % 4096
    let at_ (k : Nat) (y : Pawl) : Pawl := { y with pc := k, imms := [], first := none }
    let next (y : Pawl) : Result := .next (s.setPawl n (at_ ret y))
    let imm (k f : Nat) : Nat := match x.imms with
      | [] => f
      | [i] => i * 2 ^ k + f
      | i :: j :: _ => (i * 2 ^ 8 + j) * 2 ^ k + f
    let offset : Int := match x.imms with
      | [] => (BitVec.ofNat 8 (bits w 7 0)).toInt
      | [i] => (BitVec.ofNat 16 (i * 2 ^ 8 + bits w 7 0)).toInt
      | i :: j :: _ => (BitVec.ofNat 24 ((i * 2 ^ 8 + j) * 2 ^ 8 + bits w 7 0)).toInt
    let target : Nat := ((x.pc + 1 + offset) % 4096).toNat
    let trap (k : Nat) (t : State) : Prop := t = (s.bump (Reg.pawlTraps n)).setPawl n { at_ 1 x with
      tpc := x.first.getD x.pc, tnext := ret, tz := x.z, tc := x.c, tcause := k, trap := true }
    (s.pawlActive n = true → x.imms.length ≤ 2 →
      (op = 1 → exec (.pawlLdi n) s = next (x.setV v (BitVec.ofNat 16 (imm 6 (bits w 5 0))))) ∧
      (op = 2 → x.imms.length < 2 →
        exec (.pawlPfx n) s = .next (s.setPawl n { x with imms := x.imms ++ [bits w 7 0], first := some (x.first.getD x.pc), pc := ret })) ∧
      (op = 4 →
        exec (.pawlAddi n) s = next (x.setV v (a + BitVec.ofInt 16 (BitVec.ofNat (6 + 8 * x.imms.length) (imm 6 (bits w 5 0))).toInt))) ∧
      (op = 7 → exec (.pawlJmp n) s = .next (s.setPawl n (at_ target x))) ∧
      (op = 8 → exec (.pawlBz n) s = .next (s.setPawl n (at_ (if x.z then target else ret) x))) ∧
      (op = 9 → exec (.pawlBnz n) s = .next (s.setPawl n (at_ (if x.z then ret else target) x))) ∧
      (op = 10 → x.stack.length < 4 →
        exec (.pawlCall n) s = .next (s.setPawl n (at_ target { x with stack := ret :: x.stack }))) ∧
      (x.imms = [] →
        (op = 0 → bits w 7 0 = 0 → exec (.pawlNop n) s = next x) ∧
        (∀ r rest, op = 0 → bits w 7 0 = 1 → x.stack = r :: rest →
          exec (.pawlRet n) s = .next (s.setPawl n (at_ (r % 4096) { x with stack := rest }))) ∧
        (op = 0 → bits w 7 0 = 2 →
          exec (.pawlRett n) s = .next (s.setPawl n (at_ (x.tnext % 4096) { x with trap := false, z := x.tz, c := x.tc }))) ∧
        (op = 0 → bits w 7 0 = 3 → exec (.pawlWfe n) s = if x.ep &&& x.e = 0 then .next (s.setPawl n { x with sleep := true }) else next x) ∧
        (op = 0 → bits w 7 0 = 4 → exec (.pawlTwait n) s = if x.t ≤ s.tick then next x else .next (s.setPawl n { x with twait := true })) ∧
        (op = 3 →
          let fn := bits w 3 0
          let to_ (y : Pawl) : Result := .next ({ s with free := s.free + 1 }.setPawl n (at_ ret y))
          (∀ e ∈ [(0, b), (3, a &&& b), (4, a ||| b), (5, a ^^^ b)], fn = e.1 →
            ∃ c : Bool, exec (.pawlAlu n) s = to_ { x.setV v e.2 with z := e.2 == 0, c := c }) ∧
          (fn = 1 → exec (.pawlAlu n) s = to_ { x.setV v (a + b) with z := a + b == 0, c := decide (65536 ≤ a.toNat + b.toNat) }) ∧
          (fn = 2 → exec (.pawlAlu n) s = to_ { x.setV v (a - b) with z := a == b, c := decide (b.toNat ≤ a.toNat) }) ∧
          (fn = 6 → exec (.pawlAlu n) s = to_ { x with z := a == b, c := decide (b.toNat ≤ a.toNat) }) ∧
          (fn = 7 → exec (.pawlAlu n) s = to_ { x.setV v (a <<< 1) with z := a <<< 1 == 0, c := a.msb }) ∧
          (fn = 8 → exec (.pawlAlu n) s = to_ { x.setV v (a >>> 1) with z := a >>> 1 == 0, c := a.getLsbD 0 })) ∧
        (op = 5 →
          (∀ e ∈ [(0, x.tpc), (1, x.tnext), (2, x.tcause), (3, (x.wordAt (x.tnext + 4095)).toNat), (4, 0), (9, x.timeLat / 2 ^ 16),
                  (10, x.timeLat / 2 ^ 32), (11, x.timeLat / 2 ^ 48), (0x15, (Tbl.getD x.rqData 1 0).toNat),
                  (0x17, b2n x.rq.isSome + 2 * b2n x.rqErr)],
            bits w 5 0 = e.1 → exec (.pawlIn n) s = next (x.setV v (BitVec.ofNat 16 e.2))) ∧
          (bits w 5 0 = 8 → exec (.pawlIn n) s = next { x.setV v (BitVec.ofNat 16 s.tick) with timeLat := s.tick }) ∧
          (∀ q rest, bits w 5 0 = 0x18 → x.msi = q :: rest →
            exec (.pawlIn n) s = next { x.setV v (BitVec.ofNat 16 q) with msi := rest }) ∧
          (bits w 5 0 = 0x19 → x.work = [] → exec (.pawlIn n) s = next (x.setV v 0xFFFF#16)) ∧
          (0x20 ≤ bits w 5 0 → x.memCmd = none → exec (.pawlIn n) s = next (x.setV v (Tbl.getD x.line (bits w 5 0 - 0x20) 0)))) ∧
        (op = 6 →
          (bits w 5 0 = 1 → exec (.pawlOut n) s = next { x with tnext := a.toNat % 4096 }) ∧
          (0x10 ≤ bits w 5 0 → bits w 5 0 ≤ 0x13 →
            exec (.pawlOut n) s = next { x with rqAddr := Tbl.set x.rqAddr (bits w 5 0 - 0x10) a }) ∧
          (bits w 5 0 = 0x16 → x.rq = none → a = 2 →
            exec (.pawlOut n) s = .next { s.setPawl n (at_ ret { x with rq := some 2, rqErr := false }) with
              out := .rootRead n (quadAddr x.rqAddr) :: s.out }) ∧
          (bits w 5 0 = 0x16 → x.rq ≠ none → exec (.pawlOut n) s = .next s) ∧
          (bits w 5 0 = 0x1E → x.memCmd = none → (a = 1 ∨ a = 2) →
            exec (.pawlOut n) s = next { x with memCmd := some a.toNat })) ∧
        (op = 11 → bits w 7 5 = 0 → bits w 4 0 < s.part.quads → bits w 4 0 ≤ 23 →
          let m := bits w 4 0
          ∃ t, exec (.pawlSev n) s = .next t ∧ (t.pawl m).ep = (s.pawl m).ep ||| 0x10#16 ∧ (t.pawl n).pc = ret ∧
            t = { s with pawls := t.pawls } ∧ ∀ j, j ≠ n → j ≠ m → t.pawl j = s.pawl j) ∧
        (op = 12 → bits w 3 0 = 0 →
          (bits w 5 4 = 0 → exec (.pawlTset n) s = next { x with t := (s.tick + a.toNat) % 2 ^ 64 }) ∧
          (bits w 5 4 = 1 → exec (.pawlTset n) s = next { x with t := (s.tick + 1024 * a.toNat) % 2 ^ 64 }) ∧
          (bits w 5 4 = 2 → exec (.pawlTset n) s = next { x with t := (x.t + 1024 * a.toNat) % 2 ^ 64 }) ∧
          (bits w 5 4 = 3 → exec (.pawlTset n) s = next (x.setV v (BitVec.ofNat 16 (min 65535 ((x.t - s.tick) / 1024)))))) ∧
        (op = 13 → bits w 3 0 = 0 →
          (bits w 5 4 = 0 → exec (.pawlEv n) s = next { x with e := a }) ∧ (bits w 5 4 = 1 → exec (.pawlEv n) s = next (x.setV v x.e)) ∧
          (bits w 5 4 = 2 → exec (.pawlEv n) s = next (x.setV v x.ep)) ∧
          (bits w 5 4 = 3 → exec (.pawlEv n) s = next { x.setV v (x.ep &&& x.e) with ep := x.ep &&& ~~~x.e })) ∧
        (x.trap = false →
          (14 ≤ op → ∃ t, exec (.pawlReservedOpcode n) s = .next t ∧ trap 1 t) ∧
          (op = 0 → bits w 7 0 = 1 → x.stack = [] → ∃ t, exec (.pawlRet n) s = .next t ∧ trap 5 t) ∧
          (op = 5 → (bits w 5 0 = 0x16 ∨ bits w 5 0 = 0x1E) → ∃ t, exec (.pawlIn n) s = .next t ∧ trap 4 t)) ∧
        (14 ≤ op → x.trap = true →
          ∃ t, exec (.pawlReservedOpcode n) s = .next t ∧ (t.pawl n).pc = 0 ∧ (t.pawl n).stack = [] ∧ (t.pawl n).trap = false ∧
            (t.pg (ordOf .pawl n)).err.getLsbD 2 = true)) ∧
      (x.trap = false → x.imms ≠ [] → op = 0 → bits w 7 0 = 0 → ∃ t, exec (.pawlNop n) s = .next t ∧ trap 2 t)) ∧
    (s.coreUp = true → x.sleep = true → x.twait = false → x.ep &&& x.e ≠ 0 →
      exec (.pawlWfeWake n) s = next { x with sleep := false }) ∧
    (x.ep &&& x.e = 0 → exec (.pawlWfeWake n) s = .next s) ∧
    (s.coreUp = true → x.twait = true → x.sleep = false →
      exec (.pawlTwaitExpiry n) s = .next ({ s with tick := max s.tick x.t }.setPawl n (at_ ret { x with twait := false }))) ∧
    (x.twait = false → exec (.pawlTwaitExpiry n) s = .next s) ∧
    (∀ (d : Word) (ok : Bool) (k : Nat), x.rq = some k → n < s.part.quads →
      ∃ t, exec (.pawlRqEnd n d ok) s = .next t ∧ (t.pawl n).rq = none ∧ (t.pawl n).rqErr = !ok ∧ (t.pawl n).ep = x.ep ||| 0x20#16 ∧
        t = { s with pawls := t.pawls } ∧
        (k = 2 → ok = true → Tbl.getD (t.pawl n).rqData 0 0 = BitVec.ofNat 16 d.toNat ∧
          Tbl.getD (t.pawl n).rqData 1 0 = BitVec.ofNat 16 (d.toNat / 65536)) ∧
        ((k ≠ 2 ∨ ok = false) → (t.pawl n).rqData = x.rqData)) ∧
    (∀ (l : List Byte) (s1 : State), x.memCmd = some 1 → s.memServes = true →
      s.readLine (pawlMaster n) 0x0 (quadAddr x.memAddr) = (some l, s1) →
      ∃ t, exec (.pawlMemDone n) s = .next t ∧ (t.pawl n).memCmd = none ∧ t.mem = s1.mem ∧
        ∀ k, k < 32 → Tbl.getD (t.pawl n).line k 0 = BitVec.ofNat 16 (leAt l (2 * k) 2)) ∧
    (x.memCmd = none → exec (.pawlMemDone n) s = .next s)

/-! ## PCIe, NVMe and Ibreham (R298 to R319, R453 to R464) -/

/-- PCIe (R298 to R310): a refused PCIE_CFG write is discarded with CFG; a link comes up with its rate and width, trains again, and goes
down with a reset configuration space; configuration requests answer the identifiers, take the writable bits and retry in BRINGUP;
doorbell pages, apertures and root-port windows take their writes and answer their reads; writes stall in BRINGUP; completions bring
outside bytes, errored or not.
The model's own readings and choices in it: log entries 6, 10, 14, 90, 121 and 131. -/
def Obligations.PcieLinks : Prop :=
  ∀ (s : State) (a : Path) (n : Nat),
    let l := s.link n
    let up := s.coreUp = true ∧ s.linkEn n = true ∧ l.up = true
    let quiet := ∀ y ∈ s.stalled, y.link ≠ n
    (∀ v : Word, s.takes a = true → n < s.part.pcieQuads →
      (s.cfgRefused n (v &&& 0x17733#32) = true → (s.pg (ordOf .pcie n)).resetting = false →
        ∃ t, exec (.pcieCfgWrite a n v) s = .next t ∧ t.reg (Reg.pcieCfg n) = s.reg (Reg.pcieCfg n) ∧ t.links = s.links ∧
          (t.pg (ordOf .pcie n)).err.getLsbD 1 = true ∧ t.mem = s.mem) ∧
      (s.cfgRefused n (v &&& 0x17733#32) = false → s.linkEn n = false → s.linkDraining n = false →
        ∃ t, exec (.pcieCfgWrite a n v) s = .next t ∧ t.reg (Reg.pcieCfg n) = v &&& 0x17733#32 ∧
          (∀ b, b ≠ Reg.pcieCfg n → (flag v 16 = false ∨ fld v 5 4 = 0 ∨ pcieConfig b = false) → t.reg b = s.reg b) ∧
          t = { s with regs := t.regs })) ∧
    (∀ (rate width : Nat) (flit : Bool), s.linkReady n = true → quiet → s.dev.mode ≠ .slack →
      1 ≤ rate → rate ≤ fld (s.pcieCfg n) 14 12 → rate ≤ 6 → width ∈ [1, 2, 4] →
      (l.up = false → s.linkRole n = 3 → (s.nvme n).st = .down → n < s.part.quads →
        ∃ t, exec (.pcieLinkUp n rate width flit) s = .next t ∧ (t.link n).up = true ∧ (t.link n).rate = rate ∧
          (t.link n).width = width ∧ ((t.link n).flit = true ↔ flit = true ∨ rate = 6) ∧ (t.nvme n).st = .init ∧
          (t.pawl n).ep = (s.pawl n).ep ||| 8#16 ∧ t.out = .rootSetup n 0x10000000000 0x1FFFFFFF000 :: s.out ∧
          t = { s with links := t.links, pawls := t.pawls, nvmes := t.nvmes, out := t.out }) ∧
      (l.up = true → exec (.pcieLinkUp n rate width flit) s =
        .next (s.setLink n { l with rate := rate, width := width, flit := flit || rate == 6 }))) ∧
    (∀ (rate width : Nat) (flit : Bool), s.linkReady n = false → quiet → exec (.pcieLinkUp n rate width flit) s = .next s) ∧
    (l.up = true → s.linkRole n ≠ 3 → s.linkEn n = true → s.dev.mode ≠ .off → (s.pg (ordOf .pcie n)).resetting = false →
      ∃ t, exec (.pcieLinkDown n) s = .next t ∧ t.link n = { Link.reset with dead := l.dead } ∧
        (t.pg (ordOf .pcie n)).err.getLsbD 3 = true ∧ t.mem = s.mem) ∧
    (l.up = true → s.linkRole n = 3 → (s.nvme n).st = .ready → (s.nvme n).resets = [] →
      ∃ t, exec (.pcieLinkDown n) s = .next t ∧ t.link n = { Link.reset with dead := l.dead } ∧
        (t.nvme n).st = .resetting ∧ (t.nvme n).resets = [s.tick] ∧ t.mem = s.mem) ∧
    (l.up = false → exec (.pcieLinkDown n) s = .next s) ∧
    (s.dev.mode = .bringup → s.dev.resetN = true → n < s.part.pcieQuads →
      (∀ r : CfgReq, exec (.pcieConfigRequest n r) s = .next { s with out := .answer n 3 [] :: s.out }) ∧
      (∀ (bar : Option Nat) (off : Nat) (bytes : List Byte) (be : BitVec 4) (poison : Bool),
        exec (.pcieInboundWrite n bar off bytes be poison) s =
          .next { s with stalled := s.stalled ++ [⟨n, bar, off, bytes, be, poison⟩] })) ∧
    (s.linkEn n = true → l.up = true → (s.linkRole n = 1 ∨ s.linkRole n = 2) → s.live = true → quiet →
      exec (.pcieConfigRequest n (.read 0)) s = .next { s with
        out := .answer n 0 (leBytes 4 (pack [(0, fld (s.reg (Reg.pcieId n)) 15 0), (16, s.deviceId (s.linkRole n))]).toNat) :: s.out } ∧
      (∀ d : Word, s.canMaster n = true →
        ∃ t, exec (.pcieConfigRequest n (.write 1 d)) s = .next t ∧ (t.link n).cfgWord 1 = (d &&& 0x546#32) ||| (l.cfgWord 1 &&& ~~~0x546#32) ∧
          (∀ r, r ≠ 1 → (t.link n).cfgWord r = l.cfgWord r) ∧ t = { s with links := t.links, out := .answer n 0 [] :: s.out }) ∧
      (∀ d : Word, flag d 2 = false → s.canMaster n = false →
        ∃ t, exec (.pcieConfigRequest n (.write 1 d)) s = .next t ∧ (t.link n).cfgWord 1 = (d &&& 0x546#32) ||| (l.cfgWord 1 &&& ~~~0x546#32) ∧
          t.canMaster n = false ∧ t = { s with links := t.links, out := .answer n 0 [] :: s.out })) ∧
    (up → s.linkRole n = 2 → s.canMaster n = true → s.memServes = true → ∀ (off : Nat) (bytes : List Byte),
      (off + bytes.length ≤ s.barSize n 2 → off % 64 = 0 → bytes.length % 64 = 0 → bytes ≠ [] →
        exec (.pcieInboundWrite n (some 2) off bytes 15 false) s =
          .next (s.writeLines (0x1C0 + n) 0x1 (s.reg64 (Reg.pcieApBaseLo n) + off) bytes)) ∧
      (off + bytes.length ≤ s.barSize n 2 → (off % 64 ≠ 0 ∨ bytes.length % 64 ≠ 0) →
        exec (.pcieInboundWrite n (some 2) off bytes 15 false) s = .next (s.bump (Reg.pcieDiscard n))) ∧
      (off ≠ 0 → off + bytes.length ≤ 65536 →
        exec (.pcieInboundWrite n (some 0) off bytes 15 false) s = .next (s.bump (Reg.pcieDiscard n))) ∧
      (∀ v : Word, exec (.pcieInboundWrite n (some 0) 0 (leBytes 4 v.toNat) 15 false) s = .next (s.stripe (fld (s.pcieCfg n) 10 8) v)) ∧
      (65536 < off + bytes.length → exec (.pcieInboundWrite n (some 0) off bytes 15 false) s = .next (s.bump (Reg.pcieUrRx n)))) ∧
    (up → s.linkRole n = 1 → s.canMaster n = true → s.dev.mode ≠ .slack → ∀ v : Word,
      (∃ t, exec (.pcieInboundWrite n (some 0) 0x200 (leBytes 4 v.toNat) 15 false) s = .next t ∧ exec (.srcDb v) s = .next t) ∧
      (∃ t, exec (.pcieInboundWrite n (some 0) 0x100 (leBytes 4 v.toNat) 15 false) s = .next t ∧
        exec (.evqConsWrite none v) s = .next t)) ∧
    (s.live = true → s.dev.mode = .slack → s.linkEn n = true → l.up = true → s.linkRole n = 1 →
      (∀ (off : Nat) (bytes : List Byte) (be : BitVec 4) (poison : Bool), off + bytes.length ≤ 65536 →
        exec (.pcieInboundWrite n (some 0) off bytes be poison) s = .next (s.bump (Reg.pcieDiscard n))) ∧
      (∀ (bar : Option Nat) (off len : Nat),
        exec (.pcieInboundRead n bar off len) s = .next { s with out := .answer n 1 [] :: s.out })) ∧
    (up → s.linkRole n = 3 → s.memServes = true → n < s.part.quads → ∀ q : Nat, q < 65536 →
      ∃ t, exec (.pcieInboundWrite n none 0x1FFFFFFF000 (leBytes 4 q) 15 false) s = .next t ∧ (t.pawl n).msi = (s.pawl n).msi ++ [q] ∧
        (t.pawl n).ep = (s.pawl n).ep ||| 2#16 ∧ t = { s with pawls := t.pawls }) ∧
    (up → s.linkRole n ≠ 3 → s.dev.mode ≠ .slack → (s.linkRole n = 1 ∨ s.memServes = true) →
      ∀ (bar : Option Nat) (off : Nat) (bytes : List Byte) (be : BitVec 4),
      exec (.pcieInboundWrite n bar off bytes be true) s = .next (s.bump (Reg.pciePoison n))) ∧
    (up → s.linkRole n = 2 → ∀ (bar : Option Nat) (off len : Nat),
      ∃ t, exec (.pcieInboundRead n bar off len) s = .next t ∧ t.out = .answer n 1 [] :: s.out ∧
        (t.reg (Reg.pcieUrRx n)).toNat = min ((s.reg (Reg.pcieUrRx n)).toNat + 1) (2 ^ 32 - 1) ∧ t = { s with regs := t.regs, out := t.out }) ∧
    (up → s.linkRole n = 1 → s.dev.mode ≠ .slack → ∀ off len : Nat, off + len ≤ 16384 →
      exec (.pcieInboundRead n (some 4) off len) s =
        .next { s with out := .answer n 0 ((List.range len).map fun i => l.msixByte (off + i)) :: s.out }) ∧
    (up → s.linkRole n = 3 → s.memServes = true → ∀ (bar : Option Nat) (off len : Nat), s.inWindow n off len = true →
      (∀ (d : List Byte) (s1 : State), s.readBytes (0x1C0 + n) 0x0 off len = (some d, s1) →
        exec (.pcieInboundRead n bar off len) s = .next { s1 with out := .answer n 0 d :: s1.out }) ∧
      (∀ s1 : State, s.readBytes (0x1C0 + n) 0x0 off len = (none, s1) →
        exec (.pcieInboundRead n bar off len) s = .next { s1 with out := .answer n 2 [] :: s1.out })) ∧
    (up → s.linkRole n = 3 → ∀ (off len : Nat), s.inWindow n off len = false → (s.pg (ordOf .pcie n)).resetting = false →
      ∃ t, exec (.pcieInboundRead n none off len) s = .next t ∧ t.out = .answer n 1 [] :: s.out ∧
        (t.pg (ordOf .pcie n)).err.getLsbD 4 = true ∧ t.mem = s.mem) ∧
    (up → s.linkRole n = 1 → ∀ (addr : Nat) (b : Byte),
      (exec (.pcieCompletion n addr [b] true) s = .next { s with ext := Tbl.set s.ext (extKey 0 addr) (some b) }) ∧
      (∃ t, exec (.pcieCompletion n addr [b] false) s = .next t ∧ Tbl.get? t.ext (extKey 0 addr) = some none ∧
        t = { s with ext := t.ext, regs := t.regs } ∧ ∀ r, r ≠ Reg.pciePoison n → t.reg r = s.reg r) ∧
      (∃ t, exec (.pcieCplTimeout n addr) s = .next t ∧ Tbl.get? t.ext (extKey 0 addr) = some none ∧
        t = { s with ext := t.ext, regs := t.regs } ∧ ∀ r, r ≠ Reg.pcieCplTo n → t.reg r = s.reg r))

/-- NVMe controllers (R312 to R317) and Ibreham's key commands (R456 to R459, R462): a controller comes up READY with the lesser count of
pairs, or FAILED, and takes the command that waited; a completion ends its command, reissues it while RETRY allows, or ends the step; a
late command is aborted first and then resets its controller, which the third reset within 60 s fails; IMPORT, CLEAR, ATTEST and
FUSE_CUST wait in order and end with their code.
The model's own readings and choices in it: log entries 4, 6, 25, 39, 122 and 123. -/
def Obligations.ControllersAndKeys : Prop :=
  ∀ (s : State) (a : Path) (q cid : Nat),
    let x := s.nvme q
    (s.rootUp q = true → (x.st = .init ∨ x.st = .resetting) →
      (∀ i : NvmeIdentity,
        ∃ t, exec (.nvmeControllerInit q (some i)) s = .next t ∧ (t.nvme q).st = .ready ∧ (t.nvme q).mdts = i.mdts ∧
          (t.nvme q).nn = i.namespaces.length ∧ (t.nvme q).pairs = max 1 (min (min 16 (max 1 (fld (s.reg (Reg.nvmeCtl q)) 4 0))) i.granted) ∧
          (t.nvme q).spaces = i.namespaces.zipIdx.map (fun e => (e.2 + 1, e.1)) ∧ (t.link q).mps = 128 * 2 ^ min 2 i.payload ∧
          ((∀ e ∈ x.cmds, e.2.sent = true) → (t.nvme q).cmds = x.cmds) ∧
          (∀ c : NvmeCmd, x.cmds = [(cid, c)] → c.sent = false → (t.nvme q).cmds = [(cid, { c with sent := true, issued := s.tick })]) ∧
          t = { s with nvmes := t.nvmes, links := t.links } ∧ ∀ k, k ≠ q → t.nvme k = s.nvme k ∧ t.link k = s.link k) ∧
      (x.cmds = [] → exec (.nvmeControllerInit q none) s = .next (s.setNvme q { x with st := .failed }))) ∧
    ((x.st = .ready ∨ x.st = .failed ∨ x.st = .down) → ∀ i, exec (.nvmeControllerInit q i) s = .next s) ∧
    (∀ (c : NvmeCmd) (r : StepRun), s.rootUp q = true → (∀ e ∈ x.cmds, e.2.sent = true) → Tbl.get? x.cmds cid = some c →
      (s.chan c.chan).run = some r → r.phase = .nvme →
      (∀ st : NvmeStatus, st.status = 0 → r.step.op ≠ 7 → c.reads = false →
        ∃ t, exec (.nvmeCompletion q cid st) s = .next t ∧ Tbl.get? (t.nvme q).cmds cid = none ∧
          (t.chan c.chan).run = some { r with left := r.left - 1, done := r.done + c.len, phase := if r.left - 1 = 0 then .moved else .nvme } ∧
          t.reg (Reg.nvmeCmds q) = s.reg (Reg.nvmeCmds q) + 1 ∧ (∀ b, b ≠ Reg.nvmeCmds q → t.reg b = s.reg b) ∧
          t = { s with nvmes := t.nvmes, chans := t.chans, regs := t.regs }) ∧
      (∀ st : NvmeStatus, st.status ≠ 0 → st.dnr = false → r.spent < r.step.retry → x.st = .ready → s.nvmeRoom q c.pairNo = true →
        ∃ t, exec (.nvmeCompletion q cid st) s = .next t ∧ Tbl.get? (t.nvme q).cmds cid = some { c with sent := true, issued := s.tick, aborted := false } ∧
          (t.chan c.chan).run = some { r with spent := r.spent + 1 } ∧ t = { s with nvmes := t.nvmes, chans := t.chans, regs := t.regs }) ∧
      (∀ st : NvmeStatus, st.status ≠ 0 → (st.dnr = true ∨ r.step.retry ≤ r.spent) → r.fin = none →
        ∃ t, exec (.nvmeCompletion q cid st) s = .next t ∧ Tbl.get? (t.nvme q).cmds cid = none ∧
          ((t.chan c.chan).run.bind (·.fin)) = some ⟨0x10, st.status.toNat, r.done⟩ ∧
          t = { s with nvmes := t.nvmes, chans := t.chans, regs := t.regs })) ∧
    (Tbl.get? x.cmds cid = none → exec (.nvmeCmdTimeout q (some cid)) s = .next s ∧
      ((∀ e ∈ x.cmds, e.2.sent = true) → ∀ st, exec (.nvmeCompletion q cid st) s = .next s)) ∧
    (s.rootUp q = true → x.st = .ready →
      (x.resets = [] → ∃ t, exec (.nvmeCmdTimeout q none) s = .next t ∧ (t.nvme q).st = .resetting ∧ (t.nvme q).resets = [s.tick] ∧
        t.tick = s.tick ∧ t.mem = s.mem) ∧
      (2 ≤ (x.resets.filter fun k => decide (s.tick ≤ k + secTicks 60)).length → (s.pg (ordOf .pcie q)).resetting = false →
        ∃ t, exec (.nvmeCmdTimeout q none) s = .next t ∧ (t.nvme q).st = .failed ∧ (t.pg (ordOf .pcie q)).err.getLsbD 5 = true ∧
          t.mem = s.mem)) ∧
    (∀ c : NvmeCmd, s.rootUp q = true → Tbl.get? x.cmds cid = some c → c.sent = true →
      let late := max s.tick (c.issued + msTicks (max 1 (fld (s.reg (Reg.nvmeCtl q)) 31 16)))
      (c.aborted = false →
        exec (.nvmeCmdTimeout q (some cid)) s =
          .next ({ s with tick := late }.setNvme q { x with cmds := Tbl.set x.cmds cid { c with aborted := true, issued := late } })) ∧
      (c.aborted = true → x.st = .ready → x.resets = [] →
        ∃ t, exec (.nvmeCmdTimeout q (some cid)) s = .next t ∧ (t.nvme q).st = .resetting ∧ (t.nvme q).resets = [late] ∧ t.tick = late ∧
          t.mem = s.mem)) ∧
    (s.takes a = true → ∀ (slot kek : Nat), slot < 4096 →
      let ad := s.preg64 a Reg.ibrAddrLo / 64 * 64
      (s.ibr.queue.head?.any (·.cmd == 2) = false →
        exec (.ibrImport a slot kek) s = .next { s with ibr := { s.ibr with queue := s.ibr.queue ++ [⟨a, 1, slot, kek, ad⟩] } } ∧
        (s.ibr.queue ≠ [] →
          exec (.ibrClear a slot) s = .next { s with ibr := { s.ibr with queue := s.ibr.queue ++ [⟨a, 2, slot, 0, ad⟩] } }) ∧
        exec (.ibrAttest a) s = .next { s with ibr := { s.ibr with queue := s.ibr.queue ++ [⟨a, 3, 0, 0, ad⟩] } } ∧
        exec (.ibrFuseCust a) s = .next { s with ibr := { s.ibr with queue := s.ibr.queue ++ [⟨a, 4, 0, 0, ad⟩] } })) ∧
    (s.takes a = true → s.ibr.queue = [] → ∀ slot : Nat, slot < 4096 →
      let res (t : State) (k : Nat) : Prop := (match a with | .i3c => t.ibr.resI3c | .regload => t.ibr.resReg) = k
      (s.slotBound slot = false →
        ∃ t, exec (.ibrClear a slot) s = .next t ∧ t.slot slot = KeySlot.empty ∧ (∀ k, k ≠ slot → t.slot k = s.slot k) ∧ res t 0 ∧
          t.ibr.queue = [] ∧ t = { s with ibr := t.ibr }) ∧
      (s.slotBound slot = true →
        ∃ t, exec (.ibrClear a slot) s = .next t ∧ t.ibr.slots = s.ibr.slots ∧ res t 3 ∧ t.ibr.queue = [] ∧ t = { s with ibr := t.ibr })) ∧
    (∀ (c : IbrCmd), s.memServes = true → s.ibr.queue = [c] → c.path = a →
      let z : State := { s with ibr := { s.ibr with queue := [] } }
      let res (t : State) (k : Nat) : Prop := (match a with | .i3c => t.ibr.resI3c | .regload => t.ibr.resReg) = k
      (c.cmd = 1 → s.dramSize < c.addr + 64 → ∃ t, exec .ibrCommandDone s = .next t ∧ res t 7 ∧ t.ibr.slots = s.ibr.slots) ∧
      (c.cmd = 1 → c.addr + 64 ≤ s.dramSize → c.kek = 0xFFFF → (s.slot c.slot).typ ≠ 0 →
        ∃ t, exec .ibrCommandDone s = .next t ∧ res t 3 ∧ t.ibr.slots = s.ibr.slots) ∧
      (∀ (l : List Byte) (s1 : State), c.cmd = 1 → c.addr + 64 ≤ s.dramSize → c.kek = 0xFFFF → (s.slot c.slot).typ = 0 →
        z.readBytes 0x127 0x0 c.addr 64 = (some l, s1) →
        ∃ t, exec .ibrCommandDone s = .next t ∧ t.ibr.queue = [] ∧
          (match unwrapBlob s.dkek l with
           | .ok y => res t 0 ∧ t.slot c.slot = y
           | .error e => res t e ∧ t.ibr.slots = s.ibr.slots)) ∧
      (c.cmd = 3 → s.dramSize < c.addr + 384 → ∃ t, exec .ibrCommandDone s = .next t ∧ res t 7 ∧ t.mem = s.mem) ∧
      (∀ (l : List Byte) (s1 : State), c.cmd = 3 → c.addr + 384 ≤ s.dramSize → z.readBytes 0x127 0x0 c.addr 48 = (some l, s1) →
        ∃ t, exec .ibrCommandDone s = .next t ∧ res t 0 ∧ t.mem = (s1.writeBytes 0x127 0x1 (c.addr + 64)
          (s1.report_ l ++ padTo 96 (Config.ecdsaSign s1.idk (s1.report_ l)))).mem) ∧
      (∀ (l : List Byte) (s1 : State), c.cmd = 4 → s.ibr.cpk = none → s.dev.mode = .standby → c.addr + 96 ≤ s.dramSize →
        z.readBytes 0x127 0x0 c.addr 96 = (some l, s1) → leNat l ≠ 0 →
        ∃ t, exec .ibrCommandDone s = .next t ∧ res t 0 ∧ t.ibr.cpk = some l) ∧
      (c.cmd = 4 → s.ibr.cpk ≠ none → ∃ t, exec .ibrCommandDone s = .next t ∧ res t 5 ∧ t.ibr.cpk = s.ibr.cpk) ∧
      (c.cmd = 4 → s.ibr.cpk = none → s.dev.mode ≠ .standby → ∃ t, exec .ibrCommandDone s = .next t ∧ res t 6 ∧ t.ibr.cpk = none))

/-! ## The switch, the ring and the weir (R240 to R272) -/

/-- Ports, frames and the forwarding tables (R240 to R257, R270): a lit and enabled port comes up and a link that fails holds its frames for
SW_PORT_HOLD_US, then drops them; EN 0 takes a port down; a refused QUAD_CFG write is discarded with CFG; a frame takes cells and a
classification at its header and goes on when it is whole and good, to its ports or its channel; the highest-priority head frame is sent; and table changes are
staged, published together by COMMIT, read and discarded.
The model's own readings and choices in it: log entries 4 and 6. -/
def Obligations.SwitchAndPorts : Prop :=
  ∀ (s : State) (a : Path) (p : Nat),
    let x := s.port p
    (s.portLit p = true → s.portEn p = true → x.up = false → s.isRing p = false →
      ∃ t, exec (.portUp p) s = .next t ∧ t = { s with net := { s.net with ports := t.net.ports } } ∧ (t.port p).up = true ∧ (t.port p).held = false ∧
        (t.port p).dead = false ∧ (t.port p).queued = x.queued ∧ ∀ k, k ≠ p → t.port k = s.port k) ∧
    ((s.portLit p = false ∨ s.portEn p = false ∨ x.up = true) → exec (.portUp p) s = .next s) ∧
    (s.live = true → x.up = true → x.tx = none → s.isRing p = false → (s.pg (ordOf .quad (p / 4))).resetting = false →
      ∃ t, exec (.portDown p) s = .next t ∧ (t.port p).up = false ∧ (t.port p).held = true ∧ (t.port p).heldAt = s.tick ∧
        (t.port p).queued = x.queued ∧ (t.port p).rx = none ∧ (t.port p).downs = min (x.downs + 1) 65535 ∧
        (t.pg (ordOf .quad (p / 4))).err.getLsbD 1 = true ∧ t.mem = s.mem ∧ ∀ k, k ≠ p → t.port k = s.port k) ∧
    (s.live = true → x.held = true →
      ∃ t, exec (.portHoldExpiry p) s = .next t ∧ (t.port p).held = false ∧ (t.port p).dead = true ∧ (t.port p).queued = [] ∧
        t.tick = max s.tick (x.heldAt + usTicks (fld (s.reg Reg.swPortHoldUs) 23 0)) ∧ t.mem = s.mem ∧ t.regs = s.regs) ∧
    (x.held = false → exec (.portHoldExpiry p) s = .next s) ∧
    (s.portLit p = true → s.portEn p = true → x.up = false → flag (s.quadCfg (p / 4)) 6 = true →
      (s.pg (ordOf .quad (p / 4))).resetting = false →
      ∃ t, exec (.anRetry p) s = .next t ∧ (t.pg (ordOf .quad (p / 4))).err.getLsbD 3 = true ∧ t.net.ports = s.net.ports ∧ t.mem = s.mem) ∧
    (∀ (q : Nat) (v : Word), s.takes a = true → q < s.part.quads →
      let old := s.quadCfg q
      (fld v 5 0 ≠ fld old 5 0 → s.quadEn q = true → s.linkOfQuad q = none → (s.pg (ordOf .quad q)).resetting = false →
        ∃ t, exec (.quadCfgWrite a q v) s = .next t ∧ t.quadCfg q = old ∧ (t.pg (ordOf .quad q)).err.getLsbD 4 = true ∧ t.net.ports = s.net.ports) ∧
      (s.quadEn q = false → fld v 1 0 ≠ 2 → fld v 4 2 ≠ 5 → s.quadMode (q / 2 * 2) ≠ 5 → s.linkOfQuad q = none →
        ∃ t, exec (.quadCfgWrite a q v) s = .next t ∧
          t.quadCfg q = v &&& (if fld v 4 2 = 1 ∨ fld v 4 2 = 2 then 0x1FF#32 else 0xFF#32) ∧
          (∀ b, b ≠ Reg.quadCfg q → t.reg b = s.reg b) ∧ t = { s with regs := t.regs }) ∧
      (∀ k, k < 4 → flag (s.reg (Reg.quadPort q k)) 16 = true → flag v 16 = false → (s.port (4 * q + k)).up = false →
        ∃ t, exec (.quadPortEnWrite a q k v) s = .next t ∧ t.reg (Reg.quadPort q k) = v &&& 0x10FFF#32 ∧
          (t.port (4 * q + k)).held = false ∧ (t.port (4 * q + k)).dead = false ∧ (t.port (4 * q + k)).queued = [] ∧ t.mem = s.mem)) ∧
    (∀ l : List Byte, s.portOn p = true → x.rx = none → s.cellsFor p (frameCells l) = true →
      ∃ t, exec (.frameHeaderReceived p l) s = .next t ∧
        (t.port p).rx = some { bytes := l, at_ := s.tick, dest := (s.classify p l).1, mirror := (s.classify p l).2 } ∧
        (∀ k, k ≠ p → t.port k = s.port k) ∧ t = { s with net := { s.net with ports := t.net.ports, low := t.net.low } }) ∧
    (∀ l : List Byte, s.portOn p = true → x.rx = none → s.cellsFor p (frameCells l) = false → (s.pg (ordOf .switch 0)).resetting = false →
      flag (s.reg Reg.mirCtl) 0 = false →
      ∃ t, exec (.frameHeaderReceived p l) s = .next t ∧ (t.port p).rx = none ∧ (t.pg (ordOf .switch 0)).err.getLsbD 2 = true ∧
        Tbl.getD t.net.drops 2 0 = min (Tbl.getD s.net.drops 2 0 + 1) 0xFFFFFFFF) ∧
    (∀ r : RxPend, s.portOn p = true → x.rx = some r → flag (s.reg Reg.mirCtl) 0 = false →
      (∃ t, exec (.frameStored p false) s = .next t ∧ (t.port p).rx = none ∧ t.net.frames = s.net.frames ∧
        Tbl.getD (t.port p).cnt cRxErr 0 = Tbl.getD x.cnt cRxErr 0 + 1 ∧ t.chans = s.chans) ∧
      (∀ c : Nat, 60 ≤ r.bytes.length → r.bytes.length ≤ 9596 → frType r.bytes ≠ 0x8808 → r.dest = .chan c → c < s.part.channels →
        ∃ t, exec (.frameStored p true) s = .next t ∧ (t.port p).rx = none ∧ t.net.frames = s.net.frames ∧
          Tbl.getD (t.port p).cnt cRxFrames 0 = Tbl.getD x.cnt cRxFrames 0 + 1 ∧
          ((t.chan c).rx = (s.chan c).rx ++ [⟨[], r.bytes⟩] ∨
            (t.chans = s.chans ∧ Tbl.getD t.net.drops 7 0 = min (Tbl.getD s.net.drops 7 0 + 1) 0xFFFFFFFF))) ∧
      (∀ (m : List Nat) (d : Nat), 60 ≤ r.bytes.length → r.bytes.length ≤ 9596 → frType r.bytes ≠ 0x8808 → r.dest = .ports m none →
        r.mirror = false → s.mirrors (Reg.mirRx 0) p = false → (m.filter fun k => k != p) = [d] → (s.port d).dead = false →
        s.portEn d = true → s.net.nextId ∉ (s.port d).queued →
        s.cellsOf (s.port d).queued + frameCells r.bytes ≤ fld (s.reg Reg.swPortQmax) 16 0 →
        ∃ t, exec (.frameStored p true) s = .next t ∧
          (t.port d).queue (if 4 ≤ frPcp r.bytes then 2 else 3) =
            (s.port d).queue (if 4 ≤ frPcp r.bytes then 2 else 3) ++ [s.net.nextId] ∧
          t.swFrame s.net.nextId = some { bytes := r.bytes, src := p, cells := frameCells r.bytes, at_ := s.tick, refs := 1,
                                          tag := none, bad := false } ∧
          t.net.nextId = s.net.nextId + 1)) ∧
    (∀ (id : Nat) (rest : List Nat) (f : SwFrame), s.portOn p = true → x.tx = none → x.q0 = id :: rest → s.swFrame id = some f →
      s.tick ≤ f.at_ + usTicks (fld (s.reg Reg.swAgeMaxUs) 23 0) → f.tag = none → s.mirrors (Reg.mirTx 0) p = false → s.isRing p = false →
      ∃ t, exec (.frameTxStart p) s = .next t ∧ t.port p = { x with q0 := rest, tx := some id } ∧ t = { s with net := { s.net with ports := t.net.ports } }) ∧
    (∀ (id : Nat) (f : SwFrame), s.portOn p = true → x.tx = some id → s.swFrame id = some f → f.bad = false →
      ∃ t, exec (.frameTxDone p) s = .next t ∧ (t.port p).tx = none ∧ t.out = .frame p f.bytes :: s.out ∧
        (f.refs ≤ 1 → t.swFrame id = none) ∧ (1 < f.refs → t.swFrame id = some { f with refs := f.refs - 1 }) ∧
        Tbl.getD (t.port p).cnt cTxFrames 0 = Tbl.getD x.cnt cTxFrames 0 + 1 ∧ t.mem = s.mem ∧ t.regs = s.regs) ∧
    (s.coreTakes a = true →
      let w := s.net.fwd
      let res (t : State) : Nat := Tbl.getD t.net.fwd.result (match a with | .i3c => 0 | .regload => 1) 0
      exec (.fwdDiscard a) s = .next { s with net := { s.net with fwd :=
        { w with staged := [], result := Tbl.set w.result (match a with | .i3c => 0 | .regload => 1) 0 } } } ∧
      (w.busy = false →
        (∃ t, exec (.fwdCommit a) s = .next t ∧ t.net.fwd.entries = w.next ∧ t.net.fwd.staged = [] ∧ t.net.fwd.gen = (w.gen + 1) % 2 ^ 32 ∧
          t.net.fwd.busy = true ∧ res t = 0 ∧ t = { s with net := { s.net with fwd := t.net.fwd } }) ∧
        exec .fwdCommitDone s = .next s) ∧
      (w.busy = true → w.waiting = 0 → exec .fwdCommitDone s = .next { s with net := { s.net with fwd := { w with busy := false } } }) ∧
      (∀ flow : Bool,
        (keyBad flow (s.fwdKey a) = true → ∀ i ∈ [Instr.fwdInsert a flow, .fwdDelete a flow, .fwdRead a flow],
          ∃ t, exec i s = .next t ∧ res t = 4 ∧ t.net.fwd.staged = w.staged ∧ t.net.fwd.entries = w.entries ∧ t.regs = s.regs) ∧
        (keyBad flow (s.fwdKey a) = false →
          (w.staged.length < 256 → (∀ c ∈ w.staged, c.flow ≠ flow ∨ c.key ≠ s.fwdKey a) → (w.next.any fun e => e.flow == flow && e.key == s.fwdKey a) = true →
            (∃ t, exec (.fwdInsert a flow) s = .next t ∧ res t = 0 ∧ t.net.fwd.staged = w.staged ++ [⟨flow, s.fwdKey a, some (s.fwdData a)⟩] ∧
              t.net.fwd.entries = w.entries) ∧
            (∃ t, exec (.fwdDelete a flow) s = .next t ∧ res t = 0 ∧ t.net.fwd.staged = w.staged ++ [⟨flow, s.fwdKey a, none⟩] ∧
              t.net.fwd.entries = w.entries)) ∧
          ((w.next.any fun e => e.flow == flow && e.key == s.fwdKey a) = false →
            ∃ t, exec (.fwdDelete a flow) s = .next t ∧ res t = 2 ∧ t.net.fwd.staged = w.staged) ∧
          (∀ e : FwdEntry, s.fwdFind flow (s.fwdKey a) = some e → e.data.length = 4 →
            ∃ t, exec (.fwdRead a flow) s = .next t ∧ res t = 0 ∧ t.fwdData a = e.data ∧ t.net.fwd.entries = w.entries))))

/-- The ring agent and the weir (R261 to R266, R269, R272): ANNOUNCE goes out on the ring ports that are up, in ELECT alone, and one that
comes in lowers MIN; MIN unchanged makes the part with the lowest serial the master; a TOPO that comes back closes the ring; a READY
gives the part its place; bad frames count; a DATA frame for this part alone is received and not sent on; a change of the weir ends,
and one that does not sets STUCK.
The model's own readings and choices in it: log entries 4, 6, 31 and 78. -/
def Obligations.RingAndWeir : Prop :=
  ∀ (s : State) (a : Path) (east : Bool) (h : HandOff),
    let r := s.net.ring
    let ann (k : Nat) : HandOff :=
      { ver := 1, typ := 0, hops := 0, src := s.dev.serial, dst := BitVec.allOnes 64, seq := word k, tag := 0,
        payload := leBytes 8 r.min, checkOk := true }
    let hand (k : Nat) : List Byte := s.handFrame (Config.ownMac s.dev.serial) (ann k)
    let held (k : Nat) : SwFrame :=
      { bytes := hand k, src := srcAgent, cells := frameCells (hand k), at_ := s.tick, refs := 1, tag := none, bad := false }
    let n0 := Tbl.getD r.seq 0 0
    let room (d : Nat) : Prop := (s.port d).dead = false ∧ s.portEn d = true ∧ s.net.nextId ∉ (s.port d).queued ∧
      s.net.nextId + 1 ∉ (s.port d).queued ∧ s.cellsOf (s.port d).queued + frameCells (hand n0) + frameCells (hand (n0 + 1)) ≤
        fld (s.reg Reg.swPortQmax) 16 0
    let on := s.coreUp = true ∧ s.ringEn = true ∧ s.ringUp east = true
    let good := h.checkOk = true ∧ h.ver = 1 ∧ h.src ≠ s.dev.serial
    (r.st ≠ .elect → exec .ringAnnounceTimer s = .next s) ∧
    (s.coreUp = true → s.ringEn = true → r.st = .elect → s.ringUp true = false → s.ringUp false = false →
      exec .ringAnnounceTimer s = .next s) ∧
    (on → r.st = .elect → s.ringUp (!east) = false → s.cellsFor srcAgent (frameCells (hand n0)) = true → room (s.ringPort east) →
      ∃ t, exec .ringAnnounceTimer s = .next t ∧
        (t.port (s.ringPort east)).q0 = (s.port (s.ringPort east)).q0 ++ [s.net.nextId] ∧
        t.swFrame s.net.nextId = some (held n0) ∧ t.net.nextId = s.net.nextId + 1 ∧
        t.net.ring = { r with seq := Tbl.set r.seq 0 (n0 + 1) } ∧ (∀ k, k ≠ s.ringPort east → t.port k = s.port k) ∧
        t = { s with net := t.net }) ∧
    (s.coreUp = true → s.ringEn = true → r.st = .elect → s.ringUp true = true → s.ringUp false = true →
      s.ringPort true ≠ s.ringPort false → s.cellsFor srcAgent (frameCells (hand n0)) = true → room (s.ringPort true) →
      room (s.ringPort false) → (s.ringSend true 0 (leBytes 8 r.min)).cellsFor srcAgent (frameCells (hand (n0 + 1))) = true →
      ∃ t, exec .ringAnnounceTimer s = .next t ∧
        (t.port (s.ringPort true)).q0 = (s.port (s.ringPort true)).q0 ++ [s.net.nextId] ∧
        (t.port (s.ringPort false)).q0 = (s.port (s.ringPort false)).q0 ++ [s.net.nextId + 1] ∧
        t.swFrame s.net.nextId = some (held n0) ∧ t.swFrame (s.net.nextId + 1) = some (held (n0 + 1)) ∧
        t.net.ring = { r with seq := Tbl.set r.seq 0 (n0 + 2) } ∧ t = { s with net := t.net }) ∧
    (on → (h.checkOk = false ∨ h.ver ≠ 1 ∨ 4 ≤ h.typ ∨ h.src = s.dev.serial) →
      ∀ i ∈ [Instr.ringAnnounceRx east h, .ringTopoRx east h, .ringReadyRx east h, .ringDataRx east h],
        exec i s = .next (s.bump Reg.swRingBad)) ∧
    (on → good → h.typ = 0 → r.st = .elect →
      (leAt h.payload 0 8 < r.min →
        exec (.ringAnnounceRx east h) s = .next { s with net := { s.net with ring := { r with min := leAt h.payload 0 8, minAt := s.tick } } }) ∧
      (r.min ≤ leAt h.payload 0 8 → exec (.ringAnnounceRx east h) s = .next s)) ∧
    (s.coreUp = true → s.ringEn = true → r.st = .elect → r.isMaster = false →
      (r.min = s.serialNo → s.ringUp true = false →
        ∃ t, exec .ringElectTimeout s = .next t ∧ t.net.ring.isMaster = true ∧ t.net.ring.topo = 1 ∧ t.net.ring.st = .elect ∧
          t.tick = max s.tick (r.minAt + msTicks 20) ∧ t.net.ports = s.net.ports) ∧
      (r.min ≠ s.serialNo → exec .ringElectTimeout s = .next s)) ∧
    (on → good → h.typ = 1 → east = false → r.isMaster = true → r.topo = 1 → s.ringUp true = false →
      (topoList h.payload).head? = some s.serialNo → bitOf (leAt h.payload 0 2) 8 = false → bitOf (leAt h.payload 0 2) 9 = false →
      ∃ t, exec (.ringTopoRx east h) s = .next t ∧ t.net.ring.st = .readyRing ∧ t.net.ring.pos = 0 ∧
        t.net.ring.count = (topoList h.payload).length ∧ t.net.ring.isMaster = true ∧ t.net.ports = s.net.ports) ∧
    (s.coreUp = true → r.isMaster = true → r.topo = 1 → s.ringUp false = false →
      ∃ t, exec .ringTopoTimeout s = .next t ∧ t.net.ring.topo = 2 ∧ t.tick = max s.tick (r.topoAt + msTicks 10) ∧ t.net.ports = s.net.ports) ∧
    (r.topo = 0 → exec .ringTopoTimeout s = .next s) ∧
    (∀ i : Nat, on → good → h.typ = 2 → s.ringUp (!east) = false → (topoList h.payload).findIdx? (· == s.serialNo) = some i →
      ∃ t, exec (.ringReadyRx east h) s = .next t ∧ t.net.ring.pos = i ∧ t.net.ring.count = (topoList h.payload).length ∧
        t.net.ring.master = (topoList h.payload).headD 0 ∧ t.net.ring.isMaster = (i == 0) ∧
        t.net.ring.st = (if bitOf (leAt h.payload 0 2) 9 then .readyLine else .readyRing)) ∧
    (on → good → h.typ = 3 → h.dst = s.dev.serial →
      ∃ t, exec (.ringDataRx east h) s = .next t ∧ t.net.ports = s.net.ports ∧ t.net.frames = s.net.frames ∧ t.mem = s.mem) ∧
    (on → good → h.typ = 3 → h.dst ≠ s.dev.serial → h.dst ≠ BitVec.allOnes 64 → 15 ≤ h.hops →
      exec (.ringDataRx east h) s = .next s) ∧
    (s.part.hasWeir = true →
      (∀ c t0, s.net.weir.change = some (c, t0) →
        ∃ t, exec .weirSwitchDone s = .next t ∧ t.net.weir.closed = c ∧ t.net.weir.change = none ∧
          (t.reg Reg.weirSwitches).toNat = min ((s.reg Reg.weirSwitches).toNat + 1) (2 ^ 32 - 1) ∧
          (∀ b, b ≠ Reg.weirSwitches → t.reg b = s.reg b) ∧ t = { s with net := t.net, regs := t.regs }) ∧
      (s.net.weir.change = none → exec .weirSwitchDone s = .next s ∧ exec .weirStuckTimeout s = .next s) ∧
      (∀ c t0, s.net.weir.change = some (c, t0) → s.net.weir.stuck = false → s.live = true → (s.pg (ordOf .weir 0)).resetting = false →
        ∃ t, exec .weirStuckTimeout s = .next t ∧ t.net.weir.stuck = true ∧ (t.pg (ordOf .weir 0)).err.getLsbD 0 = true ∧
          t.tick = max s.tick (t0 + usTicks 100)) ∧
      (∀ v : Word, s.takes a = true → s.net.weir.closed = true → s.net.weir.change = none → flag v 0 = true →
        ∃ t, exec (.weirHoldClosedWrite a v) s = .next t ∧ t.reg Reg.weirCtl = v &&& 1#32 ∧ t.net = s.net ∧
          ∀ b, b ≠ Reg.weirCtl → t.reg b = s.reg b))

/-! ## What every step keeps -/

/-- Every step keeps part DRAM and the register table in canonical form, the part type, and every waiting command but the one taken.
The model's own readings and choices in it: log entry 79. -/
def Obligations.StepKeepsCanonical : Prop :=
  ∀ s t : State, s.Canonical → step s = .next t → t.Canonical ∧ t.part = s.part ∧ t.pending = s.pending.tail

/-- Every step changes the mode only as R414's table gives, and keeps power and mode in agreement. One command may request several modes
in turn, so that the modes of software appear as one class; their single edges are ModeRequests'.
The model's own readings and choices in it: log entry 17. -/
def Obligations.ModesFollowTable : Prop :=
  ∀ s t : State, s.Powered → step s = .next t → s.dev.mode.mayBecome t.dev.mode = true ∧ t.Powered
end

