-- ==== Sys2Proof/Laws/Bytes.lean ====
section
/-!
SUPPORT. The lengths of the byte lists that the model builds.
-/

namespace Sys2Proof.Machine

/-- Little-endian bytes of a number are as many as asked for. -/
@[simp] theorem leBytes_length (k n : Nat) : (leBytes k n).length = k := by
  induction k generalizing n with
  | zero => rfl
  | succ k ih => simp [leBytes, ih]

/-- Network-order bytes of a number are as many as asked for. -/
@[simp] theorem beBytes_length (k n : Nat) : (beBytes k n).length = k := by simp [beBytes]

/-- A padded list has the length asked for. -/
@[simp] theorem padTo_length (n : Nat) (l : List Byte) : (padTo n l).length = n := by simp [padTo]; omega

/-- A sized list has the length asked for. -/
@[simp] theorem sized_length (n : Nat) (l : List Byte) : (sized n l).length = n := by simp [sized]

end Sys2Proof.Machine
end

