-- ==== Sys2Proof/WellFormed.lean ====
section
/-!
DEFINITION. Which commands are well formed on a part: every index names a unit the part has (R1, R2, R465) and every number
fits the field that carries it. A meaning is total on ill-formed commands too.
-/

namespace Sys2Proof

/-- What an operand of a command names. -/
inductive Operand where
  /-- A physical stone (R1). -/
  | stone (n : Nat)
  /-- A Bolter (R2). -/
  | bolter (n : Nat)
  /-- An encode session (R1). -/
  | session (n : Nat)
  /-- A decode session (R1). -/
  | decSession (n : Nat)
  /-- A decode pipeline (R1). -/
  | pipe (n : Nat)
  /-- A physical runner (R1). -/
  | runner (n : Nat)
  /-- A logical runner (R1). -/
  | logicalRunner (n : Nat)
  /-- A physical channel processor (R1). -/
  | cp (n : Nat)
  /-- A logical channel processor (R1). -/
  | logicalCp (n : Nat)
  /-- A pawl (R2). -/
  | pawl (n : Nat)
  /-- A quad (R1). -/
  | quad (n : Nat)
  /-- A PCIE page (R2). -/
  | link (n : Nat)
  /-- An Ethernet port (R240, R241). -/
  | port (n : Nat)
  /-- A channel (R1). -/
  | channel (n : Nat)
  /-- A device-table entry (R1). -/
  | device (n : Nat)
  /-- A GDDR7 site (R1). -/
  | site (n : Nat)
  /-- A DMA engine (R2). -/
  | dma (n : Nat)
  /-- A Hopper pool (R382). -/
  | pool (n : Nat)
  /-- A Hopper owner (R384). -/
  | owner (n : Nat)
  /-- A renderer endpoint (R65). -/
  | renderer (n : Nat)
  /-- A trigger comparator (R282). -/
  | comparator (n : Nat)
  /-- A Sluice flow (R286). -/
  | flow (n : Nat)
  /-- A leat queue (R215). -/
  | leatQueue (n : Nat)
  /-- A lane of a leat queue (R215). -/
  | lane (n : Nat)
  /-- A geometry class (R149). -/
  | geometry (n : Nat)
  /-- A word of a four-word register, or a port of a quad. -/
  | quarter (n : Nat)
  /-- A runner library slot (R204). -/
  | library (n : Nat)
  /-- An Ibreham key slot (R455). -/
  | keySlot (n : Nat)
  /-- An event source (R48). -/
  | source (n : Nat)
  /-- A word of MA_BANK_HASH (R395). -/
  | hash (n : Nat)
  /-- A temperature sensor (R432). -/
  | sensor (n : Nat)
  /-- An error source of a page (R38). -/
  | errSource (n : Nat)
  /-- A page by its ordinal (R465, R466). -/
  | page (o : Nat)
  /-- The byte address of a register word, in the 16 MiB of registers (R30, R465). -/
  | register (a : Nat)
  /-- The byte address of a 64-byte line of part DRAM (R392). -/
  | line (a : Nat)
  /-- A key encryption key: a slot, or 0xFFFF for DKEK (R453, R458). -/
  | kek (k : Nat)
  /-- A number of 16 bits. -/
  | half (v : Nat)
  /-- A bring-up failure code, 1 to 5 (R419). -/
  | buCode (c : Nat)
  /-- A PCIe link rate, 1 to 6 (R298). -/
  | rate (r : Nat)
  /-- A PCIe link width (R298). -/
  | width (w : Nat)
  /-- A power domain (R424). -/
  | domain (d : Domain)
  /-- What of the key store failed (R463). -/
  | keyFail (k : KeyFailure)
  deriving DecidableEq, Repr

/-- An operand names something that the part has. -/
def Operand.ok (p : Part) : Operand → Bool
  | .stone n => n < p.stonesPhys
  | .bolter n => n < 16
  | .session n => n < p.encSessions
  | .decSession n => n < p.decSessions
  | .pipe n => n < p.pipes
  | .runner n => n < p.runnersPhys
  | .logicalRunner n => n < p.runnersUse
  | .cp n => n < p.cpsPhys
  | .logicalCp n => n < p.cpsUse
  | .pawl n => n < p.quads
  | .quad n => n < p.quads
  | .link n => n < p.pcieQuads
  | .port n => n < 4 * p.quads
  | .channel n => n < p.channels
  | .device n => n < p.devtab
  | .site n => n < p.sites
  | .dma n => n < 32
  | .pool n => n < 6
  | .owner n => n < 64
  | .renderer n => n < 8
  | .comparator n => n < 32
  | .flow n => n < 4096
  | .leatQueue n => n < 256
  | .lane n => n < 2
  | .geometry n => n < 16
  | .quarter n => n < 4
  | .library n => n < 16
  | .keySlot n => n < 4096
  | .source n => n < 4096
  | .hash n => n < 6
  | .sensor n => n < 6
  | .errSource n => n < 16
  | .page o => Machine.Fam.all.any fun f => decide (f.info.ordinal ≤ o) && decide (o < f.info.ordinal + f.count p)
  | .register a => a < 2 ^ 24
  | .line a => a % 64 == 0
  | .kek k => decide (k < 4096) || k == 0xFFFF
  | .half v => v < 65536
  | .buCode c => decide (1 ≤ c) && decide (c ≤ 5)
  | .rate r => decide (1 ≤ r) && decide (r ≤ 6)
  | .width w => w == 1 || w == 2 || w == 4 || w == 8 || w == 16
  | .domain .core => true
  | .domain (.quad n) => n < p.quads
  | .keyFail .fuse => true
  | .keyFail (.slot n) => n < 4096

/-- The operands of a command that name something. -/
def Instr.operands : Instr → List Operand
  | .pwrOkFall => []
  | .pwrOkRise => []
  | .railUndervoltage => []
  | .resetNAssert => []
  | .resetNRelease => []
  | .bringupComplete ms => [.half ms]
  | .bringupFail code => [.buCode code]
  | .tamper _ => []
  | .keyStoreIntegrityFail what => [.keyFail what]
  | .lockstepDoubleParity cp => [.cp cp]
  | .corePllLoss _ => []
  | .corePllRelockTimeout _ => []
  | .pdDrainExpiry dom => [.domain dom]
  | .enec _ => []
  | .disec _ => []
  | .rstdaa => []
  | .entdaa _ => []
  | .setdasa _ _ => []
  | .setmwl value => [.half value]
  | .getmwl => []
  | .setmrl value => [.half value]
  | .getmrl => []
  | .getpid => []
  | .getbcr => []
  | .getdcr => []
  | .getstatus => []
  | .rstact _ _ => []
  | .rstactRead _ => []
  | .enthdr0 _ => []
  | .targetResetPattern => []
  | .ibiIssue _ => []
  | .registerWrite _ _ => []
  | .rcRead _ addr _ => [.register addr]
  | .errStatRead _ page _ => [.page page]
  | .loWordRead _ addr _ => [.register addr]
  | .tbNowLoRead _ _ => []
  | .unlistedCommandCode _ addr _ => [.register addr]
  | .pgCtlEnable _ page _ => [.page page]
  | .pgCtlFreeze _ page _ => [.page page]
  | .pgCtlSreset _ page => [.page page]
  | .pgSresetDone page => [.page page]
  | .errForce _ page _ => [.page page]
  | .errClassWrite _ page _ => [.page page]
  | .errorDetect page src _ _ => [.page page, .errSource src]
  | .intCoalTimeExpiry page => [.page page]
  | .stoneTakeover n => [.stone n]
  | .runnerTakeover n => [.runner n]
  | .cpTakeover n => [.cp n]
  | .cfgCommit _ _ => []
  | .cfgPassStart => []
  | .cfgPassEnd => []
  | .chanStart _ c => [.channel c]
  | .chanResume _ c => [.channel c]
  | .chanStop _ c => [.channel c]
  | .srcDb _ => []
  | .evqConsWrite _ _ => []
  | .evqCtlWrite _ _ => []
  | .routerMessage => []
  | .evqNotifyTimeout => []
  | .evqOverflowWrite => []
  | .evqLagExpiry => []
  | .evrInject _ _ => []
  | .stripeDb renderer _ => [.renderer renderer]
  | .sesSetup _ session => [.session session]
  | .sesStart _ session => [.session session]
  | .sesStop _ session => [.session session]
  | .sesAbort _ session => [.session session]
  | .sessionStopped session => [.session session]
  | .comparatorMatch n => [.comparator n]
  | .frameStart session => [.session session]
  | .frameComplete session => [.session session]
  | .ingestTimeout session => [.session session]
  | .bolterRowStart b => [.bolter b]
  | .bolterRowDone b => [.bolter b]
  | .stoneSegmentStart n _ => [.stone n]
  | .stoneSegmentDone n _ => [.stone n]
  | .segmentCommit n => [.stone n]
  | .seamTimeout n => [.stone n]
  | .stoneWatchdog n => [.stone n]
  | .govFeedbackReport session => [.session session]
  | .govRateInForce session => [.session session]
  | .govFbTimeout session => [.session session]
  | .packetLost session _ => [.session session]
  | .refClsWrite _ cls word _ => [.geometry cls, .quarter word]
  | .decSetup _ page session => [.pipe page, .decSession session]
  | .decStart _ page session => [.pipe page, .decSession session]
  | .decStop _ page session => [.pipe page, .decSession session]
  | .decAbort _ page session => [.pipe page, .decSession session]
  | .decSessionStopped session => [.decSession session]
  | .decRtpPacket session => [.decSession session]
  | .decReorderTimeout session => [.decSession session]
  | .decPictureStart pipe _ => [.pipe pipe]
  | .decPictureDone pipe _ => [.pipe pipe]
  | .decDeliveryDone session => [.decSession session]
  | .decConsPoll session => [.decSession session]
  | .decWatchdog pipe => [.pipe pipe]
  | .decCtlWrite _ pipe _ => [.pipe pipe]
  | .runnerAssignWrite _ l _ => [.logicalRunner l]
  | .runnerAssignApply l => [.logicalRunner l]
  | .libInsert _ slot => [.library slot]
  | .libRemove _ slot => [.library slot]
  | .libInsertDone => []
  | .runnerLoadDone n => [.runner n]
  | .runnerUnitStart n => [.runner n]
  | .assetUnitStart n => [.runner n]
  | .runnerMicroword n _ => [.runner n]
  | .runnerMemOpDone n => [.runner n]
  | .runnerCpyOpDone n => [.runner n]
  | .runnerWatchdog n => [.runner n]
  | .cpNop n => [.cp n]
  | .cpRet n => [.cp n]
  | .cpRett n => [.cp n]
  | .cpWfm n => [.cp n]
  | .cpWfmWake n => [.cp n]
  | .cpXcall n => [.cp n]
  | .cpRep n => [.cp n]
  | .cpImm n => [.cp n]
  | .cpMovi n => [.cp n]
  | .cpAddi n => [.cp n]
  | .cpCmpi n => [.cp n]
  | .cpAlu n => [.cp n]
  | .cpShf n => [.cp n]
  | .cpShi n => [.cp n]
  | .cpLd n => [.cp n]
  | .cpSt n => [.cp n]
  | .cpLdb n => [.cp n]
  | .cpStb n => [.cp n]
  | .cpMovp n => [.cp n]
  | .cpPmov n => [.cp n]
  | .cpPaddi n => [.cp n]
  | .cpJmp n => [.cp n]
  | .cpBz n => [.cp n]
  | .cpBnz n => [.cp n]
  | .cpBc n => [.cp n]
  | .cpBnc n => [.cp n]
  | .cpBn n => [.cp n]
  | .cpBnn n => [.cp n]
  | .cpCall n => [.cp n]
  | .cpJr n => [.cp n]
  | .cpCrc n => [.cp n]
  | .cpBit n => [.cp n]
  | .cpIn n => [.cp n]
  | .cpOut n => [.cp n]
  | .cpReservedOpcode n => [.cp n]
  | .cpExtWatchdog n => [.cp n]
  | .eicHoldExpiry n => [.cp n]
  | .eicSetPend _ n source => [.cp n, .source source]
  | .eicClrPend _ n source => [.cp n, .source source]
  | .eicMask _ n source => [.cp n, .source source]
  | .eicUnmask _ n source => [.cp n, .source source]
  | .cpImgLoad _ n => [.cp n]
  | .cpImgLoadExt _ n => [.cp n]
  | .cpImgMove _ n logical => [.cp n, .logicalCp logical]
  | .cpMoveBind n => [.cp n]
  | .pawlNop n => [.pawl n]
  | .pawlRet n => [.pawl n]
  | .pawlRett n => [.pawl n]
  | .pawlWfe n => [.pawl n]
  | .pawlWfeWake n => [.pawl n]
  | .pawlTwait n => [.pawl n]
  | .pawlTwaitExpiry n => [.pawl n]
  | .pawlLdi n => [.pawl n]
  | .pawlPfx n => [.pawl n]
  | .pawlAlu n => [.pawl n]
  | .pawlAddi n => [.pawl n]
  | .pawlIn n => [.pawl n]
  | .pawlOut n => [.pawl n]
  | .pawlJmp n => [.pawl n]
  | .pawlBz n => [.pawl n]
  | .pawlBnz n => [.pawl n]
  | .pawlCall n => [.pawl n]
  | .pawlSev n => [.pawl n]
  | .pawlTset n => [.pawl n]
  | .pawlEv n => [.pawl n]
  | .pawlReservedOpcode n => [.pawl n]
  | .pawlRqEnd n _ _ => [.pawl n]
  | .pawlMemDone n => [.pawl n]
  | .pawlImgLoad _ n => [.pawl n]
  | .pawlLoadDone n => [.pawl n]
  | .nvmeControllerInit q _ => [.link q]
  | .nvmeCompletion q cid _ => [.link q, .half cid]
  | .nvmeCmdTimeout q _ => [.link q]
  | .stepDispatch c => [.channel c]
  | .stepRead c => [.channel c]
  | .stepWrite c => [.channel c]
  | .stepMove c => [.channel c]
  | .stepSense c => [.channel c]
  | .stepTransform c => [.channel c]
  | .stepSubmit c => [.channel c]
  | .stepWait c => [.channel c]
  | .stepSignal c => [.channel c]
  | .stepJump c => [.channel c]
  | .stepTest c => [.channel c]
  | .stepRegload c => [.channel c]
  | .regloadPoll c => [.channel c]
  | .stepFill c => [.channel c]
  | .stepNop c => [.channel c]
  | .stepEnd c => [.channel c]
  | .stepExtension c => [.channel c]
  | .egressOpen c => [.channel c]
  | .egressClose c => [.channel c]
  | .egressCloseDone dev => [.device dev]
  | .egressFlush c => [.channel c]
  | .ingestDoorbell c => [.channel c]
  | .stepComplete c => [.channel c]
  | .stepTimeout c => [.channel c]
  | .dmaTransferStart e => [.dma e]
  | .dmaTransferEnd e => [.dma e]
  | .hopInit _ pool => [.pool pool]
  | .hopInitDone => []
  | .hopDisable _ pool => [.pool pool]
  | .hopGrant pool => [.pool pool]
  | .hopCacheRefill pool => [.pool pool]
  | .hopCacheSpill pool => [.pool pool]
  | .hopWaitLong pool => [.pool pool]
  | .hopResvWrite _ owner _ _ => [.owner owner]
  | .dramLineRead _ _ addr _ => [.line addr]
  | .dramLineWrite _ _ addr _ => [.line addr]
  | .dramRefresh site => [.site site]
  | .actWindowStart site => [.site site]
  | .throttleEnd site => [.site site]
  | .maWaitLimitReached _ site => [.site site]
  | .maCtlFreeze _ _ => []
  | .maBankHashWrite _ k _ => [.hash k]
  | .mcChkFlipWrite _ site _ => [.site site]
  | .scrubStart _ => []
  | .scrubAbort _ _ => []
  | .scrubDone _ => []
  | .ceBucketLeak => []
  | .reqStandby _ => []
  | .reqRun _ => []
  | .reqDrain _ => []
  | .reqSlack _ => []
  | .devSreset _ => []
  | .devSresetDone => []
  | .slackWakeFrame q _ => [.quad q]
  | .ldgSync _ => []
  | .ldgWriteUser _ => []
  | .ldgReadUser _ => []
  | .ldgWriteRecord _ => []
  | .ldgClearRetire _ => []
  | .ldgReadFaults _ => []
  | .ledgerRecordWrite => []
  | .ledgerWriteDone _ => []
  | .ledgerFlashTimeout => []
  | .ledgerIntervalExpiry => []
  | .ledgerWearUpdate => []
  | .tbOffsetWrite _ _ => []
  | .tbRateWrite _ _ => []
  | .tbStepWrite _ _ => []
  | .tbCmpWrite _ n word _ => [.comparator n, .quarter word]
  | .sdrefWLoss => []
  | .tbPllLockE => []
  | .ppsInEdge => []
  | .ppsOutPulseEnd => []
  | .sluFlowReload _ flow => [.flow flow]
  | .sluiceFineSlot => []
  | .sluiceCoarseSlot => []
  | .sluTblCommit _ _ => []
  | .sluTblSwap port => [.port port]
  | .gateEntryBoundary port => [.port port]
  | .packetize session => [.session session]
  | .pktRekeyCmd _ _ => []
  | .feedbackPacket session => [.session session]
  | .srIntervalExpiry session => [.session session]
  | .historyExpiry queue lane => [.leatQueue queue, .lane lane]
  | .leatFlush _ _ => []
  | .leatStale queue lane => [.leatQueue queue, .lane lane]
  | .frameHeaderReceived port _ => [.port port]
  | .frameStored port _ => [.port port]
  | .frameTxStart port => [.port port]
  | .frameTxDone port => [.port port]
  | .portUp port => [.port port]
  | .portDown port => [.port port]
  | .portHoldExpiry port => [.port port]
  | .anRetry port => [.port port]
  | .quadCfgWrite _ q _ => [.quad q]
  | .quadPortEnWrite _ q k _ => [.quad q, .quarter k]
  | .fwdInsert _ _ => []
  | .fwdDelete _ _ => []
  | .fwdRead _ _ => []
  | .fwdCommit _ => []
  | .fwdCommitDone => []
  | .fwdDiscard _ => []
  | .ringAnnounceTimer => []
  | .ringAnnounceRx _ _ => []
  | .ringElectTimeout => []
  | .ringTopoRx _ _ => []
  | .ringTopoTimeout => []
  | .ringReadyRx _ _ => []
  | .ringDataRx _ _ => []
  | .weirSwitchDone => []
  | .weirStuckTimeout => []
  | .weirHoldClosedWrite _ _ => []
  | .pcieCfgWrite _ n _ => [.link n]
  | .pcieLinkUp n rate width _ => [.link n, .rate rate, .width width]
  | .pcieLinkDown n => [.link n]
  | .pcieConfigRequest n _ => [.link n]
  | .pcieInboundWrite n _ _ _ _ _ => [.link n]
  | .pcieInboundRead n _ _ _ => [.link n]
  | .pcieCompletion n _ _ _ => [.link n]
  | .pcieCplTimeout n _ => [.link n]
  | .ibrImport _ slot kek => [.keySlot slot, .kek kek]
  | .ibrClear _ slot => [.keySlot slot]
  | .ibrAttest _ => []
  | .ibrFuseCust _ => []
  | .reservedLocationRead addr _ => [.register addr]
  | .corePllRelock _ => []
  | .overtemp sensor _ => [.sensor sensor]
  | .wearHourCount => []
  | .cpImgLoadDone n => [.cp n]
  | .ibrCommandDone => []
  | .ledgerReadDone => []
  | .i3cTargetResetEnd => []

/-- A command is well formed on a part: each of its operands is. -/
def WellFormed (p : Part) (i : Instr) : Bool := i.operands.all (Operand.ok p)

end Sys2Proof
end

