-- ==== Sys2Proof/Laws/PerInstr.lean ====
section
/-!
SUPPORT. The statement made of every command as syntax: a command of a smaller part of the family is a command of a larger
one (R1, R2), so well-formedness only grows from NRT9640 to NRT9664 to NRT9680.
-/

namespace Sys2Proof.Laws

theorem fam_count_9664 (f : Machine.Fam) : f.count .nrt9640 ≤ f.count .nrt9664 := by cases f <;> decide

theorem fam_count_9680 (f : Machine.Fam) : f.count .nrt9664 ≤ f.count .nrt9680 := by cases f <;> decide

theorem page_ok_mono {p q : Part} (le : ∀ f : Machine.Fam, f.count p ≤ f.count q) (o : Nat)
    (h : (Operand.page o).ok p = true) : (Operand.page o).ok q = true := by
  obtain ⟨f, m, h⟩ := List.any_eq_true.mp h
  simp only [Bool.and_eq_true, decide_eq_true_eq] at h
  exact List.any_eq_true.mpr ⟨f, m, by simpa using ⟨h.1, Nat.lt_of_lt_of_le h.2 (Nat.add_le_add_left (le f) _)⟩⟩

theorem operand_ok_9664 (o : Operand) (h : o.ok .nrt9640 = true) : o.ok .nrt9664 = true := by
  cases o with
  | page n => exact page_ok_mono fam_count_9664 n h
  | domain d =>
    cases d with
    | core => rfl
    | quad n => exact decide_eq_true (Nat.lt_of_lt_of_le (of_decide_eq_true h) (by decide))
  | decSession n => exact absurd (of_decide_eq_true (p := n < 0) h) (Nat.not_lt_zero n)
  | pipe n => exact absurd (of_decide_eq_true (p := n < 0) h) (Nat.not_lt_zero n)
  | keyFail k => cases k <;> exact h
  | _ => first | exact h | exact decide_eq_true (Nat.lt_of_lt_of_le (of_decide_eq_true h) (by decide))

theorem operand_ok_9680 (o : Operand) (h : o.ok .nrt9664 = true) : o.ok .nrt9680 = true := by
  cases o with
  | page n => exact page_ok_mono fam_count_9680 n h
  | domain d =>
    cases d with
    | core => rfl
    | quad n => exact decide_eq_true (Nat.lt_of_lt_of_le (of_decide_eq_true h) (by decide))
  | keyFail k => cases k <;> exact h
  | _ => first | exact h | exact decide_eq_true (Nat.lt_of_lt_of_le (of_decide_eq_true h) (by decide))

/-- A command of a smaller part is a command of a larger one (R1, R2). -/
def WellFormed.Statement (i : Instr) : Prop :=
  (Sys2Proof.WellFormed .nrt9640 i = true → Sys2Proof.WellFormed .nrt9664 i = true) ∧
  (Sys2Proof.WellFormed .nrt9664 i = true → Sys2Proof.WellFormed .nrt9680 i = true)

theorem wellFormed_grows (i : Instr) : WellFormed.Statement i :=
  ⟨fun h => List.all_eq_true.mpr fun o m => operand_ok_9664 o (List.all_eq_true.mp h o m),
   fun h => List.all_eq_true.mpr fun o m => operand_ok_9680 o (List.all_eq_true.mp h o m)⟩

theorem WellFormed.pwrOkFall : WellFormed.Statement .pwrOkFall := wellFormed_grows _
theorem WellFormed.pwrOkRise : WellFormed.Statement .pwrOkRise := wellFormed_grows _
theorem WellFormed.railUndervoltage : WellFormed.Statement .railUndervoltage := wellFormed_grows _
theorem WellFormed.resetNAssert : WellFormed.Statement .resetNAssert := wellFormed_grows _
theorem WellFormed.resetNRelease : WellFormed.Statement .resetNRelease := wellFormed_grows _
theorem WellFormed.bringupComplete (ms : Nat) : WellFormed.Statement (.bringupComplete ms) := wellFormed_grows _
theorem WellFormed.bringupFail (code : Nat) : WellFormed.Statement (.bringupFail code) := wellFormed_grows _
theorem WellFormed.tamper (cause : TamperCause) : WellFormed.Statement (.tamper cause) := wellFormed_grows _
theorem WellFormed.keyStoreIntegrityFail (what : KeyFailure) : WellFormed.Statement (.keyStoreIntegrityFail what) := wellFormed_grows _
theorem WellFormed.lockstepDoubleParity (cp : Nat) : WellFormed.Statement (.lockstepDoubleParity cp) := wellFormed_grows _
theorem WellFormed.corePllLoss (clk : Clk) : WellFormed.Statement (.corePllLoss clk) := wellFormed_grows _
theorem WellFormed.corePllRelockTimeout (clk : Clk) : WellFormed.Statement (.corePllRelockTimeout clk) := wellFormed_grows _
theorem WellFormed.pdDrainExpiry (dom : Domain) : WellFormed.Statement (.pdDrainExpiry dom) := wellFormed_grows _
theorem WellFormed.enec (events : Byte) : WellFormed.Statement (.enec events) := wellFormed_grows _
theorem WellFormed.disec (events : Byte) : WellFormed.Statement (.disec events) := wellFormed_grows _
theorem WellFormed.rstdaa : WellFormed.Statement .rstdaa := wellFormed_grows _
theorem WellFormed.entdaa (addr : BitVec 7) : WellFormed.Statement (.entdaa addr) := wellFormed_grows _
theorem WellFormed.setdasa (target : BitVec 7) (addr : BitVec 7) : WellFormed.Statement (.setdasa target addr) := wellFormed_grows _
theorem WellFormed.setmwl (value : Nat) : WellFormed.Statement (.setmwl value) := wellFormed_grows _
theorem WellFormed.getmwl : WellFormed.Statement .getmwl := wellFormed_grows _
theorem WellFormed.setmrl (value : Nat) : WellFormed.Statement (.setmrl value) := wellFormed_grows _
theorem WellFormed.getmrl : WellFormed.Statement .getmrl := wellFormed_grows _
theorem WellFormed.getpid : WellFormed.Statement .getpid := wellFormed_grows _
theorem WellFormed.getbcr : WellFormed.Statement .getbcr := wellFormed_grows _
theorem WellFormed.getdcr : WellFormed.Statement .getdcr := wellFormed_grows _
theorem WellFormed.getstatus : WellFormed.Statement .getstatus := wellFormed_grows _
theorem WellFormed.rstact (form : CccForm) (db : Byte) : WellFormed.Statement (.rstact form db) := wellFormed_grows _
theorem WellFormed.rstactRead (db : Byte) : WellFormed.Statement (.rstactRead db) := wellFormed_grows _
theorem WellFormed.enthdr0 (cmds : List HdrCmd) : WellFormed.Statement (.enthdr0 cmds) := wellFormed_grows _
theorem WellFormed.targetResetPattern : WellFormed.Statement .targetResetPattern := wellFormed_grows _
theorem WellFormed.ibiIssue (accepted : Bool) : WellFormed.Statement (.ibiIssue accepted) := wellFormed_grows _
theorem WellFormed.registerWrite (p : Path) (bytes : List Byte) : WellFormed.Statement (.registerWrite p bytes) := wellFormed_grows _
theorem WellFormed.rcRead (p : Path) (addr : Nat) (bytes : Nat) : WellFormed.Statement (.rcRead p addr bytes) := wellFormed_grows _
theorem WellFormed.errStatRead (p : Path) (page : Nat) (bytes : Nat) : WellFormed.Statement (.errStatRead p page bytes) := wellFormed_grows _
theorem WellFormed.loWordRead (p : Path) (addr : Nat) (bytes : Nat) : WellFormed.Statement (.loWordRead p addr bytes) := wellFormed_grows _
theorem WellFormed.tbNowLoRead (p : Path) (bytes : Nat) : WellFormed.Statement (.tbNowLoRead p bytes) := wellFormed_grows _
theorem WellFormed.unlistedCommandCode (p : Path) (addr : Nat) (data : Word) : WellFormed.Statement (.unlistedCommandCode p addr data) := wellFormed_grows _
theorem WellFormed.pgCtlEnable (p : Path) (page : Nat) (on : Bool) : WellFormed.Statement (.pgCtlEnable p page on) := wellFormed_grows _
theorem WellFormed.pgCtlFreeze (p : Path) (page : Nat) (on : Bool) : WellFormed.Statement (.pgCtlFreeze p page on) := wellFormed_grows _
theorem WellFormed.pgCtlSreset (p : Path) (page : Nat) : WellFormed.Statement (.pgCtlSreset p page) := wellFormed_grows _
theorem WellFormed.pgSresetDone (page : Nat) : WellFormed.Statement (.pgSresetDone page) := wellFormed_grows _
theorem WellFormed.errForce (p : Path) (page : Nat) (bits : BitVec 16) : WellFormed.Statement (.errForce p page bits) := wellFormed_grows _
theorem WellFormed.errClassWrite (p : Path) (page : Nat) (value : Word) : WellFormed.Statement (.errClassWrite p page value) := wellFormed_grows _
theorem WellFormed.errorDetect (page : Nat) (src : Nat) (cap : Cap) (obj : Nat) : WellFormed.Statement (.errorDetect page src cap obj) := wellFormed_grows _
theorem WellFormed.intCoalTimeExpiry (page : Nat) : WellFormed.Statement (.intCoalTimeExpiry page) := wellFormed_grows _
theorem WellFormed.stoneTakeover (n : Nat) : WellFormed.Statement (.stoneTakeover n) := wellFormed_grows _
theorem WellFormed.runnerTakeover (n : Nat) : WellFormed.Statement (.runnerTakeover n) := wellFormed_grows _
theorem WellFormed.cpTakeover (n : Nat) : WellFormed.Statement (.cpTakeover n) := wellFormed_grows _
theorem WellFormed.cfgCommit (p : Path) (data : Word) : WellFormed.Statement (.cfgCommit p data) := wellFormed_grows _
theorem WellFormed.cfgPassStart : WellFormed.Statement .cfgPassStart := wellFormed_grows _
theorem WellFormed.cfgPassEnd : WellFormed.Statement .cfgPassEnd := wellFormed_grows _
theorem WellFormed.chanStart (by_ : ChanBy) (c : Nat) : WellFormed.Statement (.chanStart by_ c) := wellFormed_grows _
theorem WellFormed.chanResume (by_ : ChanBy) (c : Nat) : WellFormed.Statement (.chanResume by_ c) := wellFormed_grows _
theorem WellFormed.chanStop (by_ : ChanBy) (c : Nat) : WellFormed.Statement (.chanStop by_ c) := wellFormed_grows _
theorem WellFormed.srcDb (value : Word) : WellFormed.Statement (.srcDb value) := wellFormed_grows _
theorem WellFormed.evqConsWrite (p : Option Path) (value : Word) : WellFormed.Statement (.evqConsWrite p value) := wellFormed_grows _
theorem WellFormed.evqCtlWrite (p : Path) (value : Word) : WellFormed.Statement (.evqCtlWrite p value) := wellFormed_grows _
theorem WellFormed.routerMessage : WellFormed.Statement .routerMessage := wellFormed_grows _
theorem WellFormed.evqNotifyTimeout : WellFormed.Statement .evqNotifyTimeout := wellFormed_grows _
theorem WellFormed.evqOverflowWrite : WellFormed.Statement .evqOverflowWrite := wellFormed_grows _
theorem WellFormed.evqLagExpiry : WellFormed.Statement .evqLagExpiry := wellFormed_grows _
theorem WellFormed.evrInject (p : Path) (value : Word) : WellFormed.Statement (.evrInject p value) := wellFormed_grows _
theorem WellFormed.stripeDb (renderer : Nat) (value : Word) : WellFormed.Statement (.stripeDb renderer value) := wellFormed_grows _
theorem WellFormed.sesSetup (by_ : CmdBy) (session : Nat) : WellFormed.Statement (.sesSetup by_ session) := wellFormed_grows _
theorem WellFormed.sesStart (by_ : CmdBy) (session : Nat) : WellFormed.Statement (.sesStart by_ session) := wellFormed_grows _
theorem WellFormed.sesStop (by_ : CmdBy) (session : Nat) : WellFormed.Statement (.sesStop by_ session) := wellFormed_grows _
theorem WellFormed.sesAbort (by_ : CmdBy) (session : Nat) : WellFormed.Statement (.sesAbort by_ session) := wellFormed_grows _
theorem WellFormed.sessionStopped (session : Nat) : WellFormed.Statement (.sessionStopped session) := wellFormed_grows _
theorem WellFormed.comparatorMatch (n : Nat) : WellFormed.Statement (.comparatorMatch n) := wellFormed_grows _
theorem WellFormed.frameStart (session : Nat) : WellFormed.Statement (.frameStart session) := wellFormed_grows _
theorem WellFormed.frameComplete (session : Nat) : WellFormed.Statement (.frameComplete session) := wellFormed_grows _
theorem WellFormed.ingestTimeout (session : Nat) : WellFormed.Statement (.ingestTimeout session) := wellFormed_grows _
theorem WellFormed.bolterRowStart (b : Nat) : WellFormed.Statement (.bolterRowStart b) := wellFormed_grows _
theorem WellFormed.bolterRowDone (b : Nat) : WellFormed.Statement (.bolterRowDone b) := wellFormed_grows _
theorem WellFormed.stoneSegmentStart (n : Nat) (blocks : List Block) : WellFormed.Statement (.stoneSegmentStart n blocks) := wellFormed_grows _
theorem WellFormed.stoneSegmentDone (n : Nat) (out : SegRecon) : WellFormed.Statement (.stoneSegmentDone n out) := wellFormed_grows _
theorem WellFormed.segmentCommit (n : Nat) : WellFormed.Statement (.segmentCommit n) := wellFormed_grows _
theorem WellFormed.seamTimeout (n : Nat) : WellFormed.Statement (.seamTimeout n) := wellFormed_grows _
theorem WellFormed.stoneWatchdog (n : Nat) : WellFormed.Statement (.stoneWatchdog n) := wellFormed_grows _
theorem WellFormed.govFeedbackReport (session : Nat) : WellFormed.Statement (.govFeedbackReport session) := wellFormed_grows _
theorem WellFormed.govRateInForce (session : Nat) : WellFormed.Statement (.govRateInForce session) := wellFormed_grows _
theorem WellFormed.govFbTimeout (session : Nat) : WellFormed.Statement (.govFbTimeout session) := wellFormed_grows _
theorem WellFormed.packetLost (session : Nat) (seq : BitVec 16) : WellFormed.Statement (.packetLost session seq) := wellFormed_grows _
theorem WellFormed.refClsWrite (p : Path) (cls : Nat) (word : Nat) (value : Word) : WellFormed.Statement (.refClsWrite p cls word value) := wellFormed_grows _
theorem WellFormed.decSetup (by_ : CmdBy) (page : Nat) (session : Nat) : WellFormed.Statement (.decSetup by_ page session) := wellFormed_grows _
theorem WellFormed.decStart (by_ : CmdBy) (page : Nat) (session : Nat) : WellFormed.Statement (.decStart by_ page session) := wellFormed_grows _
theorem WellFormed.decStop (by_ : CmdBy) (page : Nat) (session : Nat) : WellFormed.Statement (.decStop by_ page session) := wellFormed_grows _
theorem WellFormed.decAbort (by_ : CmdBy) (page : Nat) (session : Nat) : WellFormed.Statement (.decAbort by_ page session) := wellFormed_grows _
theorem WellFormed.decSessionStopped (session : Nat) : WellFormed.Statement (.decSessionStopped session) := wellFormed_grows _
theorem WellFormed.decRtpPacket (session : Nat) : WellFormed.Statement (.decRtpPacket session) := wellFormed_grows _
theorem WellFormed.decReorderTimeout (session : Nat) : WellFormed.Statement (.decReorderTimeout session) := wellFormed_grows _
theorem WellFormed.decPictureStart (pipe : Nat) (h : Option DecHead) : WellFormed.Statement (.decPictureStart pipe h) := wellFormed_grows _
theorem WellFormed.decPictureDone (pipe : Nat) (r : DecodeOutcome) : WellFormed.Statement (.decPictureDone pipe r) := wellFormed_grows _
theorem WellFormed.decDeliveryDone (session : Nat) : WellFormed.Statement (.decDeliveryDone session) := wellFormed_grows _
theorem WellFormed.decConsPoll (session : Nat) : WellFormed.Statement (.decConsPoll session) := wellFormed_grows _
theorem WellFormed.decWatchdog (pipe : Nat) : WellFormed.Statement (.decWatchdog pipe) := wellFormed_grows _
theorem WellFormed.decCtlWrite (p : Path) (pipe : Nat) (value : Word) : WellFormed.Statement (.decCtlWrite p pipe value) := wellFormed_grows _
theorem WellFormed.runnerAssignWrite (p : Path) (l : Nat) (value : Word) : WellFormed.Statement (.runnerAssignWrite p l value) := wellFormed_grows _
theorem WellFormed.runnerAssignApply (l : Nat) : WellFormed.Statement (.runnerAssignApply l) := wellFormed_grows _
theorem WellFormed.libInsert (p : Path) (slot : Nat) : WellFormed.Statement (.libInsert p slot) := wellFormed_grows _
theorem WellFormed.libRemove (p : Path) (slot : Nat) : WellFormed.Statement (.libRemove p slot) := wellFormed_grows _
theorem WellFormed.libInsertDone : WellFormed.Statement .libInsertDone := wellFormed_grows _
theorem WellFormed.runnerLoadDone (n : Nat) : WellFormed.Statement (.runnerLoadDone n) := wellFormed_grows _
theorem WellFormed.runnerUnitStart (n : Nat) : WellFormed.Statement (.runnerUnitStart n) := wellFormed_grows _
theorem WellFormed.assetUnitStart (n : Nat) : WellFormed.Statement (.assetUnitStart n) := wellFormed_grows _
theorem WellFormed.runnerMicroword (n : Nat) (inp : RunnerInput) : WellFormed.Statement (.runnerMicroword n inp) := wellFormed_grows _
theorem WellFormed.runnerMemOpDone (n : Nat) : WellFormed.Statement (.runnerMemOpDone n) := wellFormed_grows _
theorem WellFormed.runnerCpyOpDone (n : Nat) : WellFormed.Statement (.runnerCpyOpDone n) := wellFormed_grows _
theorem WellFormed.runnerWatchdog (n : Nat) : WellFormed.Statement (.runnerWatchdog n) := wellFormed_grows _
theorem WellFormed.cpNop (n : Nat) : WellFormed.Statement (.cpNop n) := wellFormed_grows _
theorem WellFormed.cpRet (n : Nat) : WellFormed.Statement (.cpRet n) := wellFormed_grows _
theorem WellFormed.cpRett (n : Nat) : WellFormed.Statement (.cpRett n) := wellFormed_grows _
theorem WellFormed.cpWfm (n : Nat) : WellFormed.Statement (.cpWfm n) := wellFormed_grows _
theorem WellFormed.cpWfmWake (n : Nat) : WellFormed.Statement (.cpWfmWake n) := wellFormed_grows _
theorem WellFormed.cpXcall (n : Nat) : WellFormed.Statement (.cpXcall n) := wellFormed_grows _
theorem WellFormed.cpRep (n : Nat) : WellFormed.Statement (.cpRep n) := wellFormed_grows _
theorem WellFormed.cpImm (n : Nat) : WellFormed.Statement (.cpImm n) := wellFormed_grows _
theorem WellFormed.cpMovi (n : Nat) : WellFormed.Statement (.cpMovi n) := wellFormed_grows _
theorem WellFormed.cpAddi (n : Nat) : WellFormed.Statement (.cpAddi n) := wellFormed_grows _
theorem WellFormed.cpCmpi (n : Nat) : WellFormed.Statement (.cpCmpi n) := wellFormed_grows _
theorem WellFormed.cpAlu (n : Nat) : WellFormed.Statement (.cpAlu n) := wellFormed_grows _
theorem WellFormed.cpShf (n : Nat) : WellFormed.Statement (.cpShf n) := wellFormed_grows _
theorem WellFormed.cpShi (n : Nat) : WellFormed.Statement (.cpShi n) := wellFormed_grows _
theorem WellFormed.cpLd (n : Nat) : WellFormed.Statement (.cpLd n) := wellFormed_grows _
theorem WellFormed.cpSt (n : Nat) : WellFormed.Statement (.cpSt n) := wellFormed_grows _
theorem WellFormed.cpLdb (n : Nat) : WellFormed.Statement (.cpLdb n) := wellFormed_grows _
theorem WellFormed.cpStb (n : Nat) : WellFormed.Statement (.cpStb n) := wellFormed_grows _
theorem WellFormed.cpMovp (n : Nat) : WellFormed.Statement (.cpMovp n) := wellFormed_grows _
theorem WellFormed.cpPmov (n : Nat) : WellFormed.Statement (.cpPmov n) := wellFormed_grows _
theorem WellFormed.cpPaddi (n : Nat) : WellFormed.Statement (.cpPaddi n) := wellFormed_grows _
theorem WellFormed.cpJmp (n : Nat) : WellFormed.Statement (.cpJmp n) := wellFormed_grows _
theorem WellFormed.cpBz (n : Nat) : WellFormed.Statement (.cpBz n) := wellFormed_grows _
theorem WellFormed.cpBnz (n : Nat) : WellFormed.Statement (.cpBnz n) := wellFormed_grows _
theorem WellFormed.cpBc (n : Nat) : WellFormed.Statement (.cpBc n) := wellFormed_grows _
theorem WellFormed.cpBnc (n : Nat) : WellFormed.Statement (.cpBnc n) := wellFormed_grows _
theorem WellFormed.cpBn (n : Nat) : WellFormed.Statement (.cpBn n) := wellFormed_grows _
theorem WellFormed.cpBnn (n : Nat) : WellFormed.Statement (.cpBnn n) := wellFormed_grows _
theorem WellFormed.cpCall (n : Nat) : WellFormed.Statement (.cpCall n) := wellFormed_grows _
theorem WellFormed.cpJr (n : Nat) : WellFormed.Statement (.cpJr n) := wellFormed_grows _
theorem WellFormed.cpCrc (n : Nat) : WellFormed.Statement (.cpCrc n) := wellFormed_grows _
theorem WellFormed.cpBit (n : Nat) : WellFormed.Statement (.cpBit n) := wellFormed_grows _
theorem WellFormed.cpIn (n : Nat) : WellFormed.Statement (.cpIn n) := wellFormed_grows _
theorem WellFormed.cpOut (n : Nat) : WellFormed.Statement (.cpOut n) := wellFormed_grows _
theorem WellFormed.cpReservedOpcode (n : Nat) : WellFormed.Statement (.cpReservedOpcode n) := wellFormed_grows _
theorem WellFormed.cpExtWatchdog (n : Nat) : WellFormed.Statement (.cpExtWatchdog n) := wellFormed_grows _
theorem WellFormed.eicHoldExpiry (n : Nat) : WellFormed.Statement (.eicHoldExpiry n) := wellFormed_grows _
theorem WellFormed.eicSetPend (p : Path) (n : Nat) (source : Nat) : WellFormed.Statement (.eicSetPend p n source) := wellFormed_grows _
theorem WellFormed.eicClrPend (p : Path) (n : Nat) (source : Nat) : WellFormed.Statement (.eicClrPend p n source) := wellFormed_grows _
theorem WellFormed.eicMask (p : Path) (n : Nat) (source : Nat) : WellFormed.Statement (.eicMask p n source) := wellFormed_grows _
theorem WellFormed.eicUnmask (p : Path) (n : Nat) (source : Nat) : WellFormed.Statement (.eicUnmask p n source) := wellFormed_grows _
theorem WellFormed.cpImgLoad (p : Path) (n : Nat) : WellFormed.Statement (.cpImgLoad p n) := wellFormed_grows _
theorem WellFormed.cpImgLoadExt (p : Path) (n : Nat) : WellFormed.Statement (.cpImgLoadExt p n) := wellFormed_grows _
theorem WellFormed.cpImgMove (p : Path) (n : Nat) (logical : Nat) : WellFormed.Statement (.cpImgMove p n logical) := wellFormed_grows _
theorem WellFormed.cpMoveBind (n : Nat) : WellFormed.Statement (.cpMoveBind n) := wellFormed_grows _
theorem WellFormed.pawlNop (n : Nat) : WellFormed.Statement (.pawlNop n) := wellFormed_grows _
theorem WellFormed.pawlRet (n : Nat) : WellFormed.Statement (.pawlRet n) := wellFormed_grows _
theorem WellFormed.pawlRett (n : Nat) : WellFormed.Statement (.pawlRett n) := wellFormed_grows _
theorem WellFormed.pawlWfe (n : Nat) : WellFormed.Statement (.pawlWfe n) := wellFormed_grows _
theorem WellFormed.pawlWfeWake (n : Nat) : WellFormed.Statement (.pawlWfeWake n) := wellFormed_grows _
theorem WellFormed.pawlTwait (n : Nat) : WellFormed.Statement (.pawlTwait n) := wellFormed_grows _
theorem WellFormed.pawlTwaitExpiry (n : Nat) : WellFormed.Statement (.pawlTwaitExpiry n) := wellFormed_grows _
theorem WellFormed.pawlLdi (n : Nat) : WellFormed.Statement (.pawlLdi n) := wellFormed_grows _
theorem WellFormed.pawlPfx (n : Nat) : WellFormed.Statement (.pawlPfx n) := wellFormed_grows _
theorem WellFormed.pawlAlu (n : Nat) : WellFormed.Statement (.pawlAlu n) := wellFormed_grows _
theorem WellFormed.pawlAddi (n : Nat) : WellFormed.Statement (.pawlAddi n) := wellFormed_grows _
theorem WellFormed.pawlIn (n : Nat) : WellFormed.Statement (.pawlIn n) := wellFormed_grows _
theorem WellFormed.pawlOut (n : Nat) : WellFormed.Statement (.pawlOut n) := wellFormed_grows _
theorem WellFormed.pawlJmp (n : Nat) : WellFormed.Statement (.pawlJmp n) := wellFormed_grows _
theorem WellFormed.pawlBz (n : Nat) : WellFormed.Statement (.pawlBz n) := wellFormed_grows _
theorem WellFormed.pawlBnz (n : Nat) : WellFormed.Statement (.pawlBnz n) := wellFormed_grows _
theorem WellFormed.pawlCall (n : Nat) : WellFormed.Statement (.pawlCall n) := wellFormed_grows _
theorem WellFormed.pawlSev (n : Nat) : WellFormed.Statement (.pawlSev n) := wellFormed_grows _
theorem WellFormed.pawlTset (n : Nat) : WellFormed.Statement (.pawlTset n) := wellFormed_grows _
theorem WellFormed.pawlEv (n : Nat) : WellFormed.Statement (.pawlEv n) := wellFormed_grows _
theorem WellFormed.pawlReservedOpcode (n : Nat) : WellFormed.Statement (.pawlReservedOpcode n) := wellFormed_grows _
theorem WellFormed.pawlRqEnd (n : Nat) (data : Word) (ok : Bool) : WellFormed.Statement (.pawlRqEnd n data ok) := wellFormed_grows _
theorem WellFormed.pawlMemDone (n : Nat) : WellFormed.Statement (.pawlMemDone n) := wellFormed_grows _
theorem WellFormed.pawlImgLoad (p : Path) (n : Nat) : WellFormed.Statement (.pawlImgLoad p n) := wellFormed_grows _
theorem WellFormed.pawlLoadDone (n : Nat) : WellFormed.Statement (.pawlLoadDone n) := wellFormed_grows _
theorem WellFormed.nvmeControllerInit (q : Nat) (ans : Option NvmeIdentity) : WellFormed.Statement (.nvmeControllerInit q ans) := wellFormed_grows _
theorem WellFormed.nvmeCompletion (q : Nat) (cid : Nat) (st : NvmeStatus) : WellFormed.Statement (.nvmeCompletion q cid st) := wellFormed_grows _
theorem WellFormed.nvmeCmdTimeout (q : Nat) (cid : Option Nat) : WellFormed.Statement (.nvmeCmdTimeout q cid) := wellFormed_grows _
theorem WellFormed.stepDispatch (c : Nat) : WellFormed.Statement (.stepDispatch c) := wellFormed_grows _
theorem WellFormed.stepRead (c : Nat) : WellFormed.Statement (.stepRead c) := wellFormed_grows _
theorem WellFormed.stepWrite (c : Nat) : WellFormed.Statement (.stepWrite c) := wellFormed_grows _
theorem WellFormed.stepMove (c : Nat) : WellFormed.Statement (.stepMove c) := wellFormed_grows _
theorem WellFormed.stepSense (c : Nat) : WellFormed.Statement (.stepSense c) := wellFormed_grows _
theorem WellFormed.stepTransform (c : Nat) : WellFormed.Statement (.stepTransform c) := wellFormed_grows _
theorem WellFormed.stepSubmit (c : Nat) : WellFormed.Statement (.stepSubmit c) := wellFormed_grows _
theorem WellFormed.stepWait (c : Nat) : WellFormed.Statement (.stepWait c) := wellFormed_grows _
theorem WellFormed.stepSignal (c : Nat) : WellFormed.Statement (.stepSignal c) := wellFormed_grows _
theorem WellFormed.stepJump (c : Nat) : WellFormed.Statement (.stepJump c) := wellFormed_grows _
theorem WellFormed.stepTest (c : Nat) : WellFormed.Statement (.stepTest c) := wellFormed_grows _
theorem WellFormed.stepRegload (c : Nat) : WellFormed.Statement (.stepRegload c) := wellFormed_grows _
theorem WellFormed.regloadPoll (c : Nat) : WellFormed.Statement (.regloadPoll c) := wellFormed_grows _
theorem WellFormed.stepFill (c : Nat) : WellFormed.Statement (.stepFill c) := wellFormed_grows _
theorem WellFormed.stepNop (c : Nat) : WellFormed.Statement (.stepNop c) := wellFormed_grows _
theorem WellFormed.stepEnd (c : Nat) : WellFormed.Statement (.stepEnd c) := wellFormed_grows _
theorem WellFormed.stepExtension (c : Nat) : WellFormed.Statement (.stepExtension c) := wellFormed_grows _
theorem WellFormed.egressOpen (c : Nat) : WellFormed.Statement (.egressOpen c) := wellFormed_grows _
theorem WellFormed.egressClose (c : Nat) : WellFormed.Statement (.egressClose c) := wellFormed_grows _
theorem WellFormed.egressCloseDone (dev : Nat) : WellFormed.Statement (.egressCloseDone dev) := wellFormed_grows _
theorem WellFormed.egressFlush (c : Nat) : WellFormed.Statement (.egressFlush c) := wellFormed_grows _
theorem WellFormed.ingestDoorbell (c : Nat) : WellFormed.Statement (.ingestDoorbell c) := wellFormed_grows _
theorem WellFormed.stepComplete (c : Nat) : WellFormed.Statement (.stepComplete c) := wellFormed_grows _
theorem WellFormed.stepTimeout (c : Nat) : WellFormed.Statement (.stepTimeout c) := wellFormed_grows _
theorem WellFormed.dmaTransferStart (e : Nat) : WellFormed.Statement (.dmaTransferStart e) := wellFormed_grows _
theorem WellFormed.dmaTransferEnd (e : Nat) : WellFormed.Statement (.dmaTransferEnd e) := wellFormed_grows _
theorem WellFormed.hopInit (p : Path) (pool : Nat) : WellFormed.Statement (.hopInit p pool) := wellFormed_grows _
theorem WellFormed.hopInitDone : WellFormed.Statement .hopInitDone := wellFormed_grows _
theorem WellFormed.hopDisable (p : Path) (pool : Nat) : WellFormed.Statement (.hopDisable p pool) := wellFormed_grows _
theorem WellFormed.hopGrant (pool : Nat) : WellFormed.Statement (.hopGrant pool) := wellFormed_grows _
theorem WellFormed.hopCacheRefill (pool : Nat) : WellFormed.Statement (.hopCacheRefill pool) := wellFormed_grows _
theorem WellFormed.hopCacheSpill (pool : Nat) : WellFormed.Statement (.hopCacheSpill pool) := wellFormed_grows _
theorem WellFormed.hopWaitLong (pool : Nat) : WellFormed.Statement (.hopWaitLong pool) := wellFormed_grows _
theorem WellFormed.hopResvWrite (p : Path) (owner : Nat) (b : Bool) (value : Word) : WellFormed.Statement (.hopResvWrite p owner b value) := wellFormed_grows _
theorem WellFormed.dramLineRead (master : BitVec 12) (acc : BitVec 4) (addr : Nat) (badFetches : Nat) : WellFormed.Statement (.dramLineRead master acc addr badFetches) := wellFormed_grows _
theorem WellFormed.dramLineWrite (master : BitVec 12) (acc : BitVec 4) (addr : Nat) (bytes : List Byte) : WellFormed.Statement (.dramLineWrite master acc addr bytes) := wellFormed_grows _
theorem WellFormed.dramRefresh (site : Nat) : WellFormed.Statement (.dramRefresh site) := wellFormed_grows _
theorem WellFormed.actWindowStart (site : Nat) : WellFormed.Statement (.actWindowStart site) := wellFormed_grows _
theorem WellFormed.throttleEnd (site : Nat) : WellFormed.Statement (.throttleEnd site) := wellFormed_grows _
theorem WellFormed.maWaitLimitReached (master : BitVec 12) (site : Nat) : WellFormed.Statement (.maWaitLimitReached master site) := wellFormed_grows _
theorem WellFormed.maCtlFreeze (p : Path) (on : Bool) : WellFormed.Statement (.maCtlFreeze p on) := wellFormed_grows _
theorem WellFormed.maBankHashWrite (p : Path) (k : Nat) (value : Word) : WellFormed.Statement (.maBankHashWrite p k value) := wellFormed_grows _
theorem WellFormed.mcChkFlipWrite (p : Path) (site : Nat) (value : Word) : WellFormed.Statement (.mcChkFlipWrite p site value) := wellFormed_grows _
theorem WellFormed.scrubStart (p : Path) : WellFormed.Statement (.scrubStart p) := wellFormed_grows _
theorem WellFormed.scrubAbort (p : Path) (bad : List (Nat × Nat)) : WellFormed.Statement (.scrubAbort p bad) := wellFormed_grows _
theorem WellFormed.scrubDone (bad : List (Nat × Nat)) : WellFormed.Statement (.scrubDone bad) := wellFormed_grows _
theorem WellFormed.ceBucketLeak : WellFormed.Statement .ceBucketLeak := wellFormed_grows _
theorem WellFormed.reqStandby (p : Path) : WellFormed.Statement (.reqStandby p) := wellFormed_grows _
theorem WellFormed.reqRun (p : Path) : WellFormed.Statement (.reqRun p) := wellFormed_grows _
theorem WellFormed.reqDrain (p : Path) : WellFormed.Statement (.reqDrain p) := wellFormed_grows _
theorem WellFormed.reqSlack (p : Path) : WellFormed.Statement (.reqSlack p) := wellFormed_grows _
theorem WellFormed.devSreset (p : Path) : WellFormed.Statement (.devSreset p) := wellFormed_grows _
theorem WellFormed.devSresetDone : WellFormed.Statement .devSresetDone := wellFormed_grows _
theorem WellFormed.slackWakeFrame (q : Nat) (da : BitVec 48) : WellFormed.Statement (.slackWakeFrame q da) := wellFormed_grows _
theorem WellFormed.ldgSync (p : Path) : WellFormed.Statement (.ldgSync p) := wellFormed_grows _
theorem WellFormed.ldgWriteUser (p : Path) : WellFormed.Statement (.ldgWriteUser p) := wellFormed_grows _
theorem WellFormed.ldgReadUser (p : Path) : WellFormed.Statement (.ldgReadUser p) := wellFormed_grows _
theorem WellFormed.ldgWriteRecord (p : Path) : WellFormed.Statement (.ldgWriteRecord p) := wellFormed_grows _
theorem WellFormed.ldgClearRetire (p : Path) : WellFormed.Statement (.ldgClearRetire p) := wellFormed_grows _
theorem WellFormed.ldgReadFaults (p : Path) : WellFormed.Statement (.ldgReadFaults p) := wellFormed_grows _
theorem WellFormed.ledgerRecordWrite : WellFormed.Statement .ledgerRecordWrite := wellFormed_grows _
theorem WellFormed.ledgerWriteDone (verified : Bool) : WellFormed.Statement (.ledgerWriteDone verified) := wellFormed_grows _
theorem WellFormed.ledgerFlashTimeout : WellFormed.Statement .ledgerFlashTimeout := wellFormed_grows _
theorem WellFormed.ledgerIntervalExpiry : WellFormed.Statement .ledgerIntervalExpiry := wellFormed_grows _
theorem WellFormed.ledgerWearUpdate : WellFormed.Statement .ledgerWearUpdate := wellFormed_grows _
theorem WellFormed.tbOffsetWrite (p : Path) (value : Word) : WellFormed.Statement (.tbOffsetWrite p value) := wellFormed_grows _
theorem WellFormed.tbRateWrite (p : Path) (value : Word) : WellFormed.Statement (.tbRateWrite p value) := wellFormed_grows _
theorem WellFormed.tbStepWrite (p : Path) (value : Word) : WellFormed.Statement (.tbStepWrite p value) := wellFormed_grows _
theorem WellFormed.tbCmpWrite (p : Path) (n : Nat) (word : Nat) (value : Word) : WellFormed.Statement (.tbCmpWrite p n word value) := wellFormed_grows _
theorem WellFormed.sdrefWLoss : WellFormed.Statement .sdrefWLoss := wellFormed_grows _
theorem WellFormed.tbPllLockE : WellFormed.Statement .tbPllLockE := wellFormed_grows _
theorem WellFormed.ppsInEdge : WellFormed.Statement .ppsInEdge := wellFormed_grows _
theorem WellFormed.ppsOutPulseEnd : WellFormed.Statement .ppsOutPulseEnd := wellFormed_grows _
theorem WellFormed.sluFlowReload (p : Path) (flow : Nat) : WellFormed.Statement (.sluFlowReload p flow) := wellFormed_grows _
theorem WellFormed.sluiceFineSlot : WellFormed.Statement .sluiceFineSlot := wellFormed_grows _
theorem WellFormed.sluiceCoarseSlot : WellFormed.Statement .sluiceCoarseSlot := wellFormed_grows _
theorem WellFormed.sluTblCommit (p : Path) (value : Word) : WellFormed.Statement (.sluTblCommit p value) := wellFormed_grows _
theorem WellFormed.sluTblSwap (port : Nat) : WellFormed.Statement (.sluTblSwap port) := wellFormed_grows _
theorem WellFormed.gateEntryBoundary (port : Nat) : WellFormed.Statement (.gateEntryBoundary port) := wellFormed_grows _
theorem WellFormed.packetize (session : Nat) : WellFormed.Statement (.packetize session) := wellFormed_grows _
theorem WellFormed.pktRekeyCmd (p : Path) (value : Word) : WellFormed.Statement (.pktRekeyCmd p value) := wellFormed_grows _
theorem WellFormed.feedbackPacket (session : Nat) : WellFormed.Statement (.feedbackPacket session) := wellFormed_grows _
theorem WellFormed.srIntervalExpiry (session : Nat) : WellFormed.Statement (.srIntervalExpiry session) := wellFormed_grows _
theorem WellFormed.historyExpiry (queue : Nat) (lane : Nat) : WellFormed.Statement (.historyExpiry queue lane) := wellFormed_grows _
theorem WellFormed.leatFlush (p : Path) (value : Word) : WellFormed.Statement (.leatFlush p value) := wellFormed_grows _
theorem WellFormed.leatStale (queue : Nat) (lane : Nat) : WellFormed.Statement (.leatStale queue lane) := wellFormed_grows _
theorem WellFormed.frameHeaderReceived (port : Nat) (bytes : List Byte) : WellFormed.Statement (.frameHeaderReceived port bytes) := wellFormed_grows _
theorem WellFormed.frameStored (port : Nat) (fcsOk : Bool) : WellFormed.Statement (.frameStored port fcsOk) := wellFormed_grows _
theorem WellFormed.frameTxStart (port : Nat) : WellFormed.Statement (.frameTxStart port) := wellFormed_grows _
theorem WellFormed.frameTxDone (port : Nat) : WellFormed.Statement (.frameTxDone port) := wellFormed_grows _
theorem WellFormed.portUp (port : Nat) : WellFormed.Statement (.portUp port) := wellFormed_grows _
theorem WellFormed.portDown (port : Nat) : WellFormed.Statement (.portDown port) := wellFormed_grows _
theorem WellFormed.portHoldExpiry (port : Nat) : WellFormed.Statement (.portHoldExpiry port) := wellFormed_grows _
theorem WellFormed.anRetry (port : Nat) : WellFormed.Statement (.anRetry port) := wellFormed_grows _
theorem WellFormed.quadCfgWrite (p : Path) (q : Nat) (value : Word) : WellFormed.Statement (.quadCfgWrite p q value) := wellFormed_grows _
theorem WellFormed.quadPortEnWrite (p : Path) (q : Nat) (k : Nat) (value : Word) : WellFormed.Statement (.quadPortEnWrite p q k value) := wellFormed_grows _
theorem WellFormed.fwdInsert (p : Path) (flow : Bool) : WellFormed.Statement (.fwdInsert p flow) := wellFormed_grows _
theorem WellFormed.fwdDelete (p : Path) (flow : Bool) : WellFormed.Statement (.fwdDelete p flow) := wellFormed_grows _
theorem WellFormed.fwdRead (p : Path) (flow : Bool) : WellFormed.Statement (.fwdRead p flow) := wellFormed_grows _
theorem WellFormed.fwdCommit (p : Path) : WellFormed.Statement (.fwdCommit p) := wellFormed_grows _
theorem WellFormed.fwdCommitDone : WellFormed.Statement .fwdCommitDone := wellFormed_grows _
theorem WellFormed.fwdDiscard (p : Path) : WellFormed.Statement (.fwdDiscard p) := wellFormed_grows _
theorem WellFormed.ringAnnounceTimer : WellFormed.Statement .ringAnnounceTimer := wellFormed_grows _
theorem WellFormed.ringAnnounceRx (east : Bool) (h : HandOff) : WellFormed.Statement (.ringAnnounceRx east h) := wellFormed_grows _
theorem WellFormed.ringElectTimeout : WellFormed.Statement .ringElectTimeout := wellFormed_grows _
theorem WellFormed.ringTopoRx (east : Bool) (h : HandOff) : WellFormed.Statement (.ringTopoRx east h) := wellFormed_grows _
theorem WellFormed.ringTopoTimeout : WellFormed.Statement .ringTopoTimeout := wellFormed_grows _
theorem WellFormed.ringReadyRx (east : Bool) (h : HandOff) : WellFormed.Statement (.ringReadyRx east h) := wellFormed_grows _
theorem WellFormed.ringDataRx (east : Bool) (h : HandOff) : WellFormed.Statement (.ringDataRx east h) := wellFormed_grows _
theorem WellFormed.weirSwitchDone : WellFormed.Statement .weirSwitchDone := wellFormed_grows _
theorem WellFormed.weirStuckTimeout : WellFormed.Statement .weirStuckTimeout := wellFormed_grows _
theorem WellFormed.weirHoldClosedWrite (p : Path) (value : Word) : WellFormed.Statement (.weirHoldClosedWrite p value) := wellFormed_grows _
theorem WellFormed.pcieCfgWrite (p : Path) (n : Nat) (value : Word) : WellFormed.Statement (.pcieCfgWrite p n value) := wellFormed_grows _
theorem WellFormed.pcieLinkUp (n : Nat) (rate : Nat) (width : Nat) (flit : Bool) : WellFormed.Statement (.pcieLinkUp n rate width flit) := wellFormed_grows _
theorem WellFormed.pcieLinkDown (n : Nat) : WellFormed.Statement (.pcieLinkDown n) := wellFormed_grows _
theorem WellFormed.pcieConfigRequest (n : Nat) (r : CfgReq) : WellFormed.Statement (.pcieConfigRequest n r) := wellFormed_grows _
theorem WellFormed.pcieInboundWrite (n : Nat) (bar : Option Nat) (addr : Nat) (bytes : List Byte) (be : BitVec 4) (poison : Bool) : WellFormed.Statement (.pcieInboundWrite n bar addr bytes be poison) := wellFormed_grows _
theorem WellFormed.pcieInboundRead (n : Nat) (bar : Option Nat) (addr : Nat) (len : Nat) : WellFormed.Statement (.pcieInboundRead n bar addr len) := wellFormed_grows _
theorem WellFormed.pcieCompletion (n : Nat) (addr : Nat) (bytes : List Byte) (ok : Bool) : WellFormed.Statement (.pcieCompletion n addr bytes ok) := wellFormed_grows _
theorem WellFormed.pcieCplTimeout (n : Nat) (addr : Nat) : WellFormed.Statement (.pcieCplTimeout n addr) := wellFormed_grows _
theorem WellFormed.ibrImport (p : Path) (slot : Nat) (kek : Nat) : WellFormed.Statement (.ibrImport p slot kek) := wellFormed_grows _
theorem WellFormed.ibrClear (p : Path) (slot : Nat) : WellFormed.Statement (.ibrClear p slot) := wellFormed_grows _
theorem WellFormed.ibrAttest (p : Path) : WellFormed.Statement (.ibrAttest p) := wellFormed_grows _
theorem WellFormed.ibrFuseCust (p : Path) : WellFormed.Statement (.ibrFuseCust p) := wellFormed_grows _
theorem WellFormed.reservedLocationRead (addr : Nat) (bytes : Nat) : WellFormed.Statement (.reservedLocationRead addr bytes) := wellFormed_grows _
theorem WellFormed.corePllRelock (clk : Clk) : WellFormed.Statement (.corePllRelock clk) := wellFormed_grows _
theorem WellFormed.overtemp (sensor : Nat) (value : BitVec 16) : WellFormed.Statement (.overtemp sensor value) := wellFormed_grows _
theorem WellFormed.wearHourCount : WellFormed.Statement .wearHourCount := wellFormed_grows _
theorem WellFormed.cpImgLoadDone (n : Nat) : WellFormed.Statement (.cpImgLoadDone n) := wellFormed_grows _
theorem WellFormed.ibrCommandDone : WellFormed.Statement .ibrCommandDone := wellFormed_grows _
theorem WellFormed.ledgerReadDone : WellFormed.Statement .ledgerReadDone := wellFormed_grows _
theorem WellFormed.i3cTargetResetEnd : WellFormed.Statement .i3cTargetResetEnd := wellFormed_grows _

end Sys2Proof.Laws
end

