-- ==== Sys2Proof/Laws/Tbl.lean ====
section
/-!
SUPPORT. The laws of the sparse tables: a read after a write, and the sorted form that every write keeps; with them the
canonical form of part DRAM.
-/

namespace Sys2Proof.Machine

variable {α : Type}

@[simp] theorem Tbl.get?_set (t : Tbl α) (k j : Nat) (v : α) : Tbl.get? (Tbl.set t k v) j = if j = k then some v else Tbl.get? t j := by
  induction t with
  | nil => simp only [Tbl.set, Tbl.get?, eq_comm]
  | cons x t ih =>
    obtain ⟨i, w⟩ := x
    by_cases e : k = i
    · subst e
      by_cases f : j = k
      · simp [Tbl.set, Tbl.get?, f]
      · simp [Tbl.set, Tbl.get?, f, Ne.symm f]
    · by_cases l : k < i
      · by_cases f : j = k
        · simp [Tbl.set, Tbl.get?, e, l, f]
        · simp [Tbl.set, Tbl.get?, e, l, f, Ne.symm f]
      · simp only [Tbl.set, if_neg e, if_neg l, Tbl.get?]
        by_cases f : i = j
        · rw [if_pos f, if_pos f, if_neg (by omega)]
        · rw [if_neg f, if_neg f, ih]

@[simp] theorem Tbl.getD_set (t : Tbl α) (k j : Nat) (v d : α) : Tbl.getD (Tbl.set t k v) j d = if j = k then v else Tbl.getD t j d := by
  by_cases e : j = k <;> simp [Tbl.getD, e]

@[simp] theorem Tbl.get?_erase (t : Tbl α) (k j : Nat) : Tbl.get? (Tbl.erase t k) j = if j = k then none else Tbl.get? t j := by
  induction t with
  | nil => simp [Tbl.erase, Tbl.get?]
  | cons x t ih =>
    obtain ⟨i, w⟩ := x
    simp only [Tbl.erase] at ih ⊢
    by_cases e : i = k
    · rw [List.filter_cons_of_neg (by simpa using e), ih]
      by_cases f : j = k
      · rw [if_pos f, if_pos f]
      · rw [if_neg f, if_neg f, Tbl.get?, if_neg (by omega)]
    · rw [List.filter_cons_of_pos (by simpa using e), Tbl.get?, ih, Tbl.get?]
      by_cases f : i = j
      · rw [if_pos f, if_pos f, if_neg (by omega)]
      · rw [if_neg f, if_neg f]

theorem Tbl.getD_put [DecidableEq α] (t : Tbl α) (k j : Nat) (v d : α) :
    Tbl.getD (Tbl.put t k v d) j d = if j = k then v else Tbl.getD t j d := by
  by_cases h : v = d
  · by_cases e : j = k <;> simp [Tbl.put, Tbl.getD, h, e]
  · rw [Tbl.put, if_neg h, Tbl.getD_set]

theorem Tbl.mem_set {t : Tbl α} {k : Nat} {v : α} {e : Nat × α} (h : e ∈ Tbl.set t k v) : e = (k, v) ∨ e ∈ t := by
  induction t with
  | nil => simpa [Tbl.set] using h
  | cons x t ih =>
    obtain ⟨j, w⟩ := x
    simp only [Tbl.set] at h
    split at h
    · exact (List.mem_cons.mp h).imp id (List.mem_cons_of_mem _)
    · split at h
      · exact List.mem_cons.mp h
      · exact (List.mem_cons.mp h).elim (fun h => .inr (h ▸ List.mem_cons_self)) fun h => (ih h).imp id (List.mem_cons_of_mem _)

theorem Tbl.set_sorted (t : Tbl α) (k : Nat) (v : α) (h : Tbl.Sorted t) : Tbl.Sorted (Tbl.set t k v) := by
  induction t with
  | nil => simp [Tbl.set]
  | cons x t ih =>
    obtain ⟨j, w⟩ := x
    have hc := List.pairwise_cons.mp h
    simp only [Tbl.set]
    split
    · rename_i e; subst e; exact List.pairwise_cons.mpr hc
    · split
      · rename_i l
        exact List.pairwise_cons.mpr ⟨fun e m => (List.mem_cons.mp m).elim (fun m => m ▸ l) fun m => Nat.lt_trans l (hc.1 e m), h⟩
      · refine List.pairwise_cons.mpr ⟨fun e m => ?_, ih hc.2⟩
        rcases Tbl.mem_set m with m | m
        · subst m; dsimp only; omega
        · exact hc.1 e m

theorem Tbl.erase_sorted (t : Tbl α) (k : Nat) (h : Tbl.Sorted t) : Tbl.Sorted (Tbl.erase t k) := h.filter _

/-- The canonical form of a store: keys rise, and no entry is what an unlisted key reads as. -/
theorem Tbl.put_wf [DecidableEq α] {t : Tbl α} {d : α} (h : Tbl.Sorted t ∧ ∀ c ∈ t, c.2 ≠ d) (k : Nat) (v : α) :
    Tbl.Sorted (Tbl.put t k v d) ∧ ∀ c ∈ Tbl.put t k v d, c.2 ≠ d := by
  unfold Tbl.put
  split
  · exact ⟨Tbl.erase_sorted _ _ h.1, fun c m => h.2 c (List.mem_filter.mp m).1⟩
  · rename_i n
    exact ⟨Tbl.set_sorted _ _ _ h.1, fun c m => (Tbl.mem_set m).elim (fun e => e ▸ n) (h.2 c)⟩

/-- A store of bytes keeps the canonical form of part DRAM. -/
theorem Mem.store_wf (m : Mem) (a : Nat) (l : List Byte) (h : m.wf) : (m.store a l).wf := by
  unfold Mem.store Mem.wf
  generalize l.zipIdx = l
  revert h
  generalize hc : m.cells = c
  intro h
  have h : Tbl.Sorted c ∧ ∀ x ∈ c, x.2 ≠ (0 : Byte) := hc ▸ h
  clear hc
  induction l generalizing c with
  | nil => exact h
  | cons x l ih => exact ih _ (Tbl.put_wf h _ _)

end Sys2Proof.Machine
end

