-- ==== Sys2Proof/Laws/State.lean ====
section
/-!
SUPPORT. What each plain update of the state leaves as it was: one conjunct per field, each a rewriting rule of its own, so that
no proof unfolds a record update; and what each table reads as after a write of one of its entries.
-/

namespace Sys2Proof.Machine

variable (s : State)

@[simp] theorem State.setReg_same (a : Nat) (w : Word) :
    (s.setReg a w).part = s.part ∧ (s.setReg a w).pending = s.pending ∧ (s.setReg a w).free = s.free ∧
    (s.setReg a w).tick = s.tick ∧ (s.setReg a w).dev = s.dev ∧ (s.setReg a w).clk = s.clk ∧ (s.setReg a w).ldg = s.ldg ∧
    (s.setReg a w).shadows = s.shadows ∧ (s.setReg a w).heldLo = s.heldLo ∧ (s.setReg a w).pages = s.pages ∧
    (s.setReg a w).i3c = s.i3c ∧ (s.setReg a w).evq = s.evq ∧ (s.setReg a w).inputs = s.inputs ∧ (s.setReg a w).wcnt = s.wcnt ∧
    (s.setReg a w).waits = s.waits ∧ (s.setReg a w).cfg = s.cfg ∧ (s.setReg a w).mem = s.mem ∧ (s.setReg a w).sites = s.sites ∧
    (s.setReg a w).tb = s.tb ∧ (s.setReg a w).flows = s.flows ∧ (s.setReg a w).gates = s.gates ∧ (s.setReg a w).links = s.links ∧
    (s.setReg a w).stalled = s.stalled ∧ (s.setReg a w).nvmes = s.nvmes ∧ (s.setReg a w).ext = s.ext ∧
    (s.setReg a w).dmas = s.dmas ∧ (s.setReg a w).hop = s.hop ∧ (s.setReg a w).ibr = s.ibr ∧ (s.setReg a w).chans = s.chans ∧
    (s.setReg a w).regload = s.regload ∧ (s.setReg a w).cps = s.cps ∧ (s.setReg a w).pawls = s.pawls ∧
    (s.setReg a w).sessions = s.sessions ∧ (s.setReg a w).lmap = s.lmap ∧ (s.setReg a w).noStone = s.noStone ∧
    (s.setReg a w).stones = s.stones ∧ (s.setReg a w).bolters = s.bolters ∧ (s.setReg a w).ckpts = s.ckpts ∧
    (s.setReg a w).refs = s.refs ∧ (s.setReg a w).leat = s.leat ∧ (s.setReg a w).net = s.net ∧ (s.setReg a w).decs = s.decs ∧
    (s.setReg a w).pipes = s.pipes ∧ (s.setReg a w).runners = s.runners ∧ (s.setReg a w).out = s.out :=
  ⟨rfl, rfl, rfl, rfl, rfl, rfl, rfl, rfl, rfl, rfl, rfl, rfl, rfl, rfl, rfl, rfl, rfl, rfl, rfl, rfl, rfl, rfl, rfl, rfl, rfl, rfl, rfl, rfl, rfl, rfl, rfl, rfl, rfl, rfl, rfl, rfl, rfl, rfl, rfl, rfl, rfl, rfl, rfl, rfl, rfl⟩

@[simp] theorem State.reg_setReg (a j : Nat) (w : Word) : (s.setReg a w).reg j = if j = a then w else s.reg j :=
  Tbl.getD_set _ _ _ _ _

@[simp] theorem State.setPg_same (o : Nat) (h : PageHdr) :
    (s.setPg o h).part = s.part ∧ (s.setPg o h).pending = s.pending ∧ (s.setPg o h).free = s.free ∧ (s.setPg o h).tick = s.tick ∧
    (s.setPg o h).dev = s.dev ∧ (s.setPg o h).clk = s.clk ∧ (s.setPg o h).ldg = s.ldg ∧ (s.setPg o h).regs = s.regs ∧
    (s.setPg o h).shadows = s.shadows ∧ (s.setPg o h).heldLo = s.heldLo ∧ (s.setPg o h).i3c = s.i3c ∧ (s.setPg o h).evq = s.evq ∧
    (s.setPg o h).inputs = s.inputs ∧ (s.setPg o h).wcnt = s.wcnt ∧ (s.setPg o h).waits = s.waits ∧ (s.setPg o h).cfg = s.cfg ∧
    (s.setPg o h).mem = s.mem ∧ (s.setPg o h).sites = s.sites ∧ (s.setPg o h).tb = s.tb ∧ (s.setPg o h).flows = s.flows ∧
    (s.setPg o h).gates = s.gates ∧ (s.setPg o h).links = s.links ∧ (s.setPg o h).stalled = s.stalled ∧
    (s.setPg o h).nvmes = s.nvmes ∧ (s.setPg o h).ext = s.ext ∧ (s.setPg o h).dmas = s.dmas ∧ (s.setPg o h).hop = s.hop ∧
    (s.setPg o h).ibr = s.ibr ∧ (s.setPg o h).chans = s.chans ∧ (s.setPg o h).regload = s.regload ∧ (s.setPg o h).cps = s.cps ∧
    (s.setPg o h).pawls = s.pawls ∧ (s.setPg o h).sessions = s.sessions ∧ (s.setPg o h).lmap = s.lmap ∧
    (s.setPg o h).noStone = s.noStone ∧ (s.setPg o h).stones = s.stones ∧ (s.setPg o h).bolters = s.bolters ∧
    (s.setPg o h).ckpts = s.ckpts ∧ (s.setPg o h).refs = s.refs ∧ (s.setPg o h).leat = s.leat ∧ (s.setPg o h).net = s.net ∧
    (s.setPg o h).decs = s.decs ∧ (s.setPg o h).pipes = s.pipes ∧ (s.setPg o h).runners = s.runners ∧ (s.setPg o h).out = s.out :=
  ⟨rfl, rfl, rfl, rfl, rfl, rfl, rfl, rfl, rfl, rfl, rfl, rfl, rfl, rfl, rfl, rfl, rfl, rfl, rfl, rfl, rfl, rfl, rfl, rfl, rfl, rfl, rfl, rfl, rfl, rfl, rfl, rfl, rfl, rfl, rfl, rfl, rfl, rfl, rfl, rfl, rfl, rfl, rfl, rfl, rfl⟩

@[simp] theorem State.pg_setPg (o j : Nat) (h : PageHdr) : (s.setPg o h).pg j = if j = o then h else s.pg j :=
  Tbl.getD_set _ _ _ _ _

@[simp] theorem State.setSite_same (n : Nat) (x : Site) :
    (s.setSite n x).part = s.part ∧ (s.setSite n x).pending = s.pending ∧ (s.setSite n x).free = s.free ∧
    (s.setSite n x).tick = s.tick ∧ (s.setSite n x).dev = s.dev ∧ (s.setSite n x).clk = s.clk ∧ (s.setSite n x).ldg = s.ldg ∧
    (s.setSite n x).regs = s.regs ∧ (s.setSite n x).shadows = s.shadows ∧ (s.setSite n x).heldLo = s.heldLo ∧
    (s.setSite n x).pages = s.pages ∧ (s.setSite n x).i3c = s.i3c ∧ (s.setSite n x).evq = s.evq ∧
    (s.setSite n x).inputs = s.inputs ∧ (s.setSite n x).wcnt = s.wcnt ∧ (s.setSite n x).waits = s.waits ∧
    (s.setSite n x).cfg = s.cfg ∧ (s.setSite n x).mem = s.mem ∧ (s.setSite n x).tb = s.tb ∧ (s.setSite n x).flows = s.flows ∧
    (s.setSite n x).gates = s.gates ∧ (s.setSite n x).links = s.links ∧ (s.setSite n x).stalled = s.stalled ∧
    (s.setSite n x).nvmes = s.nvmes ∧ (s.setSite n x).ext = s.ext ∧ (s.setSite n x).dmas = s.dmas ∧ (s.setSite n x).hop = s.hop ∧
    (s.setSite n x).ibr = s.ibr ∧ (s.setSite n x).chans = s.chans ∧ (s.setSite n x).regload = s.regload ∧
    (s.setSite n x).cps = s.cps ∧ (s.setSite n x).pawls = s.pawls ∧ (s.setSite n x).sessions = s.sessions ∧
    (s.setSite n x).lmap = s.lmap ∧ (s.setSite n x).noStone = s.noStone ∧ (s.setSite n x).stones = s.stones ∧
    (s.setSite n x).bolters = s.bolters ∧ (s.setSite n x).ckpts = s.ckpts ∧ (s.setSite n x).refs = s.refs ∧
    (s.setSite n x).leat = s.leat ∧ (s.setSite n x).net = s.net ∧ (s.setSite n x).decs = s.decs ∧
    (s.setSite n x).pipes = s.pipes ∧ (s.setSite n x).runners = s.runners ∧ (s.setSite n x).out = s.out :=
  ⟨rfl, rfl, rfl, rfl, rfl, rfl, rfl, rfl, rfl, rfl, rfl, rfl, rfl, rfl, rfl, rfl, rfl, rfl, rfl, rfl, rfl, rfl, rfl, rfl, rfl, rfl, rfl, rfl, rfl, rfl, rfl, rfl, rfl, rfl, rfl, rfl, rfl, rfl, rfl, rfl, rfl, rfl, rfl, rfl, rfl⟩

@[simp] theorem State.site_setSite (n j : Nat) (x : Site) : (s.setSite n x).site j = if j = n then x else s.site j :=
  Tbl.getD_set _ _ _ _ _

@[simp] theorem State.setLink_same (n : Nat) (x : Link) :
    (s.setLink n x).part = s.part ∧ (s.setLink n x).pending = s.pending ∧ (s.setLink n x).free = s.free ∧
    (s.setLink n x).tick = s.tick ∧ (s.setLink n x).dev = s.dev ∧ (s.setLink n x).clk = s.clk ∧ (s.setLink n x).ldg = s.ldg ∧
    (s.setLink n x).regs = s.regs ∧ (s.setLink n x).shadows = s.shadows ∧ (s.setLink n x).heldLo = s.heldLo ∧
    (s.setLink n x).pages = s.pages ∧ (s.setLink n x).i3c = s.i3c ∧ (s.setLink n x).evq = s.evq ∧
    (s.setLink n x).inputs = s.inputs ∧ (s.setLink n x).wcnt = s.wcnt ∧ (s.setLink n x).waits = s.waits ∧
    (s.setLink n x).cfg = s.cfg ∧ (s.setLink n x).mem = s.mem ∧ (s.setLink n x).sites = s.sites ∧ (s.setLink n x).tb = s.tb ∧
    (s.setLink n x).flows = s.flows ∧ (s.setLink n x).gates = s.gates ∧ (s.setLink n x).stalled = s.stalled ∧
    (s.setLink n x).nvmes = s.nvmes ∧ (s.setLink n x).ext = s.ext ∧ (s.setLink n x).dmas = s.dmas ∧ (s.setLink n x).hop = s.hop ∧
    (s.setLink n x).ibr = s.ibr ∧ (s.setLink n x).chans = s.chans ∧ (s.setLink n x).regload = s.regload ∧
    (s.setLink n x).cps = s.cps ∧ (s.setLink n x).pawls = s.pawls ∧ (s.setLink n x).sessions = s.sessions ∧
    (s.setLink n x).lmap = s.lmap ∧ (s.setLink n x).noStone = s.noStone ∧ (s.setLink n x).stones = s.stones ∧
    (s.setLink n x).bolters = s.bolters ∧ (s.setLink n x).ckpts = s.ckpts ∧ (s.setLink n x).refs = s.refs ∧
    (s.setLink n x).leat = s.leat ∧ (s.setLink n x).net = s.net ∧ (s.setLink n x).decs = s.decs ∧
    (s.setLink n x).pipes = s.pipes ∧ (s.setLink n x).runners = s.runners ∧ (s.setLink n x).out = s.out :=
  ⟨rfl, rfl, rfl, rfl, rfl, rfl, rfl, rfl, rfl, rfl, rfl, rfl, rfl, rfl, rfl, rfl, rfl, rfl, rfl, rfl, rfl, rfl, rfl, rfl, rfl, rfl, rfl, rfl, rfl, rfl, rfl, rfl, rfl, rfl, rfl, rfl, rfl, rfl, rfl, rfl, rfl, rfl, rfl, rfl, rfl⟩

@[simp] theorem State.link_setLink (n j : Nat) (x : Link) : (s.setLink n x).link j = if j = n then x else s.link j :=
  Tbl.getD_set _ _ _ _ _

@[simp] theorem State.setNvme_same (n : Nat) (x : Nvme) :
    (s.setNvme n x).part = s.part ∧ (s.setNvme n x).pending = s.pending ∧ (s.setNvme n x).free = s.free ∧
    (s.setNvme n x).tick = s.tick ∧ (s.setNvme n x).dev = s.dev ∧ (s.setNvme n x).clk = s.clk ∧ (s.setNvme n x).ldg = s.ldg ∧
    (s.setNvme n x).regs = s.regs ∧ (s.setNvme n x).shadows = s.shadows ∧ (s.setNvme n x).heldLo = s.heldLo ∧
    (s.setNvme n x).pages = s.pages ∧ (s.setNvme n x).i3c = s.i3c ∧ (s.setNvme n x).evq = s.evq ∧
    (s.setNvme n x).inputs = s.inputs ∧ (s.setNvme n x).wcnt = s.wcnt ∧ (s.setNvme n x).waits = s.waits ∧
    (s.setNvme n x).cfg = s.cfg ∧ (s.setNvme n x).mem = s.mem ∧ (s.setNvme n x).sites = s.sites ∧ (s.setNvme n x).tb = s.tb ∧
    (s.setNvme n x).flows = s.flows ∧ (s.setNvme n x).gates = s.gates ∧ (s.setNvme n x).links = s.links ∧
    (s.setNvme n x).stalled = s.stalled ∧ (s.setNvme n x).ext = s.ext ∧ (s.setNvme n x).dmas = s.dmas ∧
    (s.setNvme n x).hop = s.hop ∧ (s.setNvme n x).ibr = s.ibr ∧ (s.setNvme n x).chans = s.chans ∧
    (s.setNvme n x).regload = s.regload ∧ (s.setNvme n x).cps = s.cps ∧ (s.setNvme n x).pawls = s.pawls ∧
    (s.setNvme n x).sessions = s.sessions ∧ (s.setNvme n x).lmap = s.lmap ∧ (s.setNvme n x).noStone = s.noStone ∧
    (s.setNvme n x).stones = s.stones ∧ (s.setNvme n x).bolters = s.bolters ∧ (s.setNvme n x).ckpts = s.ckpts ∧
    (s.setNvme n x).refs = s.refs ∧ (s.setNvme n x).leat = s.leat ∧ (s.setNvme n x).net = s.net ∧ (s.setNvme n x).decs = s.decs ∧
    (s.setNvme n x).pipes = s.pipes ∧ (s.setNvme n x).runners = s.runners ∧ (s.setNvme n x).out = s.out :=
  ⟨rfl, rfl, rfl, rfl, rfl, rfl, rfl, rfl, rfl, rfl, rfl, rfl, rfl, rfl, rfl, rfl, rfl, rfl, rfl, rfl, rfl, rfl, rfl, rfl, rfl, rfl, rfl, rfl, rfl, rfl, rfl, rfl, rfl, rfl, rfl, rfl, rfl, rfl, rfl, rfl, rfl, rfl, rfl, rfl, rfl⟩

@[simp] theorem State.nvme_setNvme (n j : Nat) (x : Nvme) : (s.setNvme n x).nvme j = if j = n then x else s.nvme j :=
  Tbl.getD_set _ _ _ _ _

@[simp] theorem State.setDma_same (n : Nat) (x : Dma) :
    (s.setDma n x).part = s.part ∧ (s.setDma n x).pending = s.pending ∧ (s.setDma n x).free = s.free ∧
    (s.setDma n x).tick = s.tick ∧ (s.setDma n x).dev = s.dev ∧ (s.setDma n x).clk = s.clk ∧ (s.setDma n x).ldg = s.ldg ∧
    (s.setDma n x).regs = s.regs ∧ (s.setDma n x).shadows = s.shadows ∧ (s.setDma n x).heldLo = s.heldLo ∧
    (s.setDma n x).pages = s.pages ∧ (s.setDma n x).i3c = s.i3c ∧ (s.setDma n x).evq = s.evq ∧ (s.setDma n x).inputs = s.inputs ∧
    (s.setDma n x).wcnt = s.wcnt ∧ (s.setDma n x).waits = s.waits ∧ (s.setDma n x).cfg = s.cfg ∧ (s.setDma n x).mem = s.mem ∧
    (s.setDma n x).sites = s.sites ∧ (s.setDma n x).tb = s.tb ∧ (s.setDma n x).flows = s.flows ∧ (s.setDma n x).gates = s.gates ∧
    (s.setDma n x).links = s.links ∧ (s.setDma n x).stalled = s.stalled ∧ (s.setDma n x).nvmes = s.nvmes ∧
    (s.setDma n x).ext = s.ext ∧ (s.setDma n x).hop = s.hop ∧ (s.setDma n x).ibr = s.ibr ∧ (s.setDma n x).chans = s.chans ∧
    (s.setDma n x).regload = s.regload ∧ (s.setDma n x).cps = s.cps ∧ (s.setDma n x).pawls = s.pawls ∧
    (s.setDma n x).sessions = s.sessions ∧ (s.setDma n x).lmap = s.lmap ∧ (s.setDma n x).noStone = s.noStone ∧
    (s.setDma n x).stones = s.stones ∧ (s.setDma n x).bolters = s.bolters ∧ (s.setDma n x).ckpts = s.ckpts ∧
    (s.setDma n x).refs = s.refs ∧ (s.setDma n x).leat = s.leat ∧ (s.setDma n x).net = s.net ∧ (s.setDma n x).decs = s.decs ∧
    (s.setDma n x).pipes = s.pipes ∧ (s.setDma n x).runners = s.runners ∧ (s.setDma n x).out = s.out :=
  ⟨rfl, rfl, rfl, rfl, rfl, rfl, rfl, rfl, rfl, rfl, rfl, rfl, rfl, rfl, rfl, rfl, rfl, rfl, rfl, rfl, rfl, rfl, rfl, rfl, rfl, rfl, rfl, rfl, rfl, rfl, rfl, rfl, rfl, rfl, rfl, rfl, rfl, rfl, rfl, rfl, rfl, rfl, rfl, rfl, rfl⟩

@[simp] theorem State.dma_setDma (n j : Nat) (x : Dma) : (s.setDma n x).dma j = if j = n then x else s.dma j :=
  Tbl.getD_set _ _ _ _ _

@[simp] theorem State.setPool_same (p : Nat) (x : Pool) :
    (s.setPool p x).part = s.part ∧ (s.setPool p x).pending = s.pending ∧ (s.setPool p x).free = s.free ∧
    (s.setPool p x).tick = s.tick ∧ (s.setPool p x).dev = s.dev ∧ (s.setPool p x).clk = s.clk ∧ (s.setPool p x).ldg = s.ldg ∧
    (s.setPool p x).regs = s.regs ∧ (s.setPool p x).shadows = s.shadows ∧ (s.setPool p x).heldLo = s.heldLo ∧
    (s.setPool p x).pages = s.pages ∧ (s.setPool p x).i3c = s.i3c ∧ (s.setPool p x).evq = s.evq ∧
    (s.setPool p x).inputs = s.inputs ∧ (s.setPool p x).wcnt = s.wcnt ∧ (s.setPool p x).waits = s.waits ∧
    (s.setPool p x).cfg = s.cfg ∧ (s.setPool p x).mem = s.mem ∧ (s.setPool p x).sites = s.sites ∧ (s.setPool p x).tb = s.tb ∧
    (s.setPool p x).flows = s.flows ∧ (s.setPool p x).gates = s.gates ∧ (s.setPool p x).links = s.links ∧
    (s.setPool p x).stalled = s.stalled ∧ (s.setPool p x).nvmes = s.nvmes ∧ (s.setPool p x).ext = s.ext ∧
    (s.setPool p x).dmas = s.dmas ∧ (s.setPool p x).ibr = s.ibr ∧ (s.setPool p x).chans = s.chans ∧
    (s.setPool p x).regload = s.regload ∧ (s.setPool p x).cps = s.cps ∧ (s.setPool p x).pawls = s.pawls ∧
    (s.setPool p x).sessions = s.sessions ∧ (s.setPool p x).lmap = s.lmap ∧ (s.setPool p x).noStone = s.noStone ∧
    (s.setPool p x).stones = s.stones ∧ (s.setPool p x).bolters = s.bolters ∧ (s.setPool p x).ckpts = s.ckpts ∧
    (s.setPool p x).refs = s.refs ∧ (s.setPool p x).leat = s.leat ∧ (s.setPool p x).net = s.net ∧ (s.setPool p x).decs = s.decs ∧
    (s.setPool p x).pipes = s.pipes ∧ (s.setPool p x).runners = s.runners ∧ (s.setPool p x).out = s.out :=
  ⟨rfl, rfl, rfl, rfl, rfl, rfl, rfl, rfl, rfl, rfl, rfl, rfl, rfl, rfl, rfl, rfl, rfl, rfl, rfl, rfl, rfl, rfl, rfl, rfl, rfl, rfl, rfl, rfl, rfl, rfl, rfl, rfl, rfl, rfl, rfl, rfl, rfl, rfl, rfl, rfl, rfl, rfl, rfl, rfl, rfl⟩

@[simp] theorem State.pool_setPool (p j : Nat) (x : Pool) : (s.setPool p x).pool j = if j = p then x else s.pool j :=
  Tbl.getD_set _ _ _ _ _

@[simp] theorem State.setSlot_same (n : Nat) (x : KeySlot) :
    (s.setSlot n x).part = s.part ∧ (s.setSlot n x).pending = s.pending ∧ (s.setSlot n x).free = s.free ∧
    (s.setSlot n x).tick = s.tick ∧ (s.setSlot n x).dev = s.dev ∧ (s.setSlot n x).clk = s.clk ∧ (s.setSlot n x).ldg = s.ldg ∧
    (s.setSlot n x).regs = s.regs ∧ (s.setSlot n x).shadows = s.shadows ∧ (s.setSlot n x).heldLo = s.heldLo ∧
    (s.setSlot n x).pages = s.pages ∧ (s.setSlot n x).i3c = s.i3c ∧ (s.setSlot n x).evq = s.evq ∧
    (s.setSlot n x).inputs = s.inputs ∧ (s.setSlot n x).wcnt = s.wcnt ∧ (s.setSlot n x).waits = s.waits ∧
    (s.setSlot n x).cfg = s.cfg ∧ (s.setSlot n x).mem = s.mem ∧ (s.setSlot n x).sites = s.sites ∧ (s.setSlot n x).tb = s.tb ∧
    (s.setSlot n x).flows = s.flows ∧ (s.setSlot n x).gates = s.gates ∧ (s.setSlot n x).links = s.links ∧
    (s.setSlot n x).stalled = s.stalled ∧ (s.setSlot n x).nvmes = s.nvmes ∧ (s.setSlot n x).ext = s.ext ∧
    (s.setSlot n x).dmas = s.dmas ∧ (s.setSlot n x).hop = s.hop ∧ (s.setSlot n x).chans = s.chans ∧
    (s.setSlot n x).regload = s.regload ∧ (s.setSlot n x).cps = s.cps ∧ (s.setSlot n x).pawls = s.pawls ∧
    (s.setSlot n x).sessions = s.sessions ∧ (s.setSlot n x).lmap = s.lmap ∧ (s.setSlot n x).noStone = s.noStone ∧
    (s.setSlot n x).stones = s.stones ∧ (s.setSlot n x).bolters = s.bolters ∧ (s.setSlot n x).ckpts = s.ckpts ∧
    (s.setSlot n x).refs = s.refs ∧ (s.setSlot n x).leat = s.leat ∧ (s.setSlot n x).net = s.net ∧ (s.setSlot n x).decs = s.decs ∧
    (s.setSlot n x).pipes = s.pipes ∧ (s.setSlot n x).runners = s.runners ∧ (s.setSlot n x).out = s.out :=
  ⟨rfl, rfl, rfl, rfl, rfl, rfl, rfl, rfl, rfl, rfl, rfl, rfl, rfl, rfl, rfl, rfl, rfl, rfl, rfl, rfl, rfl, rfl, rfl, rfl, rfl, rfl, rfl, rfl, rfl, rfl, rfl, rfl, rfl, rfl, rfl, rfl, rfl, rfl, rfl, rfl, rfl, rfl, rfl, rfl, rfl⟩

@[simp] theorem State.slot_setSlot (n j : Nat) (x : KeySlot) : (s.setSlot n x).slot j = if j = n then x else s.slot j :=
  Tbl.getD_set _ _ _ _ _

@[simp] theorem State.setChan_same (c : Nat) (x : Chan) :
    (s.setChan c x).part = s.part ∧ (s.setChan c x).pending = s.pending ∧ (s.setChan c x).free = s.free ∧
    (s.setChan c x).tick = s.tick ∧ (s.setChan c x).dev = s.dev ∧ (s.setChan c x).clk = s.clk ∧ (s.setChan c x).ldg = s.ldg ∧
    (s.setChan c x).regs = s.regs ∧ (s.setChan c x).shadows = s.shadows ∧ (s.setChan c x).heldLo = s.heldLo ∧
    (s.setChan c x).pages = s.pages ∧ (s.setChan c x).i3c = s.i3c ∧ (s.setChan c x).evq = s.evq ∧
    (s.setChan c x).inputs = s.inputs ∧ (s.setChan c x).wcnt = s.wcnt ∧ (s.setChan c x).waits = s.waits ∧
    (s.setChan c x).cfg = s.cfg ∧ (s.setChan c x).mem = s.mem ∧ (s.setChan c x).sites = s.sites ∧ (s.setChan c x).tb = s.tb ∧
    (s.setChan c x).flows = s.flows ∧ (s.setChan c x).gates = s.gates ∧ (s.setChan c x).links = s.links ∧
    (s.setChan c x).stalled = s.stalled ∧ (s.setChan c x).nvmes = s.nvmes ∧ (s.setChan c x).ext = s.ext ∧
    (s.setChan c x).dmas = s.dmas ∧ (s.setChan c x).hop = s.hop ∧ (s.setChan c x).ibr = s.ibr ∧
    (s.setChan c x).regload = s.regload ∧ (s.setChan c x).cps = s.cps ∧ (s.setChan c x).pawls = s.pawls ∧
    (s.setChan c x).sessions = s.sessions ∧ (s.setChan c x).lmap = s.lmap ∧ (s.setChan c x).noStone = s.noStone ∧
    (s.setChan c x).stones = s.stones ∧ (s.setChan c x).bolters = s.bolters ∧ (s.setChan c x).ckpts = s.ckpts ∧
    (s.setChan c x).refs = s.refs ∧ (s.setChan c x).leat = s.leat ∧ (s.setChan c x).net = s.net ∧ (s.setChan c x).decs = s.decs ∧
    (s.setChan c x).pipes = s.pipes ∧ (s.setChan c x).runners = s.runners ∧ (s.setChan c x).out = s.out :=
  ⟨rfl, rfl, rfl, rfl, rfl, rfl, rfl, rfl, rfl, rfl, rfl, rfl, rfl, rfl, rfl, rfl, rfl, rfl, rfl, rfl, rfl, rfl, rfl, rfl, rfl, rfl, rfl, rfl, rfl, rfl, rfl, rfl, rfl, rfl, rfl, rfl, rfl, rfl, rfl, rfl, rfl, rfl, rfl, rfl, rfl⟩

@[simp] theorem State.chan_setChan (c j : Nat) (x : Chan) : (s.setChan c x).chan j = if j = c then x else s.chan j :=
  Tbl.getD_set _ _ _ _ _

@[simp] theorem State.setCp_same (n : Nat) (x : Cp) :
    (s.setCp n x).part = s.part ∧ (s.setCp n x).pending = s.pending ∧ (s.setCp n x).free = s.free ∧ (s.setCp n x).tick = s.tick ∧
    (s.setCp n x).dev = s.dev ∧ (s.setCp n x).clk = s.clk ∧ (s.setCp n x).ldg = s.ldg ∧ (s.setCp n x).regs = s.regs ∧
    (s.setCp n x).shadows = s.shadows ∧ (s.setCp n x).heldLo = s.heldLo ∧ (s.setCp n x).pages = s.pages ∧
    (s.setCp n x).i3c = s.i3c ∧ (s.setCp n x).evq = s.evq ∧ (s.setCp n x).inputs = s.inputs ∧ (s.setCp n x).wcnt = s.wcnt ∧
    (s.setCp n x).waits = s.waits ∧ (s.setCp n x).cfg = s.cfg ∧ (s.setCp n x).mem = s.mem ∧ (s.setCp n x).sites = s.sites ∧
    (s.setCp n x).tb = s.tb ∧ (s.setCp n x).flows = s.flows ∧ (s.setCp n x).gates = s.gates ∧ (s.setCp n x).links = s.links ∧
    (s.setCp n x).stalled = s.stalled ∧ (s.setCp n x).nvmes = s.nvmes ∧ (s.setCp n x).ext = s.ext ∧ (s.setCp n x).dmas = s.dmas ∧
    (s.setCp n x).hop = s.hop ∧ (s.setCp n x).ibr = s.ibr ∧ (s.setCp n x).chans = s.chans ∧ (s.setCp n x).regload = s.regload ∧
    (s.setCp n x).pawls = s.pawls ∧ (s.setCp n x).sessions = s.sessions ∧ (s.setCp n x).lmap = s.lmap ∧
    (s.setCp n x).noStone = s.noStone ∧ (s.setCp n x).stones = s.stones ∧ (s.setCp n x).bolters = s.bolters ∧
    (s.setCp n x).ckpts = s.ckpts ∧ (s.setCp n x).refs = s.refs ∧ (s.setCp n x).leat = s.leat ∧ (s.setCp n x).net = s.net ∧
    (s.setCp n x).decs = s.decs ∧ (s.setCp n x).pipes = s.pipes ∧ (s.setCp n x).runners = s.runners ∧ (s.setCp n x).out = s.out :=
  ⟨rfl, rfl, rfl, rfl, rfl, rfl, rfl, rfl, rfl, rfl, rfl, rfl, rfl, rfl, rfl, rfl, rfl, rfl, rfl, rfl, rfl, rfl, rfl, rfl, rfl, rfl, rfl, rfl, rfl, rfl, rfl, rfl, rfl, rfl, rfl, rfl, rfl, rfl, rfl, rfl, rfl, rfl, rfl, rfl, rfl⟩

@[simp] theorem State.cp_setCp (n j : Nat) (x : Cp) : (s.setCp n x).cp j = if j = n then x else s.cp j :=
  Tbl.getD_set _ _ _ _ _

@[simp] theorem State.setPawl_same (n : Nat) (x : Pawl) :
    (s.setPawl n x).part = s.part ∧ (s.setPawl n x).pending = s.pending ∧ (s.setPawl n x).free = s.free ∧
    (s.setPawl n x).tick = s.tick ∧ (s.setPawl n x).dev = s.dev ∧ (s.setPawl n x).clk = s.clk ∧ (s.setPawl n x).ldg = s.ldg ∧
    (s.setPawl n x).regs = s.regs ∧ (s.setPawl n x).shadows = s.shadows ∧ (s.setPawl n x).heldLo = s.heldLo ∧
    (s.setPawl n x).pages = s.pages ∧ (s.setPawl n x).i3c = s.i3c ∧ (s.setPawl n x).evq = s.evq ∧
    (s.setPawl n x).inputs = s.inputs ∧ (s.setPawl n x).wcnt = s.wcnt ∧ (s.setPawl n x).waits = s.waits ∧
    (s.setPawl n x).cfg = s.cfg ∧ (s.setPawl n x).mem = s.mem ∧ (s.setPawl n x).sites = s.sites ∧ (s.setPawl n x).tb = s.tb ∧
    (s.setPawl n x).flows = s.flows ∧ (s.setPawl n x).gates = s.gates ∧ (s.setPawl n x).links = s.links ∧
    (s.setPawl n x).stalled = s.stalled ∧ (s.setPawl n x).nvmes = s.nvmes ∧ (s.setPawl n x).ext = s.ext ∧
    (s.setPawl n x).dmas = s.dmas ∧ (s.setPawl n x).hop = s.hop ∧ (s.setPawl n x).ibr = s.ibr ∧ (s.setPawl n x).chans = s.chans ∧
    (s.setPawl n x).regload = s.regload ∧ (s.setPawl n x).cps = s.cps ∧ (s.setPawl n x).sessions = s.sessions ∧
    (s.setPawl n x).lmap = s.lmap ∧ (s.setPawl n x).noStone = s.noStone ∧ (s.setPawl n x).stones = s.stones ∧
    (s.setPawl n x).bolters = s.bolters ∧ (s.setPawl n x).ckpts = s.ckpts ∧ (s.setPawl n x).refs = s.refs ∧
    (s.setPawl n x).leat = s.leat ∧ (s.setPawl n x).net = s.net ∧ (s.setPawl n x).decs = s.decs ∧
    (s.setPawl n x).pipes = s.pipes ∧ (s.setPawl n x).runners = s.runners ∧ (s.setPawl n x).out = s.out :=
  ⟨rfl, rfl, rfl, rfl, rfl, rfl, rfl, rfl, rfl, rfl, rfl, rfl, rfl, rfl, rfl, rfl, rfl, rfl, rfl, rfl, rfl, rfl, rfl, rfl, rfl, rfl, rfl, rfl, rfl, rfl, rfl, rfl, rfl, rfl, rfl, rfl, rfl, rfl, rfl, rfl, rfl, rfl, rfl, rfl, rfl⟩

@[simp] theorem State.pawl_setPawl (n j : Nat) (x : Pawl) : (s.setPawl n x).pawl j = if j = n then x else s.pawl j :=
  Tbl.getD_set _ _ _ _ _

@[simp] theorem State.setGate_same (p : Nat) (x : Gate) :
    (s.setGate p x).part = s.part ∧ (s.setGate p x).pending = s.pending ∧ (s.setGate p x).free = s.free ∧
    (s.setGate p x).tick = s.tick ∧ (s.setGate p x).dev = s.dev ∧ (s.setGate p x).clk = s.clk ∧ (s.setGate p x).ldg = s.ldg ∧
    (s.setGate p x).regs = s.regs ∧ (s.setGate p x).shadows = s.shadows ∧ (s.setGate p x).heldLo = s.heldLo ∧
    (s.setGate p x).pages = s.pages ∧ (s.setGate p x).i3c = s.i3c ∧ (s.setGate p x).evq = s.evq ∧
    (s.setGate p x).inputs = s.inputs ∧ (s.setGate p x).wcnt = s.wcnt ∧ (s.setGate p x).waits = s.waits ∧
    (s.setGate p x).cfg = s.cfg ∧ (s.setGate p x).mem = s.mem ∧ (s.setGate p x).sites = s.sites ∧ (s.setGate p x).tb = s.tb ∧
    (s.setGate p x).flows = s.flows ∧ (s.setGate p x).links = s.links ∧ (s.setGate p x).stalled = s.stalled ∧
    (s.setGate p x).nvmes = s.nvmes ∧ (s.setGate p x).ext = s.ext ∧ (s.setGate p x).dmas = s.dmas ∧ (s.setGate p x).hop = s.hop ∧
    (s.setGate p x).ibr = s.ibr ∧ (s.setGate p x).chans = s.chans ∧ (s.setGate p x).regload = s.regload ∧
    (s.setGate p x).cps = s.cps ∧ (s.setGate p x).pawls = s.pawls ∧ (s.setGate p x).sessions = s.sessions ∧
    (s.setGate p x).lmap = s.lmap ∧ (s.setGate p x).noStone = s.noStone ∧ (s.setGate p x).stones = s.stones ∧
    (s.setGate p x).bolters = s.bolters ∧ (s.setGate p x).ckpts = s.ckpts ∧ (s.setGate p x).refs = s.refs ∧
    (s.setGate p x).leat = s.leat ∧ (s.setGate p x).net = s.net ∧ (s.setGate p x).decs = s.decs ∧
    (s.setGate p x).pipes = s.pipes ∧ (s.setGate p x).runners = s.runners ∧ (s.setGate p x).out = s.out :=
  ⟨rfl, rfl, rfl, rfl, rfl, rfl, rfl, rfl, rfl, rfl, rfl, rfl, rfl, rfl, rfl, rfl, rfl, rfl, rfl, rfl, rfl, rfl, rfl, rfl, rfl, rfl, rfl, rfl, rfl, rfl, rfl, rfl, rfl, rfl, rfl, rfl, rfl, rfl, rfl, rfl, rfl, rfl, rfl, rfl, rfl⟩

@[simp] theorem State.gate_setGate (p j : Nat) (x : Gate) : (s.setGate p x).gate j = if j = p then x else s.gate j :=
  Tbl.getD_set _ _ _ _ _

@[simp] theorem State.setSes_same (n : Nat) (x : Ses) :
    (s.setSes n x).part = s.part ∧ (s.setSes n x).pending = s.pending ∧ (s.setSes n x).free = s.free ∧
    (s.setSes n x).tick = s.tick ∧ (s.setSes n x).dev = s.dev ∧ (s.setSes n x).clk = s.clk ∧ (s.setSes n x).ldg = s.ldg ∧
    (s.setSes n x).regs = s.regs ∧ (s.setSes n x).shadows = s.shadows ∧ (s.setSes n x).heldLo = s.heldLo ∧
    (s.setSes n x).pages = s.pages ∧ (s.setSes n x).i3c = s.i3c ∧ (s.setSes n x).evq = s.evq ∧ (s.setSes n x).inputs = s.inputs ∧
    (s.setSes n x).wcnt = s.wcnt ∧ (s.setSes n x).waits = s.waits ∧ (s.setSes n x).cfg = s.cfg ∧ (s.setSes n x).mem = s.mem ∧
    (s.setSes n x).sites = s.sites ∧ (s.setSes n x).tb = s.tb ∧ (s.setSes n x).flows = s.flows ∧ (s.setSes n x).gates = s.gates ∧
    (s.setSes n x).links = s.links ∧ (s.setSes n x).stalled = s.stalled ∧ (s.setSes n x).nvmes = s.nvmes ∧
    (s.setSes n x).ext = s.ext ∧ (s.setSes n x).dmas = s.dmas ∧ (s.setSes n x).hop = s.hop ∧ (s.setSes n x).ibr = s.ibr ∧
    (s.setSes n x).chans = s.chans ∧ (s.setSes n x).regload = s.regload ∧ (s.setSes n x).cps = s.cps ∧
    (s.setSes n x).pawls = s.pawls ∧ (s.setSes n x).lmap = s.lmap ∧ (s.setSes n x).noStone = s.noStone ∧
    (s.setSes n x).stones = s.stones ∧ (s.setSes n x).bolters = s.bolters ∧ (s.setSes n x).ckpts = s.ckpts ∧
    (s.setSes n x).refs = s.refs ∧ (s.setSes n x).leat = s.leat ∧ (s.setSes n x).net = s.net ∧ (s.setSes n x).decs = s.decs ∧
    (s.setSes n x).pipes = s.pipes ∧ (s.setSes n x).runners = s.runners ∧ (s.setSes n x).out = s.out :=
  ⟨rfl, rfl, rfl, rfl, rfl, rfl, rfl, rfl, rfl, rfl, rfl, rfl, rfl, rfl, rfl, rfl, rfl, rfl, rfl, rfl, rfl, rfl, rfl, rfl, rfl, rfl, rfl, rfl, rfl, rfl, rfl, rfl, rfl, rfl, rfl, rfl, rfl, rfl, rfl, rfl, rfl, rfl, rfl, rfl, rfl⟩

@[simp] theorem State.ses_setSes (n j : Nat) (x : Ses) : (s.setSes n x).ses j = if j = n then x else s.ses j :=
  Tbl.getD_set _ _ _ _ _

@[simp] theorem State.setStone_same (n : Nat) (x : Stone) :
    (s.setStone n x).part = s.part ∧ (s.setStone n x).pending = s.pending ∧ (s.setStone n x).free = s.free ∧
    (s.setStone n x).tick = s.tick ∧ (s.setStone n x).dev = s.dev ∧ (s.setStone n x).clk = s.clk ∧ (s.setStone n x).ldg = s.ldg ∧
    (s.setStone n x).regs = s.regs ∧ (s.setStone n x).shadows = s.shadows ∧ (s.setStone n x).heldLo = s.heldLo ∧
    (s.setStone n x).pages = s.pages ∧ (s.setStone n x).i3c = s.i3c ∧ (s.setStone n x).evq = s.evq ∧
    (s.setStone n x).inputs = s.inputs ∧ (s.setStone n x).wcnt = s.wcnt ∧ (s.setStone n x).waits = s.waits ∧
    (s.setStone n x).cfg = s.cfg ∧ (s.setStone n x).mem = s.mem ∧ (s.setStone n x).sites = s.sites ∧ (s.setStone n x).tb = s.tb ∧
    (s.setStone n x).flows = s.flows ∧ (s.setStone n x).gates = s.gates ∧ (s.setStone n x).links = s.links ∧
    (s.setStone n x).stalled = s.stalled ∧ (s.setStone n x).nvmes = s.nvmes ∧ (s.setStone n x).ext = s.ext ∧
    (s.setStone n x).dmas = s.dmas ∧ (s.setStone n x).hop = s.hop ∧ (s.setStone n x).ibr = s.ibr ∧
    (s.setStone n x).chans = s.chans ∧ (s.setStone n x).regload = s.regload ∧ (s.setStone n x).cps = s.cps ∧
    (s.setStone n x).pawls = s.pawls ∧ (s.setStone n x).sessions = s.sessions ∧ (s.setStone n x).lmap = s.lmap ∧
    (s.setStone n x).noStone = s.noStone ∧ (s.setStone n x).bolters = s.bolters ∧ (s.setStone n x).ckpts = s.ckpts ∧
    (s.setStone n x).refs = s.refs ∧ (s.setStone n x).leat = s.leat ∧ (s.setStone n x).net = s.net ∧
    (s.setStone n x).decs = s.decs ∧ (s.setStone n x).pipes = s.pipes ∧ (s.setStone n x).runners = s.runners ∧
    (s.setStone n x).out = s.out :=
  ⟨rfl, rfl, rfl, rfl, rfl, rfl, rfl, rfl, rfl, rfl, rfl, rfl, rfl, rfl, rfl, rfl, rfl, rfl, rfl, rfl, rfl, rfl, rfl, rfl, rfl, rfl, rfl, rfl, rfl, rfl, rfl, rfl, rfl, rfl, rfl, rfl, rfl, rfl, rfl, rfl, rfl, rfl, rfl, rfl, rfl⟩

@[simp] theorem State.stone_setStone (n j : Nat) (x : Stone) : (s.setStone n x).stone j = if j = n then x else s.stone j :=
  Tbl.getD_set _ _ _ _ _

@[simp] theorem State.setBolter_same (b : Nat) (x : Bolter) :
    (s.setBolter b x).part = s.part ∧ (s.setBolter b x).pending = s.pending ∧ (s.setBolter b x).free = s.free ∧
    (s.setBolter b x).tick = s.tick ∧ (s.setBolter b x).dev = s.dev ∧ (s.setBolter b x).clk = s.clk ∧
    (s.setBolter b x).ldg = s.ldg ∧ (s.setBolter b x).regs = s.regs ∧ (s.setBolter b x).shadows = s.shadows ∧
    (s.setBolter b x).heldLo = s.heldLo ∧ (s.setBolter b x).pages = s.pages ∧ (s.setBolter b x).i3c = s.i3c ∧
    (s.setBolter b x).evq = s.evq ∧ (s.setBolter b x).inputs = s.inputs ∧ (s.setBolter b x).wcnt = s.wcnt ∧
    (s.setBolter b x).waits = s.waits ∧ (s.setBolter b x).cfg = s.cfg ∧ (s.setBolter b x).mem = s.mem ∧
    (s.setBolter b x).sites = s.sites ∧ (s.setBolter b x).tb = s.tb ∧ (s.setBolter b x).flows = s.flows ∧
    (s.setBolter b x).gates = s.gates ∧ (s.setBolter b x).links = s.links ∧ (s.setBolter b x).stalled = s.stalled ∧
    (s.setBolter b x).nvmes = s.nvmes ∧ (s.setBolter b x).ext = s.ext ∧ (s.setBolter b x).dmas = s.dmas ∧
    (s.setBolter b x).hop = s.hop ∧ (s.setBolter b x).ibr = s.ibr ∧ (s.setBolter b x).chans = s.chans ∧
    (s.setBolter b x).regload = s.regload ∧ (s.setBolter b x).cps = s.cps ∧ (s.setBolter b x).pawls = s.pawls ∧
    (s.setBolter b x).sessions = s.sessions ∧ (s.setBolter b x).lmap = s.lmap ∧ (s.setBolter b x).noStone = s.noStone ∧
    (s.setBolter b x).stones = s.stones ∧ (s.setBolter b x).ckpts = s.ckpts ∧ (s.setBolter b x).refs = s.refs ∧
    (s.setBolter b x).leat = s.leat ∧ (s.setBolter b x).net = s.net ∧ (s.setBolter b x).decs = s.decs ∧
    (s.setBolter b x).pipes = s.pipes ∧ (s.setBolter b x).runners = s.runners ∧ (s.setBolter b x).out = s.out :=
  ⟨rfl, rfl, rfl, rfl, rfl, rfl, rfl, rfl, rfl, rfl, rfl, rfl, rfl, rfl, rfl, rfl, rfl, rfl, rfl, rfl, rfl, rfl, rfl, rfl, rfl, rfl, rfl, rfl, rfl, rfl, rfl, rfl, rfl, rfl, rfl, rfl, rfl, rfl, rfl, rfl, rfl, rfl, rfl, rfl, rfl⟩

@[simp] theorem State.bolter_setBolter (b j : Nat) (x : Bolter) : (s.setBolter b x).bolter j = if j = b then x else s.bolter j :=
  Tbl.getD_set _ _ _ _ _

@[simp] theorem State.setRbuf_same (k : Nat) (x : RefBuf) :
    (s.setRbuf k x).part = s.part ∧ (s.setRbuf k x).pending = s.pending ∧ (s.setRbuf k x).free = s.free ∧
    (s.setRbuf k x).tick = s.tick ∧ (s.setRbuf k x).dev = s.dev ∧ (s.setRbuf k x).clk = s.clk ∧ (s.setRbuf k x).ldg = s.ldg ∧
    (s.setRbuf k x).regs = s.regs ∧ (s.setRbuf k x).shadows = s.shadows ∧ (s.setRbuf k x).heldLo = s.heldLo ∧
    (s.setRbuf k x).pages = s.pages ∧ (s.setRbuf k x).i3c = s.i3c ∧ (s.setRbuf k x).evq = s.evq ∧
    (s.setRbuf k x).inputs = s.inputs ∧ (s.setRbuf k x).wcnt = s.wcnt ∧ (s.setRbuf k x).waits = s.waits ∧
    (s.setRbuf k x).cfg = s.cfg ∧ (s.setRbuf k x).mem = s.mem ∧ (s.setRbuf k x).sites = s.sites ∧ (s.setRbuf k x).tb = s.tb ∧
    (s.setRbuf k x).flows = s.flows ∧ (s.setRbuf k x).gates = s.gates ∧ (s.setRbuf k x).links = s.links ∧
    (s.setRbuf k x).stalled = s.stalled ∧ (s.setRbuf k x).nvmes = s.nvmes ∧ (s.setRbuf k x).ext = s.ext ∧
    (s.setRbuf k x).dmas = s.dmas ∧ (s.setRbuf k x).hop = s.hop ∧ (s.setRbuf k x).ibr = s.ibr ∧ (s.setRbuf k x).chans = s.chans ∧
    (s.setRbuf k x).regload = s.regload ∧ (s.setRbuf k x).cps = s.cps ∧ (s.setRbuf k x).pawls = s.pawls ∧
    (s.setRbuf k x).sessions = s.sessions ∧ (s.setRbuf k x).lmap = s.lmap ∧ (s.setRbuf k x).noStone = s.noStone ∧
    (s.setRbuf k x).stones = s.stones ∧ (s.setRbuf k x).bolters = s.bolters ∧ (s.setRbuf k x).ckpts = s.ckpts ∧
    (s.setRbuf k x).leat = s.leat ∧ (s.setRbuf k x).net = s.net ∧ (s.setRbuf k x).decs = s.decs ∧
    (s.setRbuf k x).pipes = s.pipes ∧ (s.setRbuf k x).runners = s.runners ∧ (s.setRbuf k x).out = s.out :=
  ⟨rfl, rfl, rfl, rfl, rfl, rfl, rfl, rfl, rfl, rfl, rfl, rfl, rfl, rfl, rfl, rfl, rfl, rfl, rfl, rfl, rfl, rfl, rfl, rfl, rfl, rfl, rfl, rfl, rfl, rfl, rfl, rfl, rfl, rfl, rfl, rfl, rfl, rfl, rfl, rfl, rfl, rfl, rfl, rfl, rfl⟩

@[simp] theorem State.rbuf_setRbuf (k j : Nat) (x : RefBuf) : (s.setRbuf k x).rbuf j = if j = k then x else s.rbuf j :=
  Tbl.getD_set _ _ _ _ _

@[simp] theorem State.rses_setRbuf (k j : Nat) (x : RefBuf) : (s.setRbuf k x).rses j = s.rses j := rfl

@[simp] theorem State.setRses_same (o : Nat) (x : RefSes) :
    (s.setRses o x).part = s.part ∧ (s.setRses o x).pending = s.pending ∧ (s.setRses o x).free = s.free ∧
    (s.setRses o x).tick = s.tick ∧ (s.setRses o x).dev = s.dev ∧ (s.setRses o x).clk = s.clk ∧ (s.setRses o x).ldg = s.ldg ∧
    (s.setRses o x).regs = s.regs ∧ (s.setRses o x).shadows = s.shadows ∧ (s.setRses o x).heldLo = s.heldLo ∧
    (s.setRses o x).pages = s.pages ∧ (s.setRses o x).i3c = s.i3c ∧ (s.setRses o x).evq = s.evq ∧
    (s.setRses o x).inputs = s.inputs ∧ (s.setRses o x).wcnt = s.wcnt ∧ (s.setRses o x).waits = s.waits ∧
    (s.setRses o x).cfg = s.cfg ∧ (s.setRses o x).mem = s.mem ∧ (s.setRses o x).sites = s.sites ∧ (s.setRses o x).tb = s.tb ∧
    (s.setRses o x).flows = s.flows ∧ (s.setRses o x).gates = s.gates ∧ (s.setRses o x).links = s.links ∧
    (s.setRses o x).stalled = s.stalled ∧ (s.setRses o x).nvmes = s.nvmes ∧ (s.setRses o x).ext = s.ext ∧
    (s.setRses o x).dmas = s.dmas ∧ (s.setRses o x).hop = s.hop ∧ (s.setRses o x).ibr = s.ibr ∧ (s.setRses o x).chans = s.chans ∧
    (s.setRses o x).regload = s.regload ∧ (s.setRses o x).cps = s.cps ∧ (s.setRses o x).pawls = s.pawls ∧
    (s.setRses o x).sessions = s.sessions ∧ (s.setRses o x).lmap = s.lmap ∧ (s.setRses o x).noStone = s.noStone ∧
    (s.setRses o x).stones = s.stones ∧ (s.setRses o x).bolters = s.bolters ∧ (s.setRses o x).ckpts = s.ckpts ∧
    (s.setRses o x).leat = s.leat ∧ (s.setRses o x).net = s.net ∧ (s.setRses o x).decs = s.decs ∧
    (s.setRses o x).pipes = s.pipes ∧ (s.setRses o x).runners = s.runners ∧ (s.setRses o x).out = s.out :=
  ⟨rfl, rfl, rfl, rfl, rfl, rfl, rfl, rfl, rfl, rfl, rfl, rfl, rfl, rfl, rfl, rfl, rfl, rfl, rfl, rfl, rfl, rfl, rfl, rfl, rfl, rfl, rfl, rfl, rfl, rfl, rfl, rfl, rfl, rfl, rfl, rfl, rfl, rfl, rfl, rfl, rfl, rfl, rfl, rfl, rfl⟩

@[simp] theorem State.rses_setRses (o j : Nat) (x : RefSes) : (s.setRses o x).rses j = if j = o then x else s.rses j :=
  Tbl.getD_set _ _ _ _ _

@[simp] theorem State.rbuf_setRses (o j : Nat) (x : RefSes) : (s.setRses o x).rbuf j = s.rbuf j := rfl

@[simp] theorem State.setLane_same (l : Nat) (x : Lane) :
    (s.setLane l x).part = s.part ∧ (s.setLane l x).pending = s.pending ∧ (s.setLane l x).free = s.free ∧
    (s.setLane l x).tick = s.tick ∧ (s.setLane l x).dev = s.dev ∧ (s.setLane l x).clk = s.clk ∧ (s.setLane l x).ldg = s.ldg ∧
    (s.setLane l x).regs = s.regs ∧ (s.setLane l x).shadows = s.shadows ∧ (s.setLane l x).heldLo = s.heldLo ∧
    (s.setLane l x).pages = s.pages ∧ (s.setLane l x).i3c = s.i3c ∧ (s.setLane l x).evq = s.evq ∧
    (s.setLane l x).inputs = s.inputs ∧ (s.setLane l x).wcnt = s.wcnt ∧ (s.setLane l x).waits = s.waits ∧
    (s.setLane l x).cfg = s.cfg ∧ (s.setLane l x).mem = s.mem ∧ (s.setLane l x).sites = s.sites ∧ (s.setLane l x).tb = s.tb ∧
    (s.setLane l x).flows = s.flows ∧ (s.setLane l x).gates = s.gates ∧ (s.setLane l x).links = s.links ∧
    (s.setLane l x).stalled = s.stalled ∧ (s.setLane l x).nvmes = s.nvmes ∧ (s.setLane l x).ext = s.ext ∧
    (s.setLane l x).dmas = s.dmas ∧ (s.setLane l x).hop = s.hop ∧ (s.setLane l x).ibr = s.ibr ∧ (s.setLane l x).chans = s.chans ∧
    (s.setLane l x).regload = s.regload ∧ (s.setLane l x).cps = s.cps ∧ (s.setLane l x).pawls = s.pawls ∧
    (s.setLane l x).sessions = s.sessions ∧ (s.setLane l x).lmap = s.lmap ∧ (s.setLane l x).noStone = s.noStone ∧
    (s.setLane l x).stones = s.stones ∧ (s.setLane l x).bolters = s.bolters ∧ (s.setLane l x).ckpts = s.ckpts ∧
    (s.setLane l x).refs = s.refs ∧ (s.setLane l x).net = s.net ∧ (s.setLane l x).decs = s.decs ∧
    (s.setLane l x).pipes = s.pipes ∧ (s.setLane l x).runners = s.runners ∧ (s.setLane l x).out = s.out :=
  ⟨rfl, rfl, rfl, rfl, rfl, rfl, rfl, rfl, rfl, rfl, rfl, rfl, rfl, rfl, rfl, rfl, rfl, rfl, rfl, rfl, rfl, rfl, rfl, rfl, rfl, rfl, rfl, rfl, rfl, rfl, rfl, rfl, rfl, rfl, rfl, rfl, rfl, rfl, rfl, rfl, rfl, rfl, rfl, rfl, rfl⟩

@[simp] theorem State.lane_setLane (l j : Nat) (x : Lane) : (s.setLane l x).lane j = if j = l then x else s.lane j :=
  Tbl.getD_set _ _ _ _ _

@[simp] theorem State.setDec_same (n : Nat) (x : DecSes) :
    (s.setDec n x).part = s.part ∧ (s.setDec n x).pending = s.pending ∧ (s.setDec n x).free = s.free ∧
    (s.setDec n x).tick = s.tick ∧ (s.setDec n x).dev = s.dev ∧ (s.setDec n x).clk = s.clk ∧ (s.setDec n x).ldg = s.ldg ∧
    (s.setDec n x).regs = s.regs ∧ (s.setDec n x).shadows = s.shadows ∧ (s.setDec n x).heldLo = s.heldLo ∧
    (s.setDec n x).pages = s.pages ∧ (s.setDec n x).i3c = s.i3c ∧ (s.setDec n x).evq = s.evq ∧ (s.setDec n x).inputs = s.inputs ∧
    (s.setDec n x).wcnt = s.wcnt ∧ (s.setDec n x).waits = s.waits ∧ (s.setDec n x).cfg = s.cfg ∧ (s.setDec n x).mem = s.mem ∧
    (s.setDec n x).sites = s.sites ∧ (s.setDec n x).tb = s.tb ∧ (s.setDec n x).flows = s.flows ∧ (s.setDec n x).gates = s.gates ∧
    (s.setDec n x).links = s.links ∧ (s.setDec n x).stalled = s.stalled ∧ (s.setDec n x).nvmes = s.nvmes ∧
    (s.setDec n x).ext = s.ext ∧ (s.setDec n x).dmas = s.dmas ∧ (s.setDec n x).hop = s.hop ∧ (s.setDec n x).ibr = s.ibr ∧
    (s.setDec n x).chans = s.chans ∧ (s.setDec n x).regload = s.regload ∧ (s.setDec n x).cps = s.cps ∧
    (s.setDec n x).pawls = s.pawls ∧ (s.setDec n x).sessions = s.sessions ∧ (s.setDec n x).lmap = s.lmap ∧
    (s.setDec n x).noStone = s.noStone ∧ (s.setDec n x).stones = s.stones ∧ (s.setDec n x).bolters = s.bolters ∧
    (s.setDec n x).ckpts = s.ckpts ∧ (s.setDec n x).refs = s.refs ∧ (s.setDec n x).leat = s.leat ∧ (s.setDec n x).net = s.net ∧
    (s.setDec n x).pipes = s.pipes ∧ (s.setDec n x).runners = s.runners ∧ (s.setDec n x).out = s.out :=
  ⟨rfl, rfl, rfl, rfl, rfl, rfl, rfl, rfl, rfl, rfl, rfl, rfl, rfl, rfl, rfl, rfl, rfl, rfl, rfl, rfl, rfl, rfl, rfl, rfl, rfl, rfl, rfl, rfl, rfl, rfl, rfl, rfl, rfl, rfl, rfl, rfl, rfl, rfl, rfl, rfl, rfl, rfl, rfl, rfl, rfl⟩

@[simp] theorem State.dec_setDec (n j : Nat) (x : DecSes) : (s.setDec n x).dec j = if j = n then x else s.dec j :=
  Tbl.getD_set _ _ _ _ _

@[simp] theorem State.setPipe_same (n : Nat) (x : Pipe) :
    (s.setPipe n x).part = s.part ∧ (s.setPipe n x).pending = s.pending ∧ (s.setPipe n x).free = s.free ∧
    (s.setPipe n x).tick = s.tick ∧ (s.setPipe n x).dev = s.dev ∧ (s.setPipe n x).clk = s.clk ∧ (s.setPipe n x).ldg = s.ldg ∧
    (s.setPipe n x).regs = s.regs ∧ (s.setPipe n x).shadows = s.shadows ∧ (s.setPipe n x).heldLo = s.heldLo ∧
    (s.setPipe n x).pages = s.pages ∧ (s.setPipe n x).i3c = s.i3c ∧ (s.setPipe n x).evq = s.evq ∧
    (s.setPipe n x).inputs = s.inputs ∧ (s.setPipe n x).wcnt = s.wcnt ∧ (s.setPipe n x).waits = s.waits ∧
    (s.setPipe n x).cfg = s.cfg ∧ (s.setPipe n x).mem = s.mem ∧ (s.setPipe n x).sites = s.sites ∧ (s.setPipe n x).tb = s.tb ∧
    (s.setPipe n x).flows = s.flows ∧ (s.setPipe n x).gates = s.gates ∧ (s.setPipe n x).links = s.links ∧
    (s.setPipe n x).stalled = s.stalled ∧ (s.setPipe n x).nvmes = s.nvmes ∧ (s.setPipe n x).ext = s.ext ∧
    (s.setPipe n x).dmas = s.dmas ∧ (s.setPipe n x).hop = s.hop ∧ (s.setPipe n x).ibr = s.ibr ∧ (s.setPipe n x).chans = s.chans ∧
    (s.setPipe n x).regload = s.regload ∧ (s.setPipe n x).cps = s.cps ∧ (s.setPipe n x).pawls = s.pawls ∧
    (s.setPipe n x).sessions = s.sessions ∧ (s.setPipe n x).lmap = s.lmap ∧ (s.setPipe n x).noStone = s.noStone ∧
    (s.setPipe n x).stones = s.stones ∧ (s.setPipe n x).bolters = s.bolters ∧ (s.setPipe n x).ckpts = s.ckpts ∧
    (s.setPipe n x).refs = s.refs ∧ (s.setPipe n x).leat = s.leat ∧ (s.setPipe n x).net = s.net ∧ (s.setPipe n x).decs = s.decs ∧
    (s.setPipe n x).runners = s.runners ∧ (s.setPipe n x).out = s.out :=
  ⟨rfl, rfl, rfl, rfl, rfl, rfl, rfl, rfl, rfl, rfl, rfl, rfl, rfl, rfl, rfl, rfl, rfl, rfl, rfl, rfl, rfl, rfl, rfl, rfl, rfl, rfl, rfl, rfl, rfl, rfl, rfl, rfl, rfl, rfl, rfl, rfl, rfl, rfl, rfl, rfl, rfl, rfl, rfl, rfl, rfl⟩

@[simp] theorem State.pipe_setPipe (n j : Nat) (x : Pipe) : (s.setPipe n x).pipe j = if j = n then x else s.pipe j :=
  Tbl.getD_set _ _ _ _ _

@[simp] theorem State.setRunner_same (n : Nat) (x : Runner) :
    (s.setRunner n x).part = s.part ∧ (s.setRunner n x).pending = s.pending ∧ (s.setRunner n x).free = s.free ∧
    (s.setRunner n x).tick = s.tick ∧ (s.setRunner n x).dev = s.dev ∧ (s.setRunner n x).clk = s.clk ∧
    (s.setRunner n x).ldg = s.ldg ∧ (s.setRunner n x).regs = s.regs ∧ (s.setRunner n x).shadows = s.shadows ∧
    (s.setRunner n x).heldLo = s.heldLo ∧ (s.setRunner n x).pages = s.pages ∧ (s.setRunner n x).i3c = s.i3c ∧
    (s.setRunner n x).evq = s.evq ∧ (s.setRunner n x).inputs = s.inputs ∧ (s.setRunner n x).wcnt = s.wcnt ∧
    (s.setRunner n x).waits = s.waits ∧ (s.setRunner n x).cfg = s.cfg ∧ (s.setRunner n x).mem = s.mem ∧
    (s.setRunner n x).sites = s.sites ∧ (s.setRunner n x).tb = s.tb ∧ (s.setRunner n x).flows = s.flows ∧
    (s.setRunner n x).gates = s.gates ∧ (s.setRunner n x).links = s.links ∧ (s.setRunner n x).stalled = s.stalled ∧
    (s.setRunner n x).nvmes = s.nvmes ∧ (s.setRunner n x).ext = s.ext ∧ (s.setRunner n x).dmas = s.dmas ∧
    (s.setRunner n x).hop = s.hop ∧ (s.setRunner n x).ibr = s.ibr ∧ (s.setRunner n x).chans = s.chans ∧
    (s.setRunner n x).regload = s.regload ∧ (s.setRunner n x).cps = s.cps ∧ (s.setRunner n x).pawls = s.pawls ∧
    (s.setRunner n x).sessions = s.sessions ∧ (s.setRunner n x).lmap = s.lmap ∧ (s.setRunner n x).noStone = s.noStone ∧
    (s.setRunner n x).stones = s.stones ∧ (s.setRunner n x).bolters = s.bolters ∧ (s.setRunner n x).ckpts = s.ckpts ∧
    (s.setRunner n x).refs = s.refs ∧ (s.setRunner n x).leat = s.leat ∧ (s.setRunner n x).net = s.net ∧
    (s.setRunner n x).decs = s.decs ∧ (s.setRunner n x).pipes = s.pipes ∧ (s.setRunner n x).out = s.out :=
  ⟨rfl, rfl, rfl, rfl, rfl, rfl, rfl, rfl, rfl, rfl, rfl, rfl, rfl, rfl, rfl, rfl, rfl, rfl, rfl, rfl, rfl, rfl, rfl, rfl, rfl, rfl, rfl, rfl, rfl, rfl, rfl, rfl, rfl, rfl, rfl, rfl, rfl, rfl, rfl, rfl, rfl, rfl, rfl, rfl, rfl⟩

@[simp] theorem State.runner_setRunner (n j : Nat) (x : Runner) : (s.setRunner n x).runner j = if j = n then x else s.runner j :=
  Tbl.getD_set _ _ _ _ _

@[simp] theorem State.lib_setRunner (n j : Nat) (x : Runner) : (s.setRunner n x).lib j = s.lib j := rfl

@[simp] theorem State.setLib_same (k : Nat) (x : LibSlot) :
    (s.setLib k x).part = s.part ∧ (s.setLib k x).pending = s.pending ∧ (s.setLib k x).free = s.free ∧
    (s.setLib k x).tick = s.tick ∧ (s.setLib k x).dev = s.dev ∧ (s.setLib k x).clk = s.clk ∧ (s.setLib k x).ldg = s.ldg ∧
    (s.setLib k x).regs = s.regs ∧ (s.setLib k x).shadows = s.shadows ∧ (s.setLib k x).heldLo = s.heldLo ∧
    (s.setLib k x).pages = s.pages ∧ (s.setLib k x).i3c = s.i3c ∧ (s.setLib k x).evq = s.evq ∧ (s.setLib k x).inputs = s.inputs ∧
    (s.setLib k x).wcnt = s.wcnt ∧ (s.setLib k x).waits = s.waits ∧ (s.setLib k x).cfg = s.cfg ∧ (s.setLib k x).mem = s.mem ∧
    (s.setLib k x).sites = s.sites ∧ (s.setLib k x).tb = s.tb ∧ (s.setLib k x).flows = s.flows ∧ (s.setLib k x).gates = s.gates ∧
    (s.setLib k x).links = s.links ∧ (s.setLib k x).stalled = s.stalled ∧ (s.setLib k x).nvmes = s.nvmes ∧
    (s.setLib k x).ext = s.ext ∧ (s.setLib k x).dmas = s.dmas ∧ (s.setLib k x).hop = s.hop ∧ (s.setLib k x).ibr = s.ibr ∧
    (s.setLib k x).chans = s.chans ∧ (s.setLib k x).regload = s.regload ∧ (s.setLib k x).cps = s.cps ∧
    (s.setLib k x).pawls = s.pawls ∧ (s.setLib k x).sessions = s.sessions ∧ (s.setLib k x).lmap = s.lmap ∧
    (s.setLib k x).noStone = s.noStone ∧ (s.setLib k x).stones = s.stones ∧ (s.setLib k x).bolters = s.bolters ∧
    (s.setLib k x).ckpts = s.ckpts ∧ (s.setLib k x).refs = s.refs ∧ (s.setLib k x).leat = s.leat ∧ (s.setLib k x).net = s.net ∧
    (s.setLib k x).decs = s.decs ∧ (s.setLib k x).pipes = s.pipes ∧ (s.setLib k x).out = s.out :=
  ⟨rfl, rfl, rfl, rfl, rfl, rfl, rfl, rfl, rfl, rfl, rfl, rfl, rfl, rfl, rfl, rfl, rfl, rfl, rfl, rfl, rfl, rfl, rfl, rfl, rfl, rfl, rfl, rfl, rfl, rfl, rfl, rfl, rfl, rfl, rfl, rfl, rfl, rfl, rfl, rfl, rfl, rfl, rfl, rfl, rfl⟩

@[simp] theorem State.lib_setLib (k j : Nat) (x : LibSlot) : (s.setLib k x).lib j = if j = k then x else s.lib j :=
  Tbl.getD_set _ _ _ _ _

@[simp] theorem State.runner_setLib (k j : Nat) (x : LibSlot) : (s.setLib k x).runner j = s.runner j := rfl

@[simp] theorem State.setPort_same (p : Nat) (x : Port) :
    (s.setPort p x).part = s.part ∧ (s.setPort p x).pending = s.pending ∧ (s.setPort p x).free = s.free ∧
    (s.setPort p x).tick = s.tick ∧ (s.setPort p x).dev = s.dev ∧ (s.setPort p x).clk = s.clk ∧ (s.setPort p x).ldg = s.ldg ∧
    (s.setPort p x).regs = s.regs ∧ (s.setPort p x).shadows = s.shadows ∧ (s.setPort p x).heldLo = s.heldLo ∧
    (s.setPort p x).pages = s.pages ∧ (s.setPort p x).i3c = s.i3c ∧ (s.setPort p x).evq = s.evq ∧
    (s.setPort p x).inputs = s.inputs ∧ (s.setPort p x).wcnt = s.wcnt ∧ (s.setPort p x).waits = s.waits ∧
    (s.setPort p x).cfg = s.cfg ∧ (s.setPort p x).mem = s.mem ∧ (s.setPort p x).sites = s.sites ∧ (s.setPort p x).tb = s.tb ∧
    (s.setPort p x).flows = s.flows ∧ (s.setPort p x).gates = s.gates ∧ (s.setPort p x).links = s.links ∧
    (s.setPort p x).stalled = s.stalled ∧ (s.setPort p x).nvmes = s.nvmes ∧ (s.setPort p x).ext = s.ext ∧
    (s.setPort p x).dmas = s.dmas ∧ (s.setPort p x).hop = s.hop ∧ (s.setPort p x).ibr = s.ibr ∧ (s.setPort p x).chans = s.chans ∧
    (s.setPort p x).regload = s.regload ∧ (s.setPort p x).cps = s.cps ∧ (s.setPort p x).pawls = s.pawls ∧
    (s.setPort p x).sessions = s.sessions ∧ (s.setPort p x).lmap = s.lmap ∧ (s.setPort p x).noStone = s.noStone ∧
    (s.setPort p x).stones = s.stones ∧ (s.setPort p x).bolters = s.bolters ∧ (s.setPort p x).ckpts = s.ckpts ∧
    (s.setPort p x).refs = s.refs ∧ (s.setPort p x).leat = s.leat ∧ (s.setPort p x).decs = s.decs ∧
    (s.setPort p x).pipes = s.pipes ∧ (s.setPort p x).runners = s.runners ∧ (s.setPort p x).out = s.out :=
  ⟨rfl, rfl, rfl, rfl, rfl, rfl, rfl, rfl, rfl, rfl, rfl, rfl, rfl, rfl, rfl, rfl, rfl, rfl, rfl, rfl, rfl, rfl, rfl, rfl, rfl, rfl, rfl, rfl, rfl, rfl, rfl, rfl, rfl, rfl, rfl, rfl, rfl, rfl, rfl, rfl, rfl, rfl, rfl, rfl, rfl⟩

@[simp] theorem State.port_setPort (p j : Nat) (x : Port) : (s.setPort p x).port j = if j = p then x else s.port j :=
  Tbl.getD_set _ _ _ _ _

@[simp] theorem State.setFlow_same (f : Nat) (x : Flow) :
    (s.setFlow f x).part = s.part ∧ (s.setFlow f x).pending = s.pending ∧ (s.setFlow f x).free = s.free ∧
    (s.setFlow f x).tick = s.tick ∧ (s.setFlow f x).dev = s.dev ∧ (s.setFlow f x).clk = s.clk ∧ (s.setFlow f x).ldg = s.ldg ∧
    (s.setFlow f x).regs = s.regs ∧ (s.setFlow f x).shadows = s.shadows ∧ (s.setFlow f x).heldLo = s.heldLo ∧
    (s.setFlow f x).pages = s.pages ∧ (s.setFlow f x).i3c = s.i3c ∧ (s.setFlow f x).evq = s.evq ∧
    (s.setFlow f x).inputs = s.inputs ∧ (s.setFlow f x).wcnt = s.wcnt ∧ (s.setFlow f x).waits = s.waits ∧
    (s.setFlow f x).cfg = s.cfg ∧ (s.setFlow f x).mem = s.mem ∧ (s.setFlow f x).sites = s.sites ∧ (s.setFlow f x).tb = s.tb ∧
    (s.setFlow f x).gates = s.gates ∧ (s.setFlow f x).links = s.links ∧ (s.setFlow f x).stalled = s.stalled ∧
    (s.setFlow f x).nvmes = s.nvmes ∧ (s.setFlow f x).ext = s.ext ∧ (s.setFlow f x).dmas = s.dmas ∧ (s.setFlow f x).hop = s.hop ∧
    (s.setFlow f x).ibr = s.ibr ∧ (s.setFlow f x).chans = s.chans ∧ (s.setFlow f x).regload = s.regload ∧
    (s.setFlow f x).cps = s.cps ∧ (s.setFlow f x).pawls = s.pawls ∧ (s.setFlow f x).sessions = s.sessions ∧
    (s.setFlow f x).lmap = s.lmap ∧ (s.setFlow f x).noStone = s.noStone ∧ (s.setFlow f x).stones = s.stones ∧
    (s.setFlow f x).bolters = s.bolters ∧ (s.setFlow f x).ckpts = s.ckpts ∧ (s.setFlow f x).refs = s.refs ∧
    (s.setFlow f x).leat = s.leat ∧ (s.setFlow f x).net = s.net ∧ (s.setFlow f x).decs = s.decs ∧
    (s.setFlow f x).pipes = s.pipes ∧ (s.setFlow f x).runners = s.runners ∧ (s.setFlow f x).out = s.out :=
  ⟨rfl, rfl, rfl, rfl, rfl, rfl, rfl, rfl, rfl, rfl, rfl, rfl, rfl, rfl, rfl, rfl, rfl, rfl, rfl, rfl, rfl, rfl, rfl, rfl, rfl, rfl, rfl, rfl, rfl, rfl, rfl, rfl, rfl, rfl, rfl, rfl, rfl, rfl, rfl, rfl, rfl, rfl, rfl, rfl, rfl⟩

@[simp] theorem State.emit_same (o : Out) :
    (s.emit o).part = s.part ∧ (s.emit o).pending = s.pending ∧ (s.emit o).free = s.free ∧ (s.emit o).tick = s.tick ∧
    (s.emit o).dev = s.dev ∧ (s.emit o).clk = s.clk ∧ (s.emit o).ldg = s.ldg ∧ (s.emit o).regs = s.regs ∧
    (s.emit o).shadows = s.shadows ∧ (s.emit o).heldLo = s.heldLo ∧ (s.emit o).pages = s.pages ∧ (s.emit o).i3c = s.i3c ∧
    (s.emit o).evq = s.evq ∧ (s.emit o).inputs = s.inputs ∧ (s.emit o).wcnt = s.wcnt ∧ (s.emit o).waits = s.waits ∧
    (s.emit o).cfg = s.cfg ∧ (s.emit o).mem = s.mem ∧ (s.emit o).sites = s.sites ∧ (s.emit o).tb = s.tb ∧
    (s.emit o).flows = s.flows ∧ (s.emit o).gates = s.gates ∧ (s.emit o).links = s.links ∧ (s.emit o).stalled = s.stalled ∧
    (s.emit o).nvmes = s.nvmes ∧ (s.emit o).ext = s.ext ∧ (s.emit o).dmas = s.dmas ∧ (s.emit o).hop = s.hop ∧
    (s.emit o).ibr = s.ibr ∧ (s.emit o).chans = s.chans ∧ (s.emit o).regload = s.regload ∧ (s.emit o).cps = s.cps ∧
    (s.emit o).pawls = s.pawls ∧ (s.emit o).sessions = s.sessions ∧ (s.emit o).lmap = s.lmap ∧ (s.emit o).noStone = s.noStone ∧
    (s.emit o).stones = s.stones ∧ (s.emit o).bolters = s.bolters ∧ (s.emit o).ckpts = s.ckpts ∧ (s.emit o).refs = s.refs ∧
    (s.emit o).leat = s.leat ∧ (s.emit o).net = s.net ∧ (s.emit o).decs = s.decs ∧ (s.emit o).pipes = s.pipes ∧
    (s.emit o).runners = s.runners :=
  ⟨rfl, rfl, rfl, rfl, rfl, rfl, rfl, rfl, rfl, rfl, rfl, rfl, rfl, rfl, rfl, rfl, rfl, rfl, rfl, rfl, rfl, rfl, rfl, rfl, rfl, rfl, rfl, rfl, rfl, rfl, rfl, rfl, rfl, rfl, rfl, rfl, rfl, rfl, rfl, rfl, rfl, rfl, rfl, rfl, rfl⟩

@[simp] theorem State.reach_same (k : Nat) :
    (s.reach k).part = s.part ∧ (s.reach k).pending = s.pending ∧ (s.reach k).free = s.free ∧ (s.reach k).dev = s.dev ∧
    (s.reach k).clk = s.clk ∧ (s.reach k).ldg = s.ldg ∧ (s.reach k).regs = s.regs ∧ (s.reach k).shadows = s.shadows ∧
    (s.reach k).heldLo = s.heldLo ∧ (s.reach k).pages = s.pages ∧ (s.reach k).i3c = s.i3c ∧ (s.reach k).evq = s.evq ∧
    (s.reach k).inputs = s.inputs ∧ (s.reach k).wcnt = s.wcnt ∧ (s.reach k).waits = s.waits ∧ (s.reach k).cfg = s.cfg ∧
    (s.reach k).mem = s.mem ∧ (s.reach k).sites = s.sites ∧ (s.reach k).tb = s.tb ∧ (s.reach k).flows = s.flows ∧
    (s.reach k).gates = s.gates ∧ (s.reach k).links = s.links ∧ (s.reach k).stalled = s.stalled ∧ (s.reach k).nvmes = s.nvmes ∧
    (s.reach k).ext = s.ext ∧ (s.reach k).dmas = s.dmas ∧ (s.reach k).hop = s.hop ∧ (s.reach k).ibr = s.ibr ∧
    (s.reach k).chans = s.chans ∧ (s.reach k).regload = s.regload ∧ (s.reach k).cps = s.cps ∧ (s.reach k).pawls = s.pawls ∧
    (s.reach k).sessions = s.sessions ∧ (s.reach k).lmap = s.lmap ∧ (s.reach k).noStone = s.noStone ∧
    (s.reach k).stones = s.stones ∧ (s.reach k).bolters = s.bolters ∧ (s.reach k).ckpts = s.ckpts ∧ (s.reach k).refs = s.refs ∧
    (s.reach k).leat = s.leat ∧ (s.reach k).net = s.net ∧ (s.reach k).decs = s.decs ∧ (s.reach k).pipes = s.pipes ∧
    (s.reach k).runners = s.runners ∧ (s.reach k).out = s.out :=
  ⟨rfl, rfl, rfl, rfl, rfl, rfl, rfl, rfl, rfl, rfl, rfl, rfl, rfl, rfl, rfl, rfl, rfl, rfl, rfl, rfl, rfl, rfl, rfl, rfl, rfl, rfl, rfl, rfl, rfl, rfl, rfl, rfl, rfl, rfl, rfl, rfl, rfl, rfl, rfl, rfl, rfl, rfl, rfl, rfl, rfl⟩

@[simp] theorem State.spend_same :
    (s.spend).part = s.part ∧ (s.spend).pending = s.pending ∧ (s.spend).tick = s.tick ∧ (s.spend).dev = s.dev ∧
    (s.spend).clk = s.clk ∧ (s.spend).ldg = s.ldg ∧ (s.spend).regs = s.regs ∧ (s.spend).shadows = s.shadows ∧
    (s.spend).heldLo = s.heldLo ∧ (s.spend).pages = s.pages ∧ (s.spend).i3c = s.i3c ∧ (s.spend).evq = s.evq ∧
    (s.spend).inputs = s.inputs ∧ (s.spend).wcnt = s.wcnt ∧ (s.spend).waits = s.waits ∧ (s.spend).cfg = s.cfg ∧
    (s.spend).mem = s.mem ∧ (s.spend).sites = s.sites ∧ (s.spend).tb = s.tb ∧ (s.spend).flows = s.flows ∧
    (s.spend).gates = s.gates ∧ (s.spend).links = s.links ∧ (s.spend).stalled = s.stalled ∧ (s.spend).nvmes = s.nvmes ∧
    (s.spend).ext = s.ext ∧ (s.spend).dmas = s.dmas ∧ (s.spend).hop = s.hop ∧ (s.spend).ibr = s.ibr ∧ (s.spend).chans = s.chans ∧
    (s.spend).regload = s.regload ∧ (s.spend).cps = s.cps ∧ (s.spend).pawls = s.pawls ∧ (s.spend).sessions = s.sessions ∧
    (s.spend).lmap = s.lmap ∧ (s.spend).noStone = s.noStone ∧ (s.spend).stones = s.stones ∧ (s.spend).bolters = s.bolters ∧
    (s.spend).ckpts = s.ckpts ∧ (s.spend).refs = s.refs ∧ (s.spend).leat = s.leat ∧ (s.spend).net = s.net ∧
    (s.spend).decs = s.decs ∧ (s.spend).pipes = s.pipes ∧ (s.spend).runners = s.runners ∧ (s.spend).out = s.out :=
  ⟨rfl, rfl, rfl, rfl, rfl, rfl, rfl, rfl, rfl, rfl, rfl, rfl, rfl, rfl, rfl, rfl, rfl, rfl, rfl, rfl, rfl, rfl, rfl, rfl, rfl, rfl, rfl, rfl, rfl, rfl, rfl, rfl, rfl, rfl, rfl, rfl, rfl, rfl, rfl, rfl, rfl, rfl, rfl, rfl, rfl⟩

@[simp] theorem State.setTb_same (x : TimeBase) :
    (s.setTb x).part = s.part ∧ (s.setTb x).pending = s.pending ∧ (s.setTb x).free = s.free ∧ (s.setTb x).tick = s.tick ∧
    (s.setTb x).dev = s.dev ∧ (s.setTb x).clk = s.clk ∧ (s.setTb x).ldg = s.ldg ∧ (s.setTb x).regs = s.regs ∧
    (s.setTb x).shadows = s.shadows ∧ (s.setTb x).heldLo = s.heldLo ∧ (s.setTb x).pages = s.pages ∧ (s.setTb x).i3c = s.i3c ∧
    (s.setTb x).evq = s.evq ∧ (s.setTb x).inputs = s.inputs ∧ (s.setTb x).wcnt = s.wcnt ∧ (s.setTb x).waits = s.waits ∧
    (s.setTb x).cfg = s.cfg ∧ (s.setTb x).mem = s.mem ∧ (s.setTb x).sites = s.sites ∧ (s.setTb x).flows = s.flows ∧
    (s.setTb x).gates = s.gates ∧ (s.setTb x).links = s.links ∧ (s.setTb x).stalled = s.stalled ∧ (s.setTb x).nvmes = s.nvmes ∧
    (s.setTb x).ext = s.ext ∧ (s.setTb x).dmas = s.dmas ∧ (s.setTb x).hop = s.hop ∧ (s.setTb x).ibr = s.ibr ∧
    (s.setTb x).chans = s.chans ∧ (s.setTb x).regload = s.regload ∧ (s.setTb x).cps = s.cps ∧ (s.setTb x).pawls = s.pawls ∧
    (s.setTb x).sessions = s.sessions ∧ (s.setTb x).lmap = s.lmap ∧ (s.setTb x).noStone = s.noStone ∧
    (s.setTb x).stones = s.stones ∧ (s.setTb x).bolters = s.bolters ∧ (s.setTb x).ckpts = s.ckpts ∧ (s.setTb x).refs = s.refs ∧
    (s.setTb x).leat = s.leat ∧ (s.setTb x).net = s.net ∧ (s.setTb x).decs = s.decs ∧ (s.setTb x).pipes = s.pipes ∧
    (s.setTb x).runners = s.runners ∧ (s.setTb x).out = s.out :=
  ⟨rfl, rfl, rfl, rfl, rfl, rfl, rfl, rfl, rfl, rfl, rfl, rfl, rfl, rfl, rfl, rfl, rfl, rfl, rfl, rfl, rfl, rfl, rfl, rfl, rfl, rfl, rfl, rfl, rfl, rfl, rfl, rfl, rfl, rfl, rfl, rfl, rfl, rfl, rfl, rfl, rfl, rfl, rfl, rfl, rfl⟩

@[simp] theorem State.setIbr_same (x : Ibreham) :
    (s.setIbr x).part = s.part ∧ (s.setIbr x).pending = s.pending ∧ (s.setIbr x).free = s.free ∧ (s.setIbr x).tick = s.tick ∧
    (s.setIbr x).dev = s.dev ∧ (s.setIbr x).clk = s.clk ∧ (s.setIbr x).ldg = s.ldg ∧ (s.setIbr x).regs = s.regs ∧
    (s.setIbr x).shadows = s.shadows ∧ (s.setIbr x).heldLo = s.heldLo ∧ (s.setIbr x).pages = s.pages ∧ (s.setIbr x).i3c = s.i3c ∧
    (s.setIbr x).evq = s.evq ∧ (s.setIbr x).inputs = s.inputs ∧ (s.setIbr x).wcnt = s.wcnt ∧ (s.setIbr x).waits = s.waits ∧
    (s.setIbr x).cfg = s.cfg ∧ (s.setIbr x).mem = s.mem ∧ (s.setIbr x).sites = s.sites ∧ (s.setIbr x).tb = s.tb ∧
    (s.setIbr x).flows = s.flows ∧ (s.setIbr x).gates = s.gates ∧ (s.setIbr x).links = s.links ∧
    (s.setIbr x).stalled = s.stalled ∧ (s.setIbr x).nvmes = s.nvmes ∧ (s.setIbr x).ext = s.ext ∧ (s.setIbr x).dmas = s.dmas ∧
    (s.setIbr x).hop = s.hop ∧ (s.setIbr x).chans = s.chans ∧ (s.setIbr x).regload = s.regload ∧ (s.setIbr x).cps = s.cps ∧
    (s.setIbr x).pawls = s.pawls ∧ (s.setIbr x).sessions = s.sessions ∧ (s.setIbr x).lmap = s.lmap ∧
    (s.setIbr x).noStone = s.noStone ∧ (s.setIbr x).stones = s.stones ∧ (s.setIbr x).bolters = s.bolters ∧
    (s.setIbr x).ckpts = s.ckpts ∧ (s.setIbr x).refs = s.refs ∧ (s.setIbr x).leat = s.leat ∧ (s.setIbr x).net = s.net ∧
    (s.setIbr x).decs = s.decs ∧ (s.setIbr x).pipes = s.pipes ∧ (s.setIbr x).runners = s.runners ∧ (s.setIbr x).out = s.out :=
  ⟨rfl, rfl, rfl, rfl, rfl, rfl, rfl, rfl, rfl, rfl, rfl, rfl, rfl, rfl, rfl, rfl, rfl, rfl, rfl, rfl, rfl, rfl, rfl, rfl, rfl, rfl, rfl, rfl, rfl, rfl, rfl, rfl, rfl, rfl, rfl, rfl, rfl, rfl, rfl, rfl, rfl, rfl, rfl, rfl, rfl⟩

@[simp] theorem State.setLdg_same (l : Ledger) :
    (s.setLdg l).part = s.part ∧ (s.setLdg l).pending = s.pending ∧ (s.setLdg l).free = s.free ∧ (s.setLdg l).tick = s.tick ∧
    (s.setLdg l).dev = s.dev ∧ (s.setLdg l).clk = s.clk ∧ (s.setLdg l).regs = s.regs ∧ (s.setLdg l).shadows = s.shadows ∧
    (s.setLdg l).heldLo = s.heldLo ∧ (s.setLdg l).pages = s.pages ∧ (s.setLdg l).i3c = s.i3c ∧ (s.setLdg l).evq = s.evq ∧
    (s.setLdg l).inputs = s.inputs ∧ (s.setLdg l).wcnt = s.wcnt ∧ (s.setLdg l).waits = s.waits ∧ (s.setLdg l).cfg = s.cfg ∧
    (s.setLdg l).mem = s.mem ∧ (s.setLdg l).sites = s.sites ∧ (s.setLdg l).tb = s.tb ∧ (s.setLdg l).flows = s.flows ∧
    (s.setLdg l).gates = s.gates ∧ (s.setLdg l).links = s.links ∧ (s.setLdg l).stalled = s.stalled ∧
    (s.setLdg l).nvmes = s.nvmes ∧ (s.setLdg l).ext = s.ext ∧ (s.setLdg l).dmas = s.dmas ∧ (s.setLdg l).hop = s.hop ∧
    (s.setLdg l).ibr = s.ibr ∧ (s.setLdg l).chans = s.chans ∧ (s.setLdg l).regload = s.regload ∧ (s.setLdg l).cps = s.cps ∧
    (s.setLdg l).pawls = s.pawls ∧ (s.setLdg l).sessions = s.sessions ∧ (s.setLdg l).lmap = s.lmap ∧
    (s.setLdg l).noStone = s.noStone ∧ (s.setLdg l).stones = s.stones ∧ (s.setLdg l).bolters = s.bolters ∧
    (s.setLdg l).ckpts = s.ckpts ∧ (s.setLdg l).refs = s.refs ∧ (s.setLdg l).leat = s.leat ∧ (s.setLdg l).net = s.net ∧
    (s.setLdg l).decs = s.decs ∧ (s.setLdg l).pipes = s.pipes ∧ (s.setLdg l).runners = s.runners ∧ (s.setLdg l).out = s.out :=
  ⟨rfl, rfl, rfl, rfl, rfl, rfl, rfl, rfl, rfl, rfl, rfl, rfl, rfl, rfl, rfl, rfl, rfl, rfl, rfl, rfl, rfl, rfl, rfl, rfl, rfl, rfl, rfl, rfl, rfl, rfl, rfl, rfl, rfl, rfl, rfl, rfl, rfl, rfl, rfl, rfl, rfl, rfl, rfl, rfl, rfl⟩

@[simp] theorem State.setRing_same (r : Ring) :
    (s.setRing r).part = s.part ∧ (s.setRing r).pending = s.pending ∧ (s.setRing r).free = s.free ∧ (s.setRing r).tick = s.tick ∧
    (s.setRing r).dev = s.dev ∧ (s.setRing r).clk = s.clk ∧ (s.setRing r).ldg = s.ldg ∧ (s.setRing r).regs = s.regs ∧
    (s.setRing r).shadows = s.shadows ∧ (s.setRing r).heldLo = s.heldLo ∧ (s.setRing r).pages = s.pages ∧
    (s.setRing r).i3c = s.i3c ∧ (s.setRing r).evq = s.evq ∧ (s.setRing r).inputs = s.inputs ∧ (s.setRing r).wcnt = s.wcnt ∧
    (s.setRing r).waits = s.waits ∧ (s.setRing r).cfg = s.cfg ∧ (s.setRing r).mem = s.mem ∧ (s.setRing r).sites = s.sites ∧
    (s.setRing r).tb = s.tb ∧ (s.setRing r).flows = s.flows ∧ (s.setRing r).gates = s.gates ∧ (s.setRing r).links = s.links ∧
    (s.setRing r).stalled = s.stalled ∧ (s.setRing r).nvmes = s.nvmes ∧ (s.setRing r).ext = s.ext ∧ (s.setRing r).dmas = s.dmas ∧
    (s.setRing r).hop = s.hop ∧ (s.setRing r).ibr = s.ibr ∧ (s.setRing r).chans = s.chans ∧ (s.setRing r).regload = s.regload ∧
    (s.setRing r).cps = s.cps ∧ (s.setRing r).pawls = s.pawls ∧ (s.setRing r).sessions = s.sessions ∧
    (s.setRing r).lmap = s.lmap ∧ (s.setRing r).noStone = s.noStone ∧ (s.setRing r).stones = s.stones ∧
    (s.setRing r).bolters = s.bolters ∧ (s.setRing r).ckpts = s.ckpts ∧ (s.setRing r).refs = s.refs ∧
    (s.setRing r).leat = s.leat ∧ (s.setRing r).decs = s.decs ∧ (s.setRing r).pipes = s.pipes ∧
    (s.setRing r).runners = s.runners ∧ (s.setRing r).out = s.out :=
  ⟨rfl, rfl, rfl, rfl, rfl, rfl, rfl, rfl, rfl, rfl, rfl, rfl, rfl, rfl, rfl, rfl, rfl, rfl, rfl, rfl, rfl, rfl, rfl, rfl, rfl, rfl, rfl, rfl, rfl, rfl, rfl, rfl, rfl, rfl, rfl, rfl, rfl, rfl, rfl, rfl, rfl, rfl, rfl, rfl, rfl⟩

@[simp] theorem State.setFwd_same (x : Fwd) :
    (s.setFwd x).part = s.part ∧ (s.setFwd x).pending = s.pending ∧ (s.setFwd x).free = s.free ∧ (s.setFwd x).tick = s.tick ∧
    (s.setFwd x).dev = s.dev ∧ (s.setFwd x).clk = s.clk ∧ (s.setFwd x).ldg = s.ldg ∧ (s.setFwd x).regs = s.regs ∧
    (s.setFwd x).shadows = s.shadows ∧ (s.setFwd x).heldLo = s.heldLo ∧ (s.setFwd x).pages = s.pages ∧ (s.setFwd x).i3c = s.i3c ∧
    (s.setFwd x).evq = s.evq ∧ (s.setFwd x).inputs = s.inputs ∧ (s.setFwd x).wcnt = s.wcnt ∧ (s.setFwd x).waits = s.waits ∧
    (s.setFwd x).cfg = s.cfg ∧ (s.setFwd x).mem = s.mem ∧ (s.setFwd x).sites = s.sites ∧ (s.setFwd x).tb = s.tb ∧
    (s.setFwd x).flows = s.flows ∧ (s.setFwd x).gates = s.gates ∧ (s.setFwd x).links = s.links ∧
    (s.setFwd x).stalled = s.stalled ∧ (s.setFwd x).nvmes = s.nvmes ∧ (s.setFwd x).ext = s.ext ∧ (s.setFwd x).dmas = s.dmas ∧
    (s.setFwd x).hop = s.hop ∧ (s.setFwd x).ibr = s.ibr ∧ (s.setFwd x).chans = s.chans ∧ (s.setFwd x).regload = s.regload ∧
    (s.setFwd x).cps = s.cps ∧ (s.setFwd x).pawls = s.pawls ∧ (s.setFwd x).sessions = s.sessions ∧ (s.setFwd x).lmap = s.lmap ∧
    (s.setFwd x).noStone = s.noStone ∧ (s.setFwd x).stones = s.stones ∧ (s.setFwd x).bolters = s.bolters ∧
    (s.setFwd x).ckpts = s.ckpts ∧ (s.setFwd x).refs = s.refs ∧ (s.setFwd x).leat = s.leat ∧ (s.setFwd x).decs = s.decs ∧
    (s.setFwd x).pipes = s.pipes ∧ (s.setFwd x).runners = s.runners ∧ (s.setFwd x).out = s.out :=
  ⟨rfl, rfl, rfl, rfl, rfl, rfl, rfl, rfl, rfl, rfl, rfl, rfl, rfl, rfl, rfl, rfl, rfl, rfl, rfl, rfl, rfl, rfl, rfl, rfl, rfl, rfl, rfl, rfl, rfl, rfl, rfl, rfl, rfl, rfl, rfl, rfl, rfl, rfl, rfl, rfl, rfl, rfl, rfl, rfl, rfl⟩

@[simp] theorem State.setWeir_same (w : Weir) :
    (s.setWeir w).part = s.part ∧ (s.setWeir w).pending = s.pending ∧ (s.setWeir w).free = s.free ∧ (s.setWeir w).tick = s.tick ∧
    (s.setWeir w).dev = s.dev ∧ (s.setWeir w).clk = s.clk ∧ (s.setWeir w).ldg = s.ldg ∧ (s.setWeir w).regs = s.regs ∧
    (s.setWeir w).shadows = s.shadows ∧ (s.setWeir w).heldLo = s.heldLo ∧ (s.setWeir w).pages = s.pages ∧
    (s.setWeir w).i3c = s.i3c ∧ (s.setWeir w).evq = s.evq ∧ (s.setWeir w).inputs = s.inputs ∧ (s.setWeir w).wcnt = s.wcnt ∧
    (s.setWeir w).waits = s.waits ∧ (s.setWeir w).cfg = s.cfg ∧ (s.setWeir w).mem = s.mem ∧ (s.setWeir w).sites = s.sites ∧
    (s.setWeir w).tb = s.tb ∧ (s.setWeir w).flows = s.flows ∧ (s.setWeir w).gates = s.gates ∧ (s.setWeir w).links = s.links ∧
    (s.setWeir w).stalled = s.stalled ∧ (s.setWeir w).nvmes = s.nvmes ∧ (s.setWeir w).ext = s.ext ∧ (s.setWeir w).dmas = s.dmas ∧
    (s.setWeir w).hop = s.hop ∧ (s.setWeir w).ibr = s.ibr ∧ (s.setWeir w).chans = s.chans ∧ (s.setWeir w).regload = s.regload ∧
    (s.setWeir w).cps = s.cps ∧ (s.setWeir w).pawls = s.pawls ∧ (s.setWeir w).sessions = s.sessions ∧
    (s.setWeir w).lmap = s.lmap ∧ (s.setWeir w).noStone = s.noStone ∧ (s.setWeir w).stones = s.stones ∧
    (s.setWeir w).bolters = s.bolters ∧ (s.setWeir w).ckpts = s.ckpts ∧ (s.setWeir w).refs = s.refs ∧
    (s.setWeir w).leat = s.leat ∧ (s.setWeir w).decs = s.decs ∧ (s.setWeir w).pipes = s.pipes ∧
    (s.setWeir w).runners = s.runners ∧ (s.setWeir w).out = s.out :=
  ⟨rfl, rfl, rfl, rfl, rfl, rfl, rfl, rfl, rfl, rfl, rfl, rfl, rfl, rfl, rfl, rfl, rfl, rfl, rfl, rfl, rfl, rfl, rfl, rfl, rfl, rfl, rfl, rfl, rfl, rfl, rfl, rfl, rfl, rfl, rfl, rfl, rfl, rfl, rfl, rfl, rfl, rfl, rfl, rfl, rfl⟩

@[simp] theorem State.setCfg_same (x : CfgChk) :
    (s.setCfg x).part = s.part ∧ (s.setCfg x).pending = s.pending ∧ (s.setCfg x).free = s.free ∧ (s.setCfg x).tick = s.tick ∧
    (s.setCfg x).dev = s.dev ∧ (s.setCfg x).clk = s.clk ∧ (s.setCfg x).ldg = s.ldg ∧ (s.setCfg x).regs = s.regs ∧
    (s.setCfg x).shadows = s.shadows ∧ (s.setCfg x).heldLo = s.heldLo ∧ (s.setCfg x).pages = s.pages ∧ (s.setCfg x).i3c = s.i3c ∧
    (s.setCfg x).evq = s.evq ∧ (s.setCfg x).inputs = s.inputs ∧ (s.setCfg x).wcnt = s.wcnt ∧ (s.setCfg x).waits = s.waits ∧
    (s.setCfg x).mem = s.mem ∧ (s.setCfg x).sites = s.sites ∧ (s.setCfg x).tb = s.tb ∧ (s.setCfg x).flows = s.flows ∧
    (s.setCfg x).gates = s.gates ∧ (s.setCfg x).links = s.links ∧ (s.setCfg x).stalled = s.stalled ∧
    (s.setCfg x).nvmes = s.nvmes ∧ (s.setCfg x).ext = s.ext ∧ (s.setCfg x).dmas = s.dmas ∧ (s.setCfg x).hop = s.hop ∧
    (s.setCfg x).ibr = s.ibr ∧ (s.setCfg x).chans = s.chans ∧ (s.setCfg x).regload = s.regload ∧ (s.setCfg x).cps = s.cps ∧
    (s.setCfg x).pawls = s.pawls ∧ (s.setCfg x).sessions = s.sessions ∧ (s.setCfg x).lmap = s.lmap ∧
    (s.setCfg x).noStone = s.noStone ∧ (s.setCfg x).stones = s.stones ∧ (s.setCfg x).bolters = s.bolters ∧
    (s.setCfg x).ckpts = s.ckpts ∧ (s.setCfg x).refs = s.refs ∧ (s.setCfg x).leat = s.leat ∧ (s.setCfg x).net = s.net ∧
    (s.setCfg x).decs = s.decs ∧ (s.setCfg x).pipes = s.pipes ∧ (s.setCfg x).runners = s.runners ∧ (s.setCfg x).out = s.out :=
  ⟨rfl, rfl, rfl, rfl, rfl, rfl, rfl, rfl, rfl, rfl, rfl, rfl, rfl, rfl, rfl, rfl, rfl, rfl, rfl, rfl, rfl, rfl, rfl, rfl, rfl, rfl, rfl, rfl, rfl, rfl, rfl, rfl, rfl, rfl, rfl, rfl, rfl, rfl, rfl, rfl, rfl, rfl, rfl, rfl, rfl⟩

@[simp] theorem State.flow?_setFlow (f j : Nat) (x : Flow) : (s.setFlow f x).flow? j = if j = f then some x else s.flow? j :=
  Tbl.get?_set _ _ _ _

@[simp] theorem State.emit_out (o : Out) : (s.emit o).out = o :: s.out := rfl
@[simp] theorem State.reach_tick (k : Nat) : (s.reach k).tick = max s.tick k := rfl
@[simp] theorem State.spend_free : s.spend.free = s.free + 1 := rfl

/-! An accessor reads its own field (and the part type) alone. -/

theorem State.reg_congr {s t : State} (h : t.regs = s.regs) (p : t.part = s.part) (j : Nat) : t.reg j = s.reg j := by
  simp only [State.reg, h, p]

theorem State.pg_congr {s t : State} (h : t.pages = s.pages) (j : Nat) : t.pg j = s.pg j := by
  simp only [State.pg, h]

theorem State.site_congr {s t : State} (h : t.sites = s.sites) (j : Nat) : t.site j = s.site j := by
  simp only [State.site, h]

theorem State.link_congr {s t : State} (h : t.links = s.links) (j : Nat) : t.link j = s.link j := by
  simp only [State.link, h]

theorem State.nvme_congr {s t : State} (h : t.nvmes = s.nvmes) (j : Nat) : t.nvme j = s.nvme j := by
  simp only [State.nvme, h]

theorem State.dma_congr {s t : State} (h : t.dmas = s.dmas) (j : Nat) : t.dma j = s.dma j := by
  simp only [State.dma, h]

theorem State.pool_congr {s t : State} (h : t.hop = s.hop) (j : Nat) : t.pool j = s.pool j := by
  simp only [State.pool, h]

theorem State.slot_congr {s t : State} (h : t.ibr = s.ibr) (j : Nat) : t.slot j = s.slot j := by
  simp only [State.slot, h]

theorem State.chan_congr {s t : State} (h : t.chans = s.chans) (j : Nat) : t.chan j = s.chan j := by
  simp only [State.chan, h]

theorem State.cp_congr {s t : State} (h : t.cps = s.cps) (p : t.part = s.part) (j : Nat) : t.cp j = s.cp j := by
  simp only [State.cp, h, p]

theorem State.pawl_congr {s t : State} (h : t.pawls = s.pawls) (j : Nat) : t.pawl j = s.pawl j := by
  simp only [State.pawl, h]

theorem State.gate_congr {s t : State} (h : t.gates = s.gates) (j : Nat) : t.gate j = s.gate j := by
  simp only [State.gate, h]

theorem State.ses_congr {s t : State} (h : t.sessions = s.sessions) (j : Nat) : t.ses j = s.ses j := by
  simp only [State.ses, h]

theorem State.stone_congr {s t : State} (h : t.stones = s.stones) (p : t.part = s.part) (j : Nat) : t.stone j = s.stone j := by
  simp only [State.stone, h, p]

theorem State.bolter_congr {s t : State} (h : t.bolters = s.bolters) (j : Nat) : t.bolter j = s.bolter j := by
  simp only [State.bolter, h]

theorem State.rbuf_congr {s t : State} (h : t.refs = s.refs) (j : Nat) : t.rbuf j = s.rbuf j := by
  simp only [State.rbuf, h]

theorem State.rses_congr {s t : State} (h : t.refs = s.refs) (j : Nat) : t.rses j = s.rses j := by
  simp only [State.rses, h]

theorem State.lane_congr {s t : State} (h : t.leat = s.leat) (j : Nat) : t.lane j = s.lane j := by
  simp only [State.lane, h]

theorem State.dec_congr {s t : State} (h : t.decs = s.decs) (j : Nat) : t.dec j = s.dec j := by
  simp only [State.dec, h]

theorem State.pipe_congr {s t : State} (h : t.pipes = s.pipes) (j : Nat) : t.pipe j = s.pipe j := by
  simp only [State.pipe, h]

theorem State.runner_congr {s t : State} (h : t.runners = s.runners) (p : t.part = s.part) (j : Nat) : t.runner j = s.runner j := by
  simp only [State.runner, h, p]

theorem State.lib_congr {s t : State} (h : t.runners = s.runners) (j : Nat) : t.lib j = s.lib j := by
  simp only [State.lib, h]

theorem State.port_congr {s t : State} (h : t.net = s.net) (j : Nat) : t.port j = s.port j := by
  simp only [State.port, h]

end Sys2Proof.Machine
end

