-- ==== Sys2Proof/Tests/Slice0.lean ====
section
/-!
SUPPORT. Tests of the model on small states: what each statement assumes is met by a state, and what the command then does there.
-/

namespace Sys2Proof.Tests

open Machine

set_option Elab.async false

/-! ## Well-formed commands -/

/-- A command that names one unit too many of each kind, and numbers outside their fields: each is refused. -/
theorem test_ill_formed : let p := State.reset.part
    ∀ i ∈ [Instr.stoneTakeover p.stonesPhys, .bolterRowStart 16, .frameStart p.encSessions, .decSessionStopped p.decSessions, .decWatchdog p.pipes,
      .runnerTakeover p.runnersPhys, .runnerAssignApply p.runnersUse, .cpNop p.cpsPhys, .cpImgMove .i3c 0 p.cpsUse, .pawlNop p.quads, .slackWakeFrame p.quads 0,
      .pcieLinkDown p.pcieQuads, .portUp (4 * p.quads), .chanStop .i3c p.channels, .egressCloseDone p.devtab, .dramRefresh p.sites, .dmaTransferStart 32,
      .hopGrant 6, .hopResvWrite .i3c 64 false 0, .stripeDb 8 0, .comparatorMatch 32, .sluFlowReload .i3c 4096, .historyExpiry 256 0, .leatStale 0 2,
      .refClsWrite .i3c 16 0 0, .refClsWrite .i3c 0 4 0, .libRemove .i3c 16, .ibrClear .i3c 4096, .ibrImport .i3c 0 4096, .eicMask .i3c 0 4096,
      .maBankHashWrite .i3c 6 0, .overtemp 6 0, .errorDetect 0 16 ⟨0, 0, 0⟩ 0, .pgSresetDone 100000, .rcRead .i3c (2 ^ 24) 4, .dramLineRead 0 0 63 0,
      .setmwl 65536, .bringupFail 0, .bringupFail 6, .pcieLinkUp 0 0 1 false, .pcieLinkUp 0 7 1 false, .pcieLinkUp 0 1 3 false,
      .pdDrainExpiry (.quad p.quads), .keyStoreIntegrityFail (.slot 4096)], WellFormed p i = false := by decide +kernel
/-- The last of each kind is well formed, and so are commands with no such operand. -/
theorem test_well_formed : let p := State.reset.part
    ∀ i ∈ [Instr.stoneTakeover (p.stonesPhys - 1), .decWatchdog (p.pipes - 1), .cpImgMove .i3c (p.cpsPhys - 1) (p.cpsUse - 1), .portUp (4 * p.quads - 1),
      .ibrImport .i3c 4095 0xFFFF, .pcieLinkUp (p.pcieQuads - 1) 6 16 true, .pdDrainExpiry .core, .keyStoreIntegrityFail .fuse, .bringupFail 5, .pgSresetDone 0,
      .ringAnnounceTimer], WellFormed p i = true := by decide +kernel
/-- A part with no decode pipelines has no decode session to start. -/
theorem test_ill_formed_part : WellFormed .nrt9640 (.decStart (.channel 3) 0 0) = false := by decide +kernel

/-! ## Queue, reset and I3C -/

/-- The reset state. -/
def z0 : State := State.reset
/-- The reset state with a dynamic address. -/
def z : State := { z0 with i3c := { z0.i3c with da := some 0x12#7 } }
/-- A channel whose CHAN_PRIV is set holds the REGLOAD path. -/
def viaReg (s : State) : State := { s.setChan 5 { s.chan 5 with priv := true } with regload := [5] }
/-- A state in another mode. -/
def inMode (m : Mode) (s : State) : State := { s with dev := { s.dev with mode := m } }
/-- RUN. -/
def zR : State := inMode .run z
/-- A state with a channel changed. -/
def withChan (f : Chan → Chan) : State := zR.setChan 0 (f (zR.chan 0))
/-- A step of an OP with every other field 0, of 64 bytes at 64. -/
def stp (op : Nat) : Step :=
  { op := op, flags := 0, dev := 0, count := 64, addr := 64, p0 := 0, p1 := 0, key := 0, timeout := 0, retry := 0, rsvd := 0 }
/-- A step just dispatched, with its two devices. -/
def run (op : Nat) (e m : List Nat) : StepRun := stepRun (stp op) e m 0 []
/-- Channel 0 with a step in progress. -/
def running (r : StepRun) : State := withChan fun x => { x with cfg := x.cfg ||| 1, st := .active, pc := 128, run := some r }
/-- A page takes work. -/
def on (f : Fam) (n : Nat) (s : State) : State := s.setPg (ordOf f n) { s.pg (ordOf f n) with enable := true }

/-- What a step leaves. -/
def stepped (s : State) : State :=
  match step s with
  | .next t => t
  | _ => s
theorem test_step_front : let s := stepped { z with pending := [.setmwl 9, .setmrl 8] }
    s.i3c.mwl = 9 ∧ s.i3c.mrl = 256 ∧ s.pending = [.setmrl 8] := by decide +kernel
theorem test_step_tick : z.dev.mode ≠ .off ∧ z.pending = [] ∧ stepped z = { z with tick := 1 } := by decide +kernel
theorem test_step_off : (inMode .off z).pending = [] ∧ stepped (inMode .off z) = inMode .off z := by decide +kernel

theorem test_enec : z.i3cUp = true ∧ (after (.disec 1#8) z).i3c.ibiEn = false ∧
    (after (.enec 1#8) (after (.disec 1#8) z)).i3c.ibiEn = true ∧ (2#8).getLsbD 0 = false ∧ (after (.disec 2#8) z).i3c.ibiEn = true := by decide +kernel
theorem test_entdaa : z0.i3cUp = true ∧ z0.i3c.da = none ∧ (after (.entdaa 0x21#7) z0).i3c.da = some 0x21#7 ∧
    (after (.entdaa 0x21#7) z0).out = [.i3cData [0x36, 0x99, 0, 0, 0, 0, 0x26, 0]] := by decide +kernel
theorem test_setdasa : (after (.setdasa 0x5A#7 0x33#7) z0).i3c.da = some 0x33#7 ∧ (after (.setdasa 0x5B#7 0x33#7) z0).i3c.da = none ∧
    z.i3c.da ≠ none ∧ (after (.setdasa 0x5A#7 0x33#7) z).i3c.da = some 0x12#7 ∧ (after .rstdaa z).i3c.da = none := by decide +kernel
theorem test_setmwl_edges : (after (.setmwl 6) z).i3c.mwl = 7 ∧ (after (.setmwl 1028) z).i3c.mwl = 1027 ∧
    (after (.setmrl 3) z).i3c.mrl = 4 ∧ (after (.setmrl 1025) z).i3c.mrl = 1024 := by decide +kernel
theorem test_rstact_arms : z.dev.mode ≠ .halt ∧ (after (.rstact .broadcast 0) z).i3c.armed = some .none ∧
    (after (.rstact .broadcast 1) z).i3c.armed = some .target ∧ (after (.rstact .broadcast 2) z).i3c.armed = some .whole ∧
    2 < (3#8).toNat ∧ (after (.rstact .broadcast 3) z).i3c.armed = none ∧ (after (.rstact .direct 3) z).out = [.i3cNack] := by decide +kernel
theorem test_getmrl : z.i3cUp = true ∧ z.i3c.da ≠ none ∧ (after .getmwl z).out = [.i3cData [1, 3]] ∧
    (after .getmrl z).out = [.i3cData [1, 0, 4]] ∧ (after .getbcr z).out = [.i3cData [0x26]] ∧ (after .getdcr z).out = [.i3cData [0]] := by decide +kernel
theorem test_getpid_nack : (after .getpid z0).out = [.i3cNack] ∧ (after (.rstactRead 0x81) z0).out = [.i3cNack] ∧
    (0x83#8 ≠ 0x81 ∧ 0x83#8 ≠ 0x82 ∧ (after (.rstactRead 0x83#8) z).out = [.i3cNack]) := by decide +kernel
theorem test_getstatus : let s := { z with i3c := { z.i3c with proto := true, ibis := List.replicate 17 ⟨2, 0⟩ } }
    s.i3cUp = true ∧ s.i3c.da ≠ none ∧ (after .getstatus s).out = [.i3cData [2, 0x2F]] ∧ (after .getstatus s).i3c.proto = false := by decide +kernel
theorem test_ibi_accept : let s := { z with i3c := { z.i3c with ibis := [⟨2, 5⟩, ⟨3, 6⟩] } }
    s.i3cUp = true ∧ s.i3c.ibiEn = true ∧ (after (.ibiIssue true) s).i3c.ibis = [⟨3, 6⟩] ∧
    (after (.ibiIssue true) s).out = [.ibi 2 5] ∧ (after (.ibiIssue true) s).reg Reg.i3cIbis = 1 ∧
    (after (.ibiIssue false) s).i3c = s.i3c ∧ (after (.ibiIssue false) s).reg Reg.i3cIbiNacks = 1 := by decide +kernel
theorem test_ibi_none : z0.i3c.da = none ∧ after (.ibiIssue true) z0 = z0 := by decide +kernel
theorem test_target_reset : z.i3cUp = true ∧ z.dev.mode ≠ .halt ∧ z.i3c.armed = none ∧
    (after .targetResetPattern z).i3c = { I3c.reset with resetting := true } ∧
    (after .i3cTargetResetEnd (after .targetResetPattern z)).i3c = I3c.reset := by decide +kernel
theorem test_target_reset_none : let s := { z with i3c := { z.i3c with armed := some .none } }
    s.i3cUp = true ∧ after .targetResetPattern s = z := by decide +kernel

/-! ## Power, resets and modes -/

theorem test_power : let s := { z with mem := z.mem.store 5 [7] }
    (after .pwrOkFall s).dev.mode = .off ∧ (after .railUndervoltage s).mem.cells = [] ∧ (after .pwrOkFall s).dev.pwrOk = false ∧
    (after .pwrOkFall s).i3c.da = none ∧ (after .pwrOkRise (after .pwrOkFall s)).dev.mode = .bringup ∧
    (after .pwrOkRise (after .pwrOkFall s)).dev.cause = .por := by decide +kernel
theorem test_reset_n : z.dev.resetN = true ∧ (after .resetNAssert z).dev.mode = .bringup ∧ (after .resetNAssert z).i3c.da = none ∧
    (after .resetNRelease (after .resetNAssert z)).dev.resetN = true := by decide +kernel
theorem test_reset_n_halt : (inMode .halt z).dev.mode = .halt ∧ (after .resetNAssert (inMode .halt z)).dev.mode = .halt := by decide +kernel
theorem test_rstact2 : let s := { z with i3c := { z.i3c with armed := some .whole } }
    s.i3cUp = true ∧ s.dev.mode ≠ .halt ∧ (after .targetResetPattern s).dev.mode = .bringup ∧ (after .targetResetPattern s).dev.cause = .rstact2 ∧
    (after .targetResetPattern s).i3c.da = none := by decide +kernel

/-- BRINGUP with the Ledger of reset, whose sections are empty. -/
def zB : State := inMode .bringup z
theorem test_bringup : zB.buRuns = true ∧ zB.buCode = 0 ∧ (after (.bringupComplete 700) zB).dev.mode = .standby ∧
    (after (.bringupComplete 700) zB).dev.buMs = 700 := by decide +kernel
theorem test_bringup_fail : zB.buMayFail 3 = true ∧ zB.dev.retried = false ∧ (after (.bringupFail 3) zB).dev.retried = true ∧
    (after (.bringupFail 3) zB).dev.mode = .bringup := by decide +kernel
theorem test_bringup_fail_twice : let s := after (.bringupFail 3) zB
    s.buRuns = true ∧ s.buMayFail 3 = true ∧ s.dev.retried = true ∧ (after (.bringupFail 3) s).dev.stuck = true ∧
    (after (.bringupFail 3) s).alert = true := by decide +kernel
theorem test_req_run : z.takes .i3c = true ∧ z.dev.changing = none ∧ z.short = false ∧ (after (.reqRun .i3c) z).dev.mode = .run ∧
    (after (.reqRun .i3c) { z with noStone := [0] }).dev.mode = .degraded := by decide +kernel
theorem test_req_drain : zR.takes .i3c = true ∧ (after (.reqDrain .i3c) zR).dev.mode = .drain ∧ (after (.reqSlack .i3c) zR).dev.result = 1 ∧
    (after (.reqRun .i3c) zR).dev.mode = .run := by decide +kernel
theorem test_req_standby : let s := after (.reqDrain .i3c) zR
    s.takes .i3c = true ∧ s.drained = true ∧ s.sessionsFree = true ∧ s.mrActive = 0 ∧ (after (.reqStandby .i3c) s).dev.mode = .standby ∧
    (after (.reqRun .i3c) s).dev.mode = .run := by decide +kernel
theorem test_req_standby_busy : let s := (after (.reqDrain .i3c) zR).setSes 0 { z.ses 0 with st := .held }
    s.sessionsFree = false ∧ s.dev.mode = .drain ∧ (after (.reqStandby .i3c) s).dev.mode = .drain ∧ (after (.reqStandby .i3c) s).dev.result = 2 := by decide +kernel
theorem test_req_slack : z.slackReady = true ∧ (after (.reqSlack .i3c) z).dev.mode = .slack ∧ (after (.reqSlack .i3c) z).clk.core = false ∧
    (after (.reqStandby .i3c) (after (.reqSlack .i3c) z)).dev.mode = .standby ∧
    (after (.reqStandby .i3c) (after (.reqSlack .i3c) z)).clk.core = true := by decide +kernel
theorem test_req_slack_busy : let s := z.setSes 0 { z.ses 0 with st := .ready }
    s.slackReady = false ∧ (after (.reqSlack .i3c) s).dev.mode = .standby ∧ (after (.reqSlack .i3c) s).dev.result = 2 := by decide +kernel
/-- SLACK with WAKE_EN 1, keep-alive on quad 3, and a wake address. -/
def zS : State :=
  ((((after (.reqSlack .i3c) z).setReg Reg.slackCtl 1#32).setReg (Reg.quadCfg 3) 0x105#32).setReg Reg.slackWakeDaLo 0x11223344#32).setReg
    Reg.slackWakeDaHi 0x5566#32
theorem test_wake : zS.live = true ∧ zS.dev.mode = .slack ∧ flag (zS.reg Reg.slackCtl) 0 = true ∧ zS.keepAlive 3 = true ∧
    (0x556611223344#48).toNat = (zS.reg Reg.slackWakeDaLo).toNat + (zS.reg Reg.slackWakeDaHi).toNat % 65536 * 2 ^ 32 ∧
    (after (.slackWakeFrame 3 0x556611223344#48) zS).dev.mode = .standby ∧ (after (.slackWakeFrame 3 0x1#48) zS).dev.mode = .slack := by decide +kernel
theorem test_sreset : let s := (zR.setSes 3 { z.ses 3 with st := .ready }).setChan 2 { z.chan 2 with st := .held }
    s.live = true ∧ s.dev.sreset = false ∧ s.running = true ∧ (after (.devSreset .i3c) s).dev.sreset = true ∧
    ((after (.devSreset .i3c) s).ses 3).st = .free ∧ ((after (.devSreset .i3c) s).chan 2).st = .idle ∧
    (after (.devSreset .i3c) s).evq.suspended = true ∧ (after .devSresetDone (after (.devSreset .i3c) s)).dev.mode = .standby ∧
    (after .devSresetDone (after (.devSreset .i3c) s)).dev.sreset = false := by decide +kernel
theorem test_sreset_slack : zS.live = true ∧ zS.dev.mode = .slack ∧ after (.devSreset .i3c) zS = zS := by decide +kernel
theorem test_pll : let t := after (.corePllLoss .vclk) zR
    zR.live = true ∧ zR.clk.locked .vclk = true ∧ (zR.pg (ordOf .clkpwr 0)).resetting = false ∧ t.clk.vclk = false ∧
    (t.pg (ordOf .clkpwr 0)).err.getLsbD 0 = true ∧ (after (.corePllRelock .vclk) t).clk.vclk = true := by decide +kernel
theorem test_pll_timeout : let t := (after (.corePllLoss .vclk) zR).setSes 0 { z.ses 0 with st := .ready }
    t.live = true ∧ t.clk.locked .vclk = false ∧ Tbl.get? t.clk.lostAt (Clk.code .vclk) = some 0 ∧
    1250000 ≤ (after (.corePllRelockTimeout .vclk) t).tick ∧ ((after (.corePllRelockTimeout .vclk) t).ses 0).st = .free := by decide +kernel
theorem test_overtemp : (2800#16).toInt ≤ 2800 ∧ signed 16 (fld (z.reg Reg.tjAlert) 15 0) < (2800#16).toInt ∧
    (z.pg (ordOf .clkpwr 0)).resetting = false ∧ (after (.overtemp 5 2800#16) z).reg (Reg.devTj 5) = 2800#32 ∧
    ((after (.overtemp 5 2800#16) z).pg (ordOf .clkpwr 0)).err.getLsbD 1 = true ∧ (after (.overtemp 5 2800#16) z).dev.mode = .standby := by decide +kernel

/-! ## HALT, pages and registers -/

/-- RUN with a session, a channel and a key. -/
def zRun : State :=
  ((zR.setSes 3 { z.ses 3 with st := .ready }).setChan 2 { z.chan 2 with st := .held }).setSlot 9 { KeySlot.empty with typ := 1 }
theorem test_halt : zRun.dev.mode ≠ .off ∧ zRun.dev.mode ≠ .halt ∧ 0 < zRun.part.cpsPhys ∧
    (∀ i ∈ [Instr.tamper .mesh, .keyStoreIntegrityFail .fuse, .lockstepDoubleParity 0],
      (after i zRun).dev.mode = .halt ∧ (after i zRun).alert = true ∧ (after i zRun).ibr.slots = [] ∧ ((after i zRun).ses 3).st = .free ∧
      ((after i zRun).chan 2).st = .idle) := by decide +kernel
theorem test_tamper_latch : (after (.tamper .clock) zRun).ibr.tamper = 2#4 ∧
    after (.tamper .clock) (inMode .off z) = inMode .off z := by decide +kernel
theorem test_pg_ctl : z.live = true ∧ pageAt z.part 9 = some (.stone, 0) ∧ (z.pg 9).drainFreeze = none ∧
    ((after (.pgCtlEnable .i3c 9 true) z).pg 9).enable = true ∧ ((after (.pgCtlFreeze .i3c 9 true) z).pg 9).freeze = true := by decide +kernel
theorem test_pg_freeze_drain : let s := after (.reqDrain .i3c) zR
    (s.pg 9).drainFreeze = some false ∧ s.live = true ∧ ((after (.pgCtlFreeze .i3c 9 true) s).pg 9).drainFreeze = some true := by decide +kernel
theorem test_err_class : Fam.stone.info.classes ≠ [] ∧ (after (.errClassWrite .i3c 9 0xFFF03#32) z).reg (baseOf .stone 0 + 0x1C) = 0xF97#32 := by
  decide +kernel
theorem test_page_reset : (z.pg 3).resetting = false ∧ ((after (.pgCtlSreset .i3c 3) z).pg 3).resetting = true ∧
    ((after (.pgCtlSreset .i3c 9) z).pg 9).enable = false ∧ z.up = true ∧ z.dev.sreset = false ∧
    ((after (.pgCtlSreset .i3c 3) z).pg 3).held = [] ∧ ((after (.pgSresetDone 3) (after (.pgCtlSreset .i3c 3) z)).pg 3).resetting = false := by
  decide +kernel
theorem test_error_detect : pageAt z.part 3 = some (.i3c, 0) ∧ 4 < Fam.i3c.info.classes.length ∧ (z.pg 3).resetting = false ∧
    ((after (.errorDetect 3 4 ⟨5, 6, 7⟩ 0) z).pg 3).err = 16#16 ∧ ((after (.errorDetect 3 4 ⟨5, 6, 7⟩ 0) z).pg 3).capAddr = 5#64 ∧
    ((after (.errorDetect 3 4 ⟨5, 6, 7⟩ 0) z).pg 3).armed = false := by decide +kernel
theorem test_error_again : let s := after (.errorDetect 3 4 ⟨5, 6, 7⟩ 0) z
    (s.pg 3).armed = false ∧ ((after (.errorDetect 3 0 ⟨8, 8, 8⟩ 0) s).pg 3).merged = 1 ∧
    ((after (.errorDetect 3 0 ⟨8, 8, 8⟩ 0) s).pg 3).capAddr = 5#64 := by decide +kernel
theorem test_error_held : let s := after (.pgCtlSreset .i3c 3) z
    (s.pg 3).resetting = true ∧ ((after (.errorDetect 3 4 ⟨5, 6, 7⟩ 9) s).pg 3).held = [⟨4, ⟨5, 6, 7⟩, 9⟩] ∧
    ((after (.pgSresetDone 3) (after (.errorDetect 3 4 ⟨5, 6, 7⟩ 9) s)).pg 3).err = 16#16 := by decide +kernel
theorem test_error_halt : let s := inMode .halt z
    s.dev.mode = .halt ∧ (after (.errorDetect 3 4 ⟨5, 6, 7⟩ 9) s).inputs = [] ∧ ((after (.errorDetect 3 4 ⟨5, 6, 7⟩ 9) s).pg 3).err = 16#16 := by
  decide +kernel
theorem test_force : ((after (.errForce .i3c 1 (BitVec.ofNat 16 (2 ^ 1))) z).pg 1).err = 2#16 ∧
    ((after (.errForce .i3c 1 (BitVec.ofNat 16 (2 ^ 1))) z).pg 1).capMaster = 0xFFF#12 := by decide +kernel
/-- The reset state with the REGLOAD path open. -/
def zG : State := viaReg z
theorem test_reads : let s := after (.errorDetect 3 4 ⟨5, 6, 7⟩ 0) zG
    s.takes .regload = true ∧ pageAt s.part 3 = some (.i3c, 0) ∧ Fam.i3c.info.classes ≠ [] ∧
    Tbl.get? s.shadows (pathKey .regload (baseOf .i3c 0 + 0x10)) = none ∧
    Tbl.get? s.shadows (pathKey .regload (baseOf .i3c 0 + 0x34)) = none ∧ (s.pg 3).int ≠ 0 ∧
    ((after (.errStatRead .regload 3 4) s).pg 3).err = 0 ∧ ((after (.rcRead .regload (baseOf .i3c 0 + 0x34) 4) s).pg 3).int = 0 := by
  decide +kernel
theorem test_lo_read : let a := baseOf .i3c 0 + 0x20
    zG.takes .regload = true ∧ zG.readable a = true ∧ pageOf z.part a = some (.i3c, 0) ∧ Fam.i3c.latches (a % 0x400) = true ∧
    Fam.i3c.rcBits (a % 0x400) = 0 ∧ Tbl.get? (after (.loWordRead .regload a 4) zG).shadows (pathKey .regload (a + 4)) = some 0#32 := by
  decide +kernel
theorem test_tb_now : (after (.tbNowLoRead .regload 4) { zG with tick := 77 }).shadows.length = 5 := by decide +kernel
theorem test_tb_now_i3c : z.i3cAddressed = true ∧ 4 ≤ z.i3c.mrl ∧ Tbl.get? z.shadows (pathKey .i3c Reg.tbNowLo) = none ∧
    (after (.tbNowLoRead .i3c 4) { z with tick := 77 }).shadows.length = 5 ∧
    (after (.tbNowLoRead .i3c 4) { z with tick := 77 }).out = [.i3cData (leBytes 4 77)] := by decide +kernel
theorem test_i3c_read : let s := after (.errorDetect 3 4 ⟨5, 6, 7⟩ 0) z
    4 ≤ s.i3c.mrl ∧ pageAt s.part 3 = some (.i3c, 0) ∧ s.i3cAddressed = true ∧
    Tbl.get? s.shadows (baseOf .i3c 0 + 0x10) = none ∧ (after (.errStatRead .i3c 3 4) s).out = [.i3cData [16, 0, 0, 0]] ∧
    ((after (.errStatRead .i3c 3 4) s).pg 3).err = 0 ∧
    z0.i3cAddressed = false ∧ (pageAt z0.part 3).isSome = true ∧ (after (.errStatRead .i3c 3 4) z0).out = [.i3cNack] := by decide +kernel
/-- R33: a read that ends within the word takes its bytes and clears nothing. -/
theorem test_i3c_read_cut : let s := after (.errorDetect 3 4 ⟨5, 6, 7⟩ 0) z
    (after (.errStatRead .i3c 3 3) s).out = [.i3cData [16, 0, 0]] ∧ ((after (.errStatRead .i3c 3 3) s).pg 3).err = 16#16 := by decide +kernel
theorem test_reserved_read : z.readable 0x3FFF00 = false ∧ z.i3cAddressed = true ∧ z.dev.mode ≠ .halt ∧
    (z.pg (ordOf .i3c 0)).resetting = false ∧ (after (.reservedLocationRead 0x3FFF00 4) z).out = [.i3cData [0xAD, 0x0B, 0xFF, 0xFF]] ∧
    (⟨2, 0x3FFF00⟩ : Ibi) ∈ (after (.reservedLocationRead 0x3FFF00 4) z).i3c.ibis := by decide +kernel
theorem test_reg_write : zG.takes .regload = true ∧
    (after (.registerWrite .regload (leBytes 3 Reg.tjAlert ++ leBytes 4 0xABCDEF12)) zG).reg Reg.tjAlert = 0xEF12#32 ∧
    (after (.registerWrite .i3c (leBytes 3 Reg.tjAlert ++ leBytes 4 0xABCDEF12)) z).reg Reg.tjAlert = 0xEF12#32 ∧
    (after (.registerWrite .regload (leBytes 3 Reg.pdDrainUs ++ leBytes 4 0xABCDEF12)) zG).reg Reg.pdDrainUs = 0xEF12#32 ∧
    (after (.registerWrite .regload (leBytes 3 Reg.slackCtl ++ leBytes 4 0xABCDEF12)) zG).reg Reg.slackCtl = 2#32 := by decide +kernel
/-- No REGLOAD step holds the path: nothing is written. -/
theorem test_reg_write_no_path : z.takes .regload = false ∧
    (after (.registerWrite .regload (leBytes 3 Reg.tjAlert ++ leBytes 4 0xABCDEF12)) z).reg Reg.tjAlert = z.reg Reg.tjAlert := by
  decide +kernel
theorem test_reg_write_more :
    (after (.registerWrite .regload (leBytes 3 Reg.evqNotifyCoal ++ leBytes 4 0xABCDEF12)) zG).reg Reg.evqNotifyCoal = 0xABCDEF12#32 ∧
    (after (.registerWrite .regload (leBytes 3 Reg.ldgMinIntervalS ++ leBytes 4 0xABCDEF12)) zG).reg Reg.ldgMinIntervalS = 0xEF12#32 ∧
    (after (.registerWrite .regload (leBytes 3 Reg.evqLagLimit ++ leBytes 4 0xABCDEF12)) zG).reg Reg.evqLagLimit = 0xABCDEF12#32 := by
  decide +kernel
theorem test_reg_write_shut : zG.writeShut .regload 0x3FFF00 = true ∧ (zG.pg (ordOf .i3c 0)).armed = true ∧
    (zG.pg (ordOf .i3c 0)).resetting = false ∧
    ((after (.registerWrite .regload (leBytes 3 0x3FFF00 ++ leBytes 4 7)) zG).pg 3).capAddr = 0x3FFF00#64 ∧
    ((after (.registerWrite .regload (leBytes 3 0x3FFF00 ++ leBytes 4 7)) zG).pg 3).capMaster = 0x201#12 ∧
    ((after (.registerWrite .regload (leBytes 3 0x3FFF00 ++ leBytes 4 7)) zG).pg 3).capAcc = 0xA#4 := by decide +kernel
theorem test_reg_write_halt : let s := inMode .halt z
    s.i3cAddressed = true ∧ (after (.registerWrite .i3c (leBytes 3 Reg.tjAlert ++ leBytes 4 5)) s).reg Reg.tjAlert = z.reg Reg.tjAlert ∧
    (after (.registerWrite .i3c (leBytes 3 Reg.tjAlert ++ leBytes 4 5)) z0).out = [.i3cNack] := by decide +kernel
theorem test_hdr : (after (.enthdr0 [.write (leBytes 3 Reg.tjAlert ++ leBytes 4 5) true]) z).reg Reg.tjAlert = 5#32 ∧
    ((after (.enthdr0 [.write (leBytes 3 Reg.tjAlert ++ leBytes 4 5) false]) z).pg 3).err.getLsbD 3 = true ∧
    (after (.enthdr0 [.readAddr (leBytes 3 0xC40) true, .read 4]) z).out = [.i3cData [0x92, 0, 0, 0]] ∧ z0.i3cAddressed = false ∧ after (.enthdr0 [.read 1]) z0 = z0 := by decide +kernel
theorem test_unlisted : fld 0x33#32 7 4 ≠ 1 ∧ fld 0x33#32 7 4 ≠ 2 ∧ fld 0x33#32 3 0 ≠ 1 ∧ fld 0x33#32 3 0 ≠ 2 ∧ fld 0x36#32 2 0 = 6 ∧
    fld 0x37#32 3 0 = 7 ∧ z.ldg.busy = false ∧
    (after (.unlistedCommandCode .i3c (baseOf .hopper 0 + 0x40) 0x33#32) z).hop.result = 3 ∧
    (after (.unlistedCommandCode .i3c (baseOf .memarb 0 + 0xA0) 0x33#32) z).mem.scrubRes = 3 ∧
    (after (.unlistedCommandCode .i3c (baseOf .runners0 0 + 0x50) 0x33#32) z).runners.result = 6 ∧ fld 0x33#32 15 12 ≠ 1 ∧ z.takes .i3c = true ∧ fld 0x36#32 2 0 > 5 ∧ fld 0x37#32 3 0 > 6 ∧
    (after (.unlistedCommandCode .i3c (baseOf .sluice 0 + 0x60) 0x33#32) z).reg Reg.sluFlowResult = 3#32 ∧
    (after (.unlistedCommandCode .i3c (baseOf .ledger 0 + 0x48) 0x37#32) z).ldg.result = 6 ∧
    (after (.unlistedCommandCode .i3c (baseOf .fwd 0 + 0x78) 0x36#32) z).net.fwd.staged = [] := by decide +kernel
theorem test_cfg_commit : (after (.cfgCommit .i3c 0xC5A1#32) z).cfg.commitBusy = true ∧ after (.cfgCommit .i3c 0xC5A0#32) z = z ∧
    flag ((z.setReg Reg.cfgCtl 1#32).reg Reg.cfgCtl) 0 = true ∧ (after .cfgPassStart (z.setReg Reg.cfgCtl 1#32)).cfg.passBusy = true := by decide +kernel
theorem test_evq_cons : let s := { z with evq := { z.evq with prod := 3, cons := 1 } }
    (after (.evqConsWrite none 2#32) s).evq.cons = 2 ∧ (after (.evqConsWrite (some .i3c) 4#32) s).evq.cons = 1 ∧
    ((after (.evqConsWrite (some .i3c) 4#32) s).pg (ordOf .evq 0)).err.getLsbD 0 = true := by decide +kernel
theorem test_evq_ctl : let s := z.setReg Reg.evqCtl 0x61#32
    flag z.evqCtl 0 = false ∧ (after (.evqCtlWrite .i3c 0x71#32) z).reg Reg.evqCtl = 0x71#32 ∧ flag s.evqCtl 0 = true ∧
    flag s.evqCtl 1 ≠ flag 0x63#32 1 ∧ (after (.evqCtlWrite .i3c 0x63#32) s).reg Reg.evqCtl = 0x61#32 ∧
    ((after (.evqCtlWrite .i3c 0x63#32) s).pg (ordOf .evq 0)).err.getLsbD 2 = true := by decide +kernel
theorem test_src_db : z.coreUp = true ∧ (after (.srcDb 4095#32) z).inputs = [(4, [⟨4095, .soft, 0⟩])] ∧
    (after (.evrInject .i3c 3072#32) z).inputs = [(7, [⟨3072, .soft, 0⟩])] ∧
    ((after (.srcDb 4096#32) z).pg (ordOf .millrace 0)).err.getLsbD 3 = true ∧
    ((after (.evrInject .i3c 3071#32) z).pg (ordOf .millrace 0)).err.getLsbD 3 = true := by decide +kernel
theorem test_int_coal : let s := (z.setPg 3 { z.pg 3 with gathered := 1, gatherAt := 5 }).setReg (baseOf .i3c 0 + 0x3C) 2#32
    (s.pg 3).gathered ≠ 0 ∧ fld (s.reg (baseOf .i3c 0 + 0x3C)) 15 0 ≠ 0 ∧ (after (.intCoalTimeExpiry 3) s).tick = 2505 ∧
    (after (.intCoalTimeExpiry 3) s).inputs = [(0, [⟨2051, .page 0, 2505⟩])] ∧ ((after (.intCoalTimeExpiry 3) s).pg 3).gathered = 0 := by
  decide +kernel
theorem test_router : let s := { z with inputs := [(4, [⟨4095, .soft, 0⟩])] }
    s.clocked .millrace = true ∧ s.routerBlocked = false ∧ s.swRec 4095 = false ∧ (after .routerMessage s).wcnt = [(4095, 1)] ∧
    (after .routerMessage s).inputs = [(4, [])] ∧ (after .routerMessage s).reg Reg.evrMsgs = 1 := by decide +kernel
theorem test_router_blocked : let s := z.setCp 0 { z.cp 0 with eic := { Eic.reset with hold := some 0, queue := List.replicate 16 1 } }
    s.routerBlocked = true ∧ after .routerMessage s = s := by decide +kernel
theorem test_evq_notify : let s := { z.setReg Reg.evqNotifyCoal 4#32 with evq := { z.evq with unnotified := 2, prod := 9 } }.setReg Reg.evqCtl 4#32
    s.evq.unnotified ≠ 0 ∧ fld (s.reg Reg.evqNotifyCoal) 15 0 ≠ 0 ∧ flag s.evqCtl 2 = true ∧ (after .evqNotifyTimeout s).evq.unnotified = 0 ∧
    (⟨1, 9⟩ : Ibi) ∈ (after .evqNotifyTimeout s).i3c.ibis := by decide +kernel
theorem test_evq_lag : let s := { z.setReg Reg.evqCtl 1#32 with evq := { z.evq with fullAt := some 10 } }.setReg Reg.evqLagLimit 4#32
    flag s.evqCtl 0 = true ∧ (after .evqLagExpiry s).tick = 5010 ∧ ((after .evqLagExpiry s).pg (ordOf .evq 0)).err.getLsbD 1 = true := by
  decide +kernel
theorem test_evq_overflow : let s := { z.setReg Reg.evqCtl 0x63#32 with evq := { z.evq with lost := [(3, 2)] } }
    s.evq.lost ≠ [] ∧ s.reposts = [] ∧ s.evqCanWrite = true ∧ s.evqSize ≤ 8 * (s.evqSize - s.evqUsed) ∧
    (after .evqOverflowWrite s).evq.lost = [] ∧ (after .evqOverflowWrite s).evq.prod = 1 ∧
    z.evqCanWrite = false ∧ after .evqOverflowWrite z = z := by decide +kernel

/-! ## Takeovers -/

theorem test_stone_takeover : let s := zR.setStone 3 { zR.stone 3 with role := .retired }
    s.live = true ∧ s.stoneOwed 3 = true ∧ s.spareStone = some 32 ∧ (after (.stoneTakeover 3) s).stoneOf 3 = some 32 ∧
    ((after (.stoneTakeover 3) s).stone 32).lstone = 3 ∧ zR.stoneOwed 3 = false ∧ after (.stoneTakeover 3) zR = zR := by decide +kernel
theorem test_stone_takeover_none : let s := ((zR.setStone 3 { zR.stone 3 with role := .retired }).setStone 32
      { zR.stone 32 with role := .retired }).setStone 33 { zR.stone 33 with role := .retired }
    s.stoneOwed 3 = true ∧ s.spareStone = none ∧ (after (.stoneTakeover 3) s).stoneOf 3 = none ∧
    (after (.stoneTakeover 3) s).dev.mode = .degraded := by decide +kernel
theorem test_runner_takeover : let s := zR.setRunner 0 { zR.runner 0 with role := .retired }
    s.runnerOwed 0 = true ∧ s.spareRunner = some 64 ∧ (after (.runnerTakeover 0) s).runnerOf 0 = some 64 ∧
    (after (.runnerTakeover 0) s).reg Reg.runTakeovers = 1 := by decide +kernel
theorem test_cp_takeover : let s := zR.setCp 2 { zR.cp 2 with failed := true, role := .retired }
    (s.cp 2).failed = true ∧ s.spareCp 2 = some 16 ∧ (s.cp 16).img = none ∧ s.chansOf (s.cp 2).logical = [] ∧
    ((after (.cpTakeover 2) s).cp 16).logical = 2 ∧ ((after (.cpTakeover 2) s).cp 2).failed = false := by decide +kernel
theorem test_pd_drain : let s := { zR with clk := { zR.clk with drains := [⟨.core, 0⟩, ⟨.quad 3, 0⟩] } }
    (∃ d ∈ s.clk.drains, d.dom = .core) ∧ (after (.pdDrainExpiry .core) s).clk.drains = [⟨.quad 3, 0⟩] ∧
    (∀ d ∈ s.clk.drains, d.dom ≠ .quad 2) ∧ after (.pdDrainExpiry (.quad 2)) s = s := by decide +kernel

/-! ## Encode sessions -/

/-- Bytes with some little-endian fields: offset, width, value. -/
def image (n : Nat) (l : List (Nat × Nat × Nat)) : List Byte :=
  l.foldl (fun b e => b.take e.1 ++ leBytes e.2.1 e.2.2 ++ b.drop (e.1 + e.2.1)) (List.replicate n 0)

/-- A descriptor: AVC level 3, 640 × 480, one column on stone 0, 12 Mbit/s, one reference. -/
def wD : List Byte := image 256
  [(0x00, 4, 0x00181E01), (0x04, 4, 0x01E00280), (0x08, 4, 0x01E00280), (0x0C, 4, 0x00200000), (0x18, 4, 2560),
   (0x1C, 4, 1228800), (0x28, 4, 20000), (0x38, 4, 0x1000), (0x60, 4, 0x330001), (0x64, 4, 12000000), (0x68, 4, 12000000),
   (0x6C, 4, 500000), (0x74, 4, 1000000), (0xA4, 4, 0x600000), (0xAC, 4, 77), (0xB4, 4, 0x00020001), (0xB8, 4, 1500), (0xBC, 4, 104),
   (0xE0, 4, 0x110)]
/-- A header template: Ethernet, IPv4, UDP. -/
def wT : List Byte := image 128 [(0, 4, 42), (0x1C, 1, 0x08), (0x1E, 1, 0x45), (0x27, 1, 17)]
/-- A flow description: 1 Mbit/s to port 48. -/
def wF : List Byte := image 16 [(0, 4, 1000), (4, 4, 2000), (8, 4, 0x300000)]
/-- A flow of a device, with nothing in it. -/
def wFlow : Flow :=
  { desc := flowDesc wF, owner := .device 9, k := 0, kAt := 0, r := 0, pkts := [], wheel := none, blocked := false, sent := 0 }
/-- An encode image of AVC, by its header. -/
def wI : LibSlot := { valid := true, ledger := false, image := image 16 [(4, 1, 1)], addr := 0 }
/-- RUN with all that the descriptor names. -/
def wB : State :=
  let s := (((((((((((zR.setReg Reg.pktTmplBaseLo 0x100).setReg Reg.sluFlowBaseLo 0x200).setReg (Reg.refClsGeom 0) 0x8000080A).setReg
    (Reg.refClsCount 0) 0x10004).setReg (Reg.hopResvA 0) 0x680000).setReg (Reg.pcieCfg 0) 0x10002).setReg (Reg.pcieAp 0) 24).setReg
    (Reg.tbCmpPeriodNs 0) 33333333).setReg (Reg.quadCfg 12) 0x11).setSlot 1 { KeySlot.empty with typ := 2 }).setSlot 2
    { KeySlot.empty with typ := 2 }).setLib 0 wI
  let s := { s with runners := { s.runners with force := [(5, ⟨1, 0, 0⟩)] } }
  s.setRunner 5 { s.runner 5 with lib := some 0 }
/-- The same, with the descriptor, the template and the flow in part DRAM. -/
def wS : State := ((wB.writeLines 0 0 0 wD).writeLines 0 0 0x100 wT).writeLines 0 0 0x200 wF

/-- The descriptor, the template and the flow are read from part DRAM. -/
def wS1 : Option (List Byte) × State := wS.readBytes 0x122 0x0 (wS.preg64 .i3c Reg.sesDescLo / 64 * 64) 256
/-- See `wS1`. -/
def wS2 : Option (List Byte) × State := wS1.2.readBytes 0x123 0x0 (wS1.2.reg64 Reg.pktTmplBaseLo + 128 * dTmpl wD) 128
/-- See `wS1`. -/
def wS3 : Option FlowDesc × State := wS2.2.readFlow (dFlow wD)

theorem test_setup_reads : wS.coreTakes .i3c = true ∧ 0 < wS.part.encSessions ∧ (wS.ses 0).st = .free ∧ wS1.1 = some wD ∧ wS2.1 = some wT ∧
    wS3.1 = some (flowDesc wF) ∧
    wS3.2.framePer wD = 33333333 * 2 ^ 32 ∧ wS3.2.sesDescFits 0 wD wT (some (flowDesc wF)) = true ∧ wS3.2.sesPresent wD = true ∧
    wS3.2.sesRunners wD = true ∧ (wS3.2.sesUnbind 0).refRoom (dGclass wD) (1 + dNshort wD + dNlong wD) true = true ∧
    (wS3.2.sesUnbind 0).leatRoom (dMaxSegs wD) = true := by decide +kernel

/-- R126 holds of the descriptor for every size of the parameter sets up to 4,096 bits: the spec does not give that size. -/
theorem test_setup_rate (h : prefixMost wD ≤ 4096) : dCheckRate wD (33333333 * 2 ^ 32) = true := by
  have h1 : levelOf (dCodec wD) (df wD 0x00 15 8) = some (avcLevel 30 1620 8100 10000 10000 113) := by decide +kernel
  have h3 : phiKey wD = prefixMost wD + 44160 := by
    have e : dNy wD * (dCols wD * phiH wD + dNx wD * phiI wD) = 44160 := by decide +kernel
    unfold phiKey; omega
  have h4 : phiInter wD (dRefW wD) = prefixMost wD + 10680 := by
    have e : dNy wD * (dCols wD * phiH wD + (dNx wD - waveBlocks wD (dRefW wD)) * phiS wD + waveBlocks wD (dRefW wD) * phiI wD) =
      10680 := by decide +kernel
    unfold phiInter; omega
  have h5 : dRate wD = 12000000 ∧ dDelay wD = 500000 := by decide +kernel
  have h6 : bitsPer 12000000 (33333333 * 2 ^ 32) = 26214399737 := by decide +kernel
  have h7 : dLow wD = false := by decide +kernel
  unfold dCheckRate
  simp only [h1, h3, h4, h5.1, h5.2, h6, h7, Bool.and_eq_true, Bool.not_false, Bool.true_or]
  rw [decide_eq_true_eq (p := _ ∧ (prefixMost wD + 10680) * 65536 ≤ _)]
  refine ⟨⟨⟨⟨⟨⟨?_, ?_⟩, ?_⟩, ?_⟩, Nat.le_trans (Nat.mul_le_mul_right _ (Nat.add_le_add_right h _)) (by decide),
    Nat.le_trans (Nat.mul_le_mul_right _ (Nat.add_le_add_right h _)) (by decide)⟩, ?_⟩, trivial⟩ <;> decide +kernel

theorem test_setup_ok (h : prefixMost wD ≤ 4096) : wS3.2.sesDescOk 0 wD wT (some (flowDesc wF)) = true := by
  have h3 : phiRef wD = prefixMost wD + 10680 := by
    have e : dNy wD * (dCols wD * phiH wD + (dNx wD - waveBlocks wD (max 1 (dRefW wD))) * phiS wD +
      waveBlocks wD (max 1 (dRefW wD)) * phiI wD) = 10680 := by decide +kernel
    unfold phiRef phiInter; omega
  have h4 : dCheckRefs wD (33333333 * 2 ^ 32) = true := by
    have h1 : levelOf (dCodec wD) (df wD 0x00 15 8) = some (avcLevel 30 1620 8100 10000 10000 113) := by decide +kernel
    have h6 : eCap wD (33333333 * 2 ^ 32) = 399999 := by decide +kernel
    unfold dCheckRefs
    simp only [h1, h3, h6, Bool.and_eq_true]
    rw [decide_eq_true_eq (p := prefixMost wD + 10680 ≤ _)]
    refine ⟨⟨⟨⟨⟨?_, ?_⟩, ?_⟩, ?_⟩, ?_⟩, Nat.le_trans (Nat.add_le_add_right h _) (by decide)⟩ <;> decide +kernel
  have h5 : wS3.2.framePer wD = 33333333 * 2 ^ 32 := test_setup_reads.2.2.2.2.2.2.1
  unfold State.sesDescOk
  simp only [h5, test_setup_rate h, h4, test_setup_reads.2.2.2.2.2.2.2.1, Bool.and_self]

/-- A session on `wD`. -/
def wX (st : SesSt) : State := (wB.setSes 0 { Ses.reset with st := st, desc := wD })
/-- A frame in progress. -/
def wFrame : Frame :=
  { k := 4, tk := 0, tkTick := 0, ek := 0, short := 0, preset := 0, cls := .p, isRef := true, recovery := false, wave := none, clean := 0, recode := []
    params := false, units := [], slice := SliceHead.empty, buf := 0, refs := [], target := 0, cap := 0, head := 0, usedHard := 0, usedSoft := 0, sticky := false
    ceilMult := 2, dqRow := 4, rowMin := 0, firstFloor := none, floorCols := [], nextRow := 0, timedOut := false, readDone := false, segs := [], input := [], filler := 0
    coded := true, done := false, dur := 0, dropped := false }

theorem test_start : let s := wX .ready
    s.coreTakes .i3c = true ∧ (s.ses 0).st = .ready ∧ s.running = true ∧ usNet (dDeadline (s.ses 0).desc) ≤ s.framePer (s.ses 0).desc ∧
    s.admits ((s.ses 0).desc :: s.admitted) (s.ses 0).desc = true ∧ ((after (.sesStart (.reg .i3c) 0) s).ses 0).st = .running ∧
    (after (.sesStart (.reg .i3c) 0) s).reg Reg.sesResult = 0x2000 := by decide +kernel
theorem test_stop : (viaReg (wX .running)).coreTakes .regload = true ∧
    ((after (.sesStop (.reg .regload) 0) (viaReg (wX .running))).ses 0).st = .stopping ∧
    (after (.sesStop (.reg .regload) 0) (viaReg (wX .held))).reg (bank .regload Reg.sesResult) = 0x3000 ∧
    ((after (.sesStop (.reg .i3c) 0) (wX .ready)).ses 0).st = .free ∧
    ((after (.sesAbort (.reg .i3c) 0) (wX .stopping)).ses 0).desc = [] := by decide +kernel
theorem test_ses_refused : (zR.pg (ordOf .sessions 0)).resetting = false ∧ zR.coreTakes .i3c = true ∧ (zR.ses 511).st = .free ∧ zR.part.encSessions = 512 ∧
    (after (.sesStart (.reg .i3c) 512) zR).reg Reg.sesResult = 0x22200 ∧ (after (.sesStop (.reg .i3c) 511) zR).reg Reg.sesResult = 0x131FF := by
  decide +kernel

/-- A CONTROL step that brings session command `cmd` of session 0. -/
def wCtl (cmd : Nat) : StepRun := { run 4 [4, 0] [] with step := { stp 4 with p0 := cmd } }
theorem test_ses_step : let s := (wX .ready).setChan 0 ((running (wCtl 4)).chan 0)
    (s.chan 0).run = some (wCtl 4) ∧ s.byStep (.channel 0) 4 4 0 = true ∧ ((after (.sesAbort (.channel 0) 0) s).ses 0).st = .free ∧
    ((after (.sesAbort (.channel 0) 0) s).chan 0).run = some { wCtl 4 with fin := some ⟨0, 0, 0⟩ } := by decide +kernel
theorem test_ses_step_refused : let s := running (wCtl 2)
    s.byStep (.channel 0) 4 2 0 = true ∧ (s.ses 0).st = .free ∧
    ((after (.sesStart (.channel 0) 0) s).chan 0).run = some { wCtl 2 with fin := some ⟨0x0D, 1, 0⟩ } := by decide +kernel

theorem test_match : let s := ((wX .running).setReg (Reg.tbCmpCtl 0) 1).setTb { (wX .running).tb with next := [(0, 5)] }
    Tbl.get? s.tb.next 0 = some 5 ∧ s.live = true ∧ s.cmpEn 0 = true ∧ (s.ses 0).st = .running ∧ dTrig (s.ses 0).desc = 0 ∧
    (s.ses 0).begun = false ∧ ((after (.comparatorMatch 0) s).ses 0).due = [⟨0, 5, .key⟩] := by decide +kernel
theorem test_match_again : let s := ((wX .running).setReg (Reg.tbCmpCtl 0) 1).setTb { (wX .running).tb with next := [(0, 5)] }
    let s1 := s.setSes 0 { s.ses 0 with begun := true, count := 2 }
    let s2 := s1.setSes 0 { s1.ses 0 with desc := image 256 [(0x20, 4, 0x100)] }
    ((s1.ses 0).begun = true ∧ ((s1.ses 0).count + 1) % (dDivider (s1.ses 0).desc + 1) = 0) ∧
    ((after (.comparatorMatch 0) s1).ses 0).due = [⟨3, 5, .key⟩] ∧
    ((s2.ses 0).count + 1) % (dDivider (s2.ses 0).desc + 1) ≠ 0 ∧ ((after (.comparatorMatch 0) s2).ses 0).due = [] ∧
    (zR.cmpEn 0 = false ∧ after (.comparatorMatch 0) zR = zR) := by decide +kernel
theorem test_stripe : let s := wX .running
    (s.ses (fld 0x3C000#32 8 0)).st = .running ∧ dRenderer (s.ses 0).desc = 0 ∧ flag 0x3C000#32 31 = false ∧ fld 0x3C000#32 22 9 = 480 ∧
    dInH (s.ses 0).desc = 480 ∧ dSlots (s.ses 0).desc = 2 ∧ ((after (.stripeDb 0 0x3C000#32) s).ses 0).held 0 = 480 ∧
    ((after (.stripeDb 0 0x83C000#32) s).ses 0).held 1 = 480 ∧
    ((after (.stripeDb 0 0x3C200#32) s).ses 0).dbDrop = 1 ∧ (s.pg (ordOf .sessions 0)).resetting = false := by decide +kernel
theorem test_ingest : let s := (wX .running).setFrame 0 { wFrame with coded := false }
    (s.ses 0).active = some { wFrame with coded := false } ∧ (s.ses 0).held 4 < dInH (s.ses 0).desc ∧
    (s.pg (ordOf .sessions 0)).resetting = false ∧
    ((after (.ingestTimeout 0) s).pg (ordOf .sessions 0)).err.getLsbD 1 = true := by decide +kernel
/-- A RUNNING session whose frame 7 is due, with one spare buffer and its blocks enabled. -/
def wDue : State :=
  let s := (wX .running).setRses 0 { RefSes.reset with bufs := [3] }
  on .stone 0 (on .bolter 0 (on .sessions 0 (s.setSes 0 { s.ses 0 with due := [⟨7, 0, .p⟩, ⟨8, 9, .p⟩] })))
theorem test_frame_start : let t := after (.frameStart 0) wDue
    (wDue.ses 0).pick = some ⟨7, 0, .p⟩ ∧ (wDue.ses 0).active = none ∧ wDue.framesGo 0 = true ∧ wDue.running = true ∧
    wDue.memServes = true ∧ wDue.refSpare 0 = some 3 ∧ (wDue.ses 0).debt = 0 ∧ (t.ses 0).next = 8 ∧ (t.ses 0).due = [⟨8, 9, .p⟩] ∧
    (t.ses 0).active.map (·.buf) = some 3 := by decide +kernel
theorem test_frame_start_none : ((wX .running).ses 0).pick = none ∧ after (.frameStart 0) (wX .running) = wX .running := by
  decide +kernel
/-- R72: frame 8 waits for its predecessor; its limit passes all the same. -/
theorem test_ingest_waiting : let s := (wX .running).setSes 0 { (wX .running).ses 0 with due := [⟨8, 9, .p⟩] }
    (s.ses 0).waited = some (8, 9, false) ∧ ((after (.ingestTimeout 0) s).ses 0).lateDue = [8] := by decide +kernel
theorem test_frame_complete : let s := { (wX .running).setFrame 0 wFrame with tick := 1000000 }
    s.coreUp = true ∧ (s.ses 0).active = some wFrame ∧ ((after (.frameComplete 0) s).ses 0).active = none ∧
    ((after (.frameComplete 0) (inMode .drain s)).ses 0).st = .held ∧
    after (.frameComplete 0) (s.setFrame 0 { wFrame with coded := false }) = s.setFrame 0 { wFrame with coded := false } := by decide +kernel
theorem test_stopped : (wX .stopping).sesSpent 0 = true ∧ ((after (.sessionStopped 0) (wX .stopping)).ses 0).st = .free ∧
    (wX .running).sesSpent 0 = false ∧ after (.sessionStopped 0) (wX .running) = wX .running := by decide +kernel

/-! ## Channels and their steps -/

theorem test_chan_start : let s := withChan fun x => { x with cfg := x.cfg ||| 1, prog := 64 }
    s.coreUp = true ∧ 0 < s.part.channels ∧ flag (s.chan 0).cfg 0 = true ∧ (s.chan 0).st = .idle ∧
    ((after (.chanStart .i3c 0) s).chan 0).st = .active ∧ ((after (.chanStart .doorbell 0) s).chan 0).pc = 64 ∧
    ((after (.chanStop .i3c 0) s).pg (ordOf .millrace 0)).err.getLsbD 4 = true := by decide +kernel
theorem test_chan_resume : let s := withChan fun x => { x with cfg := x.cfg ||| 1, st := .held, nextPc := some 96 }
    let a := withChan fun x => { x with cfg := x.cfg ||| 1, st := .active }
    s.chanVia .doorbell = true ∧ (s.chan 0).st = .held ∧ (s.chan 0).nextPc = some 96 ∧
    ((after (.chanResume .doorbell 0) s).chan 0).pc = 96 ∧ (viaReg a).chanVia .regload = true ∧
    ((after (.chanResume .regload 0) (viaReg a)).chan 0).latch = true := by decide +kernel
theorem test_chan_stop : let s := withChan fun x => { x with cfg := x.cfg ||| 1, st := .faulted }
    ((after (.chanStop .i3c 0) s).chan 0).st = .idle ∧
    ((after (.chanStop .i3c 0) (withChan fun x => { x with cfg := x.cfg ||| 1, st := .active })).chan 0).st = .idle := by decide +kernel
theorem test_chan_absent : zR.part.channels ≤ 1024 ∧ (zR.pg (ordOf .millrace 0)).resetting = false ∧
    (after (.chanStart .i3c 1024) zR).reg Reg.mrDbDrop = 1 ∧ (after (.chanStart .i3c 1024) zR).chans = [] := by decide +kernel

/-- A device entry of part DRAM below 64 KiB. -/
def dramDev : List Nat := [9, 0, 0, 0, 0, 0, 0xFFFF, 0]

theorem test_chan_stop_step : let s := running (run 0xE [] [])
    (s.chan 0).st = .active ∧ (s.chan 0).run = some (run 0xE [] []) ∧ ((after (.chanStop .i3c 0) s).chan 0).st = .active ∧
    ((after (.stepComplete 0) (after (.chanStop .i3c 0) s)).chan 0).st = .idle := by decide +kernel
/-- A NOP step in part DRAM at the PC of channel 0, whose CP runs. -/
def ready : State :=
  let s := (withChan fun x => { x with cfg := x.cfg ||| 0x10001, st := .active }).writeLines 0 0 0 [0x0E, 0x01]
  on .cp 0 (on .millrace 0 (s.setCp 0 { s.cp 0 with running := true }))
theorem test_dispatch : let r := ready.progRead 0 (ready.chan 0).pc 32
    ready.accepts .millrace 0 = true ∧ ready.memServes = true ∧ (ready.chan 0).lcp < ready.part.cpsUse ∧ ready.cpFor 0 = some 0 ∧
    ready.unbound 0 = false ∧ r.1 = .got (padTo 32 [0x0E, 0x01]) ∧ opBare (stepOf (padTo 32 [0x0E, 0x01])).op = true ∧
    (stepOf (padTo 32 [0x0E, 0x01])).rsvd = 0 ∧
    (stepOf (padTo 32 [0x0E, 0x01])).breaks [] (ready.chan 0).inBuf.isSome ready.part.channels = false ∧
    ((after (.stepDispatch 0) ready).chan 0).run.map (·.step.op) = some 0x0E := by decide +kernel
theorem test_dispatch_idle : (zR.chan 0).st ≠ .active ∧ after (.stepDispatch 0) zR = zR := by decide +kernel
/-- Its premises, as the statements take them. -/
theorem test_plain : (running (run 0xE [] [])).plainStep 0 (run 0xE [] []) := by unfold State.plainStep; decide +kernel
theorem test_complete : let r := { run 0xE [] [] with fin := some ⟨0, 0, 5⟩ }
    let s := running r
    s.coreUp = true ∧ (s.chan 0).run = some r ∧ r.quiet = true ∧ r.doneIs = none ∧ r.ending = none ∧ r.fin = some ⟨0, 0, 5⟩ ∧
    ((after (.stepComplete 0) s).chan 0).st = .idle ∧ ((after (.stepComplete 0) s).chan 0).steps = 1 := by decide +kernel
theorem test_complete_moved : let r := { run 3 [] [] with phase := .moved, pos := 2, step := { stp 3 with flags := 1 } }
    r.quiet = true ∧ r.fin = none ∧ r.phase = .moved ∧ ((after (.stepComplete 0) (running r)).chan 0).pc = 160 ∧
    ((after (.stepComplete 0) (running { r with ending := some 1 })).chan 0).result = 1 := by decide +kernel
theorem test_retry : let r := { run 1 [] [] with fin := some ⟨0x0A, 2, 0⟩, step := { stp 1 with retry := 1 } }
    retryable 0x0A = true ∧ ((running r).chan 0).retries < r.step.retry ∧ ((running r).chan 0).inBuf = none ∧
    ((after (.stepComplete 0) (running r)).chan 0).retries = 1 := by decide +kernel
theorem test_fault : let r := { run 1 [] [] with fin := some ⟨7, 0, 0⟩ }
    retryable 7 = false ∧ ((after (.stepComplete 0) (running r)).chan 0).st = .faulted ∧
    flag ((after (.stepComplete 0) (running r)).reg (Reg.mrFaultMap 0)) 0 = true := by decide +kernel
theorem test_timeout : let r := { run 0xE [] [] with step := { stp 0xE with timeout := 1 } }
    r.step.timeout ≠ 0 ∧ r.phase ≠ .waiting ∧ (after (.stepTimeout 0) (running r)).tick = 1250 ∧
    ((after (.stepTimeout 0) (running r)).chan 0).run.bind (·.ending) = some 2 := by decide +kernel

theorem test_nop_jump_end : let s := fun op => running { run op [] [] with step := { stp op with flags := 1 } }
    (s 0xE).opRun 0 0xE = some { run 0xE [] [] with step := { stp 0xE with flags := 1 } } ∧
    ((after (.stepNop 0) (s 0xE)).chan 0).pc = 160 ∧ (s 0xA).opRun 0 0xA = some { run 0xA [] [] with step := { stp 0xA with flags := 1 } } ∧
    ((after (.stepJump 0) (s 0xA)).chan 0).pc = 64 ∧ (s 0xF).opRun 0 0xF = some { run 0xF [] [] with step := { stp 0xF with flags := 1 } } ∧
    ((after (.stepEnd 0) (s 0xF)).chan 0).st = .idle := by decide +kernel
theorem test_test : let r := { run 0xB [] [] with step := { stp 0xB with flags := 1, count := 0, p0 := 0, p1 := 1 } }
    (running r).opRun 0 0xB = some r ∧ r.step.count = 0 ∧ ((after (.stepTest 0) (running r)).chan 0).pc = 192 ∧
    ((after (.stepTest 0) (running { r with step := { r.step with p0 := 1 } })).chan 0).pc = 160 := by decide +kernel
theorem test_wait : let r := { run 8 [] [] with step := { stp 8 with p0 := 4095 } }
    (running r).opRun 0 8 = some r ∧ r.phase = .start ∧ Tbl.getD (running r).wcnt 4095 0 = 0 ∧
    (after (.stepWait 0) (running r)).waits = [(4095, 0)] ∧
    (after (.stepWait 0) { running r with wcnt := [(4095, 3)] }).wcnt = [(4095, 2)] := by decide +kernel
theorem test_signal : let r := { run 9 [] [] with step := { stp 9 with p0 := 3072 } }
    (running r).opRun 0 9 = some r ∧ (after (.stepSignal 0) (running r)).inputs = [(5, [⟨3072, .soft, 0⟩])] := by decide +kernel

theorem test_signal_waits : let r := { run 9 [] [] with step := { stp 9 with p0 := 3072 } }
    let s := { running r with inputs := [(5, List.replicate 64 ⟨3072, .soft, 0⟩)] }
    s.opRun 0 9 = some r ∧ s.inputFull .signal = true ∧ after (.stepSignal 0) s = s := by decide +kernel

theorem test_fill : let r := { run 0xD dramDev [] with step := { stp 0xD with p0 := 0x01020304 } }
    (running r).opRun 0 0xD = some r ∧ r.step.sgl = false ∧ eType r.entry = 9 ∧ pieceOk r.entry 64 64 = true ∧
    64 + 64 ≤ (running r).dramSize ∧ (after (.stepFill 0) (running r)).mem.bytesAt 124 5 = [4, 3, 2, 1, 0] := by decide +kernel
theorem test_sense : let r := run 5 dramDev dramDev
    (running r).opRun 0 5 = some r ∧ eType r.memEntry = 9 ∧ pieceOk r.memEntry 64 64 = true ∧
    (after (.stepSense 0) (running r)).mem.bytesAt 64 5 = [9, 0, 0, 0, 0] := by decide +kernel
theorem test_move : let r := { run 3 dramDev dramDev with step := { stp 3 with p0 := 1024 } }
    (running r).opRun 0 3 = some r ∧ r.step.keyed = false ∧ pieceOk r.entry r.step.offset 64 = true ∧ pieceOk r.memEntry 64 64 = true ∧
    ((running r).dma 0).retired = false ∧ ((running r).dma 0).armed = false ∧ ((running r).chan 0).dma = 0 ∧
    ((after (.stepMove 0) (running r)).dma 0).armed = true ∧ Tbl.getD ((after (.stepMove 0) (running r)).dma 0).sh 0 0 = 1024 := by
  decide +kernel
theorem test_write_ingest : let r := { run 2 [2] dramDev with step := { stp 2 with p0 := 2457536 } }
    let s := (running r).setSes 0 { Ses.reset with st := .ready, desc := wD }
    s.opRun 0 2 = some r ∧ eType r.entry = 2 ∧ (s.ses (eSession r.entry)).st ≠ .free ∧ pieceOk r.memEntry 64 64 = true ∧
    r.step.offset % 64 = 0 ∧ r.step.offset + 64 = dSlots wD * dStride wD ∧
    Tbl.getD ((after (.stepWrite 0) s).dma 0).sh 2 0 = 2457536 := by decide +kernel
theorem test_crypto : let r := run 6 [7] dramDev
    (running r).opRun 0 6 = some r ∧ eType r.entry = 7 ∧ pieceOk r.memEntry 64 64 = true ∧
    ((after (.stepTransform 0) (running r)).chan 0).run = some { r with phase := .dma, done := 0 } := by decide +kernel
theorem test_xform : let r := run 6 [6, 1] dramDev
    let s0 := (running r).writeLines 0 0 64 []
    let s0 := s0.writeLines 0 0 64 (padTo 64 [7])
    let s := { s0.setLib 3 { valid := true, ledger := false, image := image 16 [(4, 1, 0x21)], addr := 0 } with
      runners := { (s0.setLib 3 { valid := true, ledger := false, image := image 16 [(4, 1, 0x21)], addr := 0 }).runners with
        force := [(5, ⟨3, 0, 3⟩)] } }
    let s := s.setRunner 5 { s.runner 5 with lib := some 3 }
    s.opRun 0 6 = some r ∧ eType r.entry = 6 ∧ s.assetHas (eImage r.entry) = true ∧ r.step.dlink = false ∧ s.runners.queue = [] ∧
    (s.pieces 0 r.memEntry false 64 64).1 = .at_ [(64, 64)] ∧
    ((s.pieces 0 r.memEntry false 64 64).2.getPieces 0 r.memEntry [(64, 64)]).1 = .bytes (padTo 64 [7]) 0 ∧
    ((after (.stepTransform 0) s).chan 0).run.map (·.phase) = some .xform := by decide +kernel
/-- Pawl 0 runs and takes work. -/
def nvmeReady (s : State) : State := on .pawl 0 (s.setPawl 0 { s.pawl 0 with running := true })
theorem test_read_nvme : let r := { run 1 [1, 0, 1] dramDev with step := { stp 1 with p0 := 512, count := 512 } }
    let s := nvmeReady ((running r).setNvme 0 { (running r).nvme 0 with st := .ready, spaces := [(1, (2, 9))] })
    s.serves .pawl 0 r.at_ = true ∧ (s.pawl 0).running = true ∧
    s.opRun 0 1 = some r ∧ eType r.entry = 1 ∧ (s.nvme 0).range 1 512 512 = some 9 ∧ 512 ≤ (s.nvme 0).most ∧ (s.nvme 0).st = .ready ∧
    ((after (.stepRead 0) s).chan 0).run.map (·.left) = some 1 := by decide +kernel
theorem test_read_flow : let r := { run 1 [3] [] with step := { stp 1 with flags := 4, dev := 9 } }
    let s := (running r).setLane 0 { (running r).lane 0 with isOpen := true, device := true, owner := 9 }
    let s := s.setChan 0 { s.chan 0 with rx := [⟨[], [1, 2]⟩] }
    s.opRun 0 1 = some r ∧ eType r.entry = 3 ∧ r.step.skip = true ∧ (s.openDev 9).isSome = true ∧
    ((after (.stepRead 0) s).chan 0).rx = [] := by decide +kernel
theorem test_submit : let r := run 7 [1, 0, 1] dramDev
    let s0 := (running r).writeLines 0 0 64 (padTo 64 [])
    let s := nvmeReady (s0.setNvme 0 { s0.nvme 0 with st := .ready })
    s.serves .pawl 0 r.at_ = true ∧ s.opRun 0 7 = some r ∧ eBase r.memEntry ≤ 64 ∧ 128 ≤ eLimit r.memEntry + 1 ∧
    (s.memRead 0 r.memEntry 64 64).1 = .got (padTo 64 []) ∧ submitOk false (padTo 64 []) = true ∧
    pieceOk r.memEntry (leAt (padTo 64 []) 24 8) 64 = true ∧
    ((after (.stepSubmit 0) s).chan 0).run.map (·.phase) = some .nvme := by decide +kernel

theorem test_regload : let r := { run 0xC [10] dramDev with step := { stp 0xC with count := 8 } }
    let s0 := (running r).setChan 0 { (running r).chan 0 with priv := true }
    let s := s0.writeLines 0 0 64 (padTo 64 (leBytes 4 Reg.pdDrainUs ++ leBytes 4 0x10007))
    s.opRun 0 0xC = some r ∧ (s.chan 0).priv = true ∧ s.regload = [] ∧ eBase r.memEntry ≤ 64 ∧ 72 ≤ eLimit r.memEntry + 1 ∧
    (({ s with regload := [0] }).memRead 0 r.memEntry 64 8).1 = .got (leBytes 4 Reg.pdDrainUs ++ leBytes 4 (0x10007#32).toNat) ∧
    (after (.stepRegload 0) s).reg Reg.pdDrainUs = 7 := by decide +kernel
theorem test_regload_waits : let r := { run 0xC [10] dramDev with step := { stp 0xC with count := 0 } }
    let s := { (running r).setChan 0 { (running r).chan 0 with priv := true } with regload := [5, 0] }
    s.opRun 0 0xC = some r ∧ (∃ k rest, s.regload = k :: rest ∧ k ≠ 0 ∧ 0 ∈ rest) ∧
    ((after (.stepRegload 0) s).chan 0).run = some { r with phase := .waiting } :=
  ⟨by decide +kernel, ⟨5, [0], by decide +kernel⟩, by decide +kernel⟩
theorem test_poll : let r := { run 0xC [10] dramDev with phase := .poll, data := leBytes 4 (0xFF000000 + Reg.pdDrainUs) ++ leBytes 4 0xFFFF ++ leBytes 4 1 }
    let s := running r
    r.pos < r.data.length ∧ recPoll (r.data.drop r.pos) = true ∧ s.readable (recAddr (r.data.drop r.pos)) = true ∧
    ((s.reach (r.mark + 1250)).readWord .regload (recAddr (r.data.drop r.pos))).1.toNat &&& leAt (r.data.drop r.pos) 4 4 ≠
      leAt (r.data.drop r.pos) 8 4 ∧ (after (.regloadPoll 0) s).tick = 1250 := by decide +kernel
theorem test_extension : let r := run 0x80 [] []
    let s := (running r).setCp 0 { (running r).cp 0 with ext := true, prog := [(12288, 12500)] }
    s.opRun 0 r.step.op = some r ∧ s.physOf (s.chan 0).lcp = some 0 ∧ ((s.cp 0).wordAt 12288).toNat ≠ 0 ∧ (s.cp 0).call = none ∧
    (s.cp 0).imms = [] ∧ (s.cp 0).rep = false ∧ (s.cp 0).latch = none ∧ (s.cp 0).stack.length < 15 ∧
    ((after (.stepExtension 0) s).cp 0).pc = 12500 := by decide +kernel
theorem test_egress_open : let r := { run 4 [3, 0x10000, 0x80000] [] with step := { stp 4 with p0 := 1, dev := 9 } }
    let s := ((((running r).setReg Reg.sluFlowBaseLo 0x200).setReg (Reg.quadCfg 12) 0x11).setReg (Reg.hopResvA 0) 0x080000).writeLines 0 0 0x200
      (List.replicate 16 0 ++ wF)
    let x := s.readBytes 0x126 0x0 (s.reg64 Reg.sluFlowBaseLo + 16 * eFlow r.entry) 16
    s.opRun 0 4 = some r ∧ eType r.entry = 3 ∧ eFlow r.entry = 1 ∧ (s.lane (eLane r.entry)).isOpen = false ∧ s.flow? 1 = none ∧
    x.1 = some wF ∧ (flowDesc wF).port < 4 * s.part.quads ∧ x.2.flowOk (flowDesc wF) = true ∧ x.2.leatRoom (eMaxSegs r.entry) = true ∧
    ((after (.egressOpen 0) s).lane 0).owner = 9 := by decide +kernel
/-- A device's lane and its step. -/
def egress (p0 : Nat) : State :=
  let r := { run 4 [3] [] with step := { stp 4 with p0 := p0, dev := 9 } }
  (running r).setLane 0 { (running r).lane 0 with isOpen := true, device := true, owner := 9, frames := [([1], 0)] }
theorem test_egress : (egress 2).opRun 0 4 = ((egress 2).chan 0).run ∧ (egress 2).openDev 9 = some (0, (egress 2).lane 0) ∧
    ((after (.egressClose 0) (egress 2)).lane 0).closing = true ∧ ((egress 3).lane 0).isOpen = true ∧
    ((after (.egressFlush 0) (egress 3)).lane 0).frames = [] := by decide +kernel
theorem test_egress_done : let s := ((egress 2).setLane 0 { (egress 2).lane 0 with closing := true, frames := [] }).setFlow 4 wFlow
    s.coreUp = true ∧ s.openDev 9 = some (0, s.lane 0) ∧ (s.lane 0).closing = true ∧ (s.lane 0).linkedBytes = 0 ∧ s.deviceFlow 9 = some 4 ∧
    s.flow? 4 = some wFlow ∧ wFlow.pkts = [] ∧ (after (.egressCloseDone 9) s).flow? 4 = none ∧
    (after (.egressCloseDone 9) s).lane 0 = Lane.reset := by decide +kernel
theorem test_ingest_db : let r := { run 4 [2] [] with step := { stp 4 with p0 := 1, p1 := 0x3C000 } }
    let s := (running r).setSes 0 { Ses.reset with st := .running, desc := wD }
    s.opRun 0 4 = some r ∧ eType r.entry = 2 ∧ r.step.p0 % 256 = 1 ∧ ((after (.ingestDoorbell 0) s).ses 0).held 0 = 480 := by decide +kernel

/-! ## Engines and the Hopper -/

/-- A transfer of one line from 0 to 256. -/
def wSet : DmaSet := { src := 0, dst := 256, count := 64, ctl := 2 ^ 19, tag := 5, owner := .channel 0 }
/-- Engine 0 with a transfer current. -/
def moving (x : DmaSet) : State := (zR.writeLines 0 0 0 [1, 2]).setDma 0 { Dma.reset with cur := some x }
theorem test_dma_start : let s := on .dma 31 (zR.dmaArm 31 wSet)
    s.serves .dma 31 (s.stepSince (s.dma 31).shOwner) = true ∧ (s.dma 31).armed = true ∧ (s.dma 31).cur = none ∧ (s.dma 31).retired = false ∧
    s.spaceOff (bits (s.dma 31).shadowSet.ctl 3 0) = false ∧ s.spaceOff (bits (s.dma 31).shadowSet.ctl 7 4) = false ∧
    ((after (.dmaTransferStart 31) s).dma 31).cur = some wSet ∧ (zR.dma 0).armed = false ∧ after (.dmaTransferStart 0) zR = zR := by
  decide +kernel
theorem test_dma_off : let s0 := on .dma 0 (zR.dmaArm 0 wSet)
    let s := { s0 with clk := { s0.clk with drains := [⟨.core, 0⟩] } }
    s.serves .dma 0 (s.stepSince (s.dma 0).shOwner) = true ∧
    s.spaceOff (bits (s.dma 0).shadowSet.ctl 3 0) = true ∧ ((after (.dmaTransferStart 0) s).dma 0).lastCode = 6 := by decide +kernel
theorem test_dma_end : let s := moving wSet
    s.works .dma 0 = true ∧ s.memServes = true ∧ (s.dma 0).cur = some wSet ∧ (s.dma 0).ending = none ∧ wSet.bad = false ∧ wSet.misaligned = false ∧
    bits wSet.ctl 3 0 = 0 ∧ bits wSet.ctl 7 4 = 0 ∧ bitOf wSet.ctl 16 = false ∧ bitOf wSet.ctl 17 = false ∧
    wSet.dst + wSet.count ≤ s.dramSize ∧ (s.readLines 0x180 0x3 0 1).1 = padTo 64 [1, 2] ∧ (s.readLines 0x180 0x3 0 1).2.1 = true ∧
    (after (.dmaTransferEnd 0) s).mem.bytesAt 256 3 = [1, 2, 0] ∧ ((after (.dmaTransferEnd 0) s).dma 0).lastDone = 64 := by decide +kernel
theorem test_dma_bad : let x := { wSet with ctl := 11 }
    x.bad = true ∧ ((after (.dmaTransferEnd 0) (moving x)).dma 0).lastCode = 9 := by decide +kernel

theorem test_hop_init : let s := zR.setReg (Reg.hopPoolCount 5) 3
    s.hop.busy = none ∧ (s.pool 5).heldAll = 0 ∧ s.poolCount 5 ≠ 0 ∧ s.resvSum 5 ≤ s.poolCount 5 ∧
    (after (.hopInit .i3c 5) s).hop.busy = some 5 ∧ zR.poolCount 5 = 0 ∧ (after (.hopInit .i3c 5) zR).hop.result = 2 ∧
    ((after (.hopDisable .i3c 5) s).pool 5).en = false := by decide +kernel
theorem test_hop_held : let s := zR.setPool 0 { Pool.reset with en := true, held := [(1, 1)] }
    0 < (s.pool 0).heldAll ∧ (after (.hopInit .i3c 0) s).hop.result = 1 ∧ (after (.hopDisable .i3c 0) s).hop.result = 1 := by decide +kernel
theorem test_hop_done : let s := { zR.setReg (Reg.hopPoolCount 0) 3 with hop := { zR.hop with busy := some 0 } }
    s.memServes = true ∧ s.hop.busy = some 0 ∧ ((after .hopInitDone s).pool 0).free = 3 ∧ (after .hopInitDone s).mem.bytesAt 0 9 =
      [0, 0, 0, 0, 1, 0, 0, 0, 2] := by decide +kernel
/-- Pool 0 of three buffers, with channel 0 waiting for one. -/
def pooled : State :=
  let s := after .hopInitDone { (running (run 2 [] [])).setReg (Reg.hopPoolCount 0) 3 with hop := { zR.hop with busy := some 0 } }
  s.setPool 0 { s.pool 0 with waiters := [⟨.chan 0, 7, 0, false⟩] }
theorem test_hop_grant : let s := pooled
    s.works .hopper 0 = true ∧ s.memServes = true ∧ s.hopNext 0 = some ⟨.chan 0, 7, 0, false⟩ ∧ (s.chan 0).run = some (run 2 [] []) ∧
    (s.hopGive 0 7 (poolSize 0)).1 = some ⟨0, 0, 7, poolSize 0⟩ ∧
    ((after (.hopGrant 0) s).chan 0).run.map (·.out) = some (some ⟨0, 0, 7, poolSize 0⟩) ∧
    zR.hopNext 0 = none ∧ after (.hopGrant 0) zR = zR := by decide +kernel
theorem test_hop_refill : let s := pooled
    (s.pool 0).en = true ∧ (s.pool 0).cache.length ≤ 16 ∧ (s.readLine hopMaster 0x0 ((s.ringBase 0 + 4 * (s.pool 0).head) / 64 * 64)).1.isSome = true ∧
    0 < (s.pool 0).ringLen ∧ (s.pool 0).head < s.poolCount 0 ∧ ((after (.hopCacheRefill 0) s).pool 0).cache = [0, 1, 2] := by decide +kernel
theorem test_hop_spill : let s := (zR.setReg (Reg.hopPoolCount 0) 64).setPool 0 { Pool.reset with en := true, cache := List.range 48 }
    (s.pool 0).en = true ∧ 48 ≤ (s.pool 0).cache.length ∧ ((after (.hopCacheSpill 0) s).pool 0).cache = List.range 32 ∧
    ((after (.hopCacheSpill 0) s).pool 0).ringLen = 16 := by decide +kernel
theorem test_hop_long : let s := pooled.setReg Reg.hopWaitLimitUs 2
    (s.pool 0).waiters.find? (fun w => !w.long) = some ⟨.chan 0, 7, 0, false⟩ ∧ fld (s.reg Reg.hopWaitLimitUs) 23 0 ≠ 0 ∧
    (s.pg (ordOf .hopper 0)).resetting = false ∧ (after (.hopWaitLong 0) s).tick = 2500 ∧ (after (.hopWaitLong 0) s).hop.waits = [(7, 1)] := by
  decide +kernel
theorem test_hop_resv : (∀ q ∈ List.range 6, (zR.pool q).en = false) ∧
    (after (.hopResvWrite .i3c 63 true 0xFFFFFFFF#32) zR).reg (Reg.hopResvB 63) = 0xFFFF := by decide +kernel

/-! ## Part DRAM -/

theorem test_line_write : zR.memServes = true ∧ zR.granted 0 (zR.place 64).site = true ∧ zR.refusesLine 64 = false ∧
    (List.replicate 64 (9 : Byte)).length = 64 ∧ zR.flipFor 0 64 = 0 ∧ (zR.site 0).trained = true ∧
    (after (.dramLineWrite 0 0 64 (List.replicate 64 9)) zR).lineGood 64 = true ∧
    (after (.dramLineWrite 0 0 64 (List.replicate 64 9)) zR).mem.bytesAt 63 2 = [0, 9] := by decide +kernel
theorem test_line_read : let s := after (.dramLineWrite 0 0 64 (List.replicate 64 9)) zR
    (after (.dramLineRead 1 0 64 2) s).mem.answer = some (List.replicate 64 9) ∧ (after (.dramLineRead 1 0 64 3) s).mem.answer = none ∧
    s.lineGood 0 = false ∧ s.dev.mode ≠ .off ∧ (s.pg (ordOf .memctl (s.place 0).site)).resetting = false ∧
    ((after (.dramLineRead 1 0 0 0) s).pg (ordOf .memctl 0)).err.getLsbD 2 = true := by decide +kernel
theorem test_line_after : let s := zR.writeLines 0 0 0 [5]
    let t := after (.dramLineWrite 0 0 64 (List.replicate 64 9)) s
    0 < s.dramSize ∧ s.lineGood 0 = true ∧ t.granted 7 (t.place 0).site = true ∧ t.granted 7 (t.place 64).site = true ∧
    (after (.dramLineRead 7 0 0 0) t).mem.answer = some (padTo 64 [5]) := by decide +kernel
theorem test_line_refused : zR.refusesLine 8 = true ∧ zR.refusesLine zR.dramSize = true ∧ (zR.pg (ordOf .memarb 0)).resetting = false ∧
    ((after (.dramLineRead 1 0 8 0) zR).pg (ordOf .memarb 0)).err.getLsbD 1 = true ∧
    ((after (.dramLineWrite 1 0 8 []) zR).pg (ordOf .memarb 0)).err.getLsbD 1 = true := by decide +kernel
theorem test_line_waits : let s := zR.setReg Reg.maCtl 1
    let u := { zR with mem := { zR.mem with forced := [(5, 0)] } }
    s.memServes = false ∧ after (.dramLineRead 1 0 0 0) s = s ∧ u.granted 1 (u.place 0).site = false ∧
    after (.dramLineWrite 1 0 0 []) u = u := by decide +kernel

theorem test_refresh : zR.live = true ∧ 11 < zR.part.sites ∧ (after (.dramRefresh 11) zR).tick = 4875 ∧
    (after (.dramRefresh 11) zR).reg (Reg.mcRefreshes 11) = 1 ∧
    ((after (.actWindowStart 11) (zR.setSite 11 { Site.reset with acts := [(0, [])] })).site 11).acts = [] ∧
    (after (.mcChkFlipWrite .i3c 11 0xFFFFFFFF#32) zR).reg (Reg.mcChkFlip 11) = 0x3FFFF := by decide +kernel
theorem test_wait_limit : let s := zR.setReg Reg.maWaitLimit 4
    fld (s.reg Reg.maWaitLimit) 9 0 ≠ 0 ∧ s.mem.forced.contains (3, 0) = false ∧ (s.site 0).throttle = none ∧
    (after (.maWaitLimitReached 3 0) s).mem.forced = [(3, 0)] := by decide +kernel
theorem test_throttle : let s := zR.setSite 0 { Site.reset with throttle := some ⟨3, 99, 0, 0⟩ }
    (s.site 0).throttle = some ⟨3, 99, 0, 0⟩ ∧ (after (.throttleEnd 0) s).tick = 99 := by decide +kernel
theorem test_freeze_hash : (after (.maCtlFreeze .i3c true) zR).memServes = false ∧ zR.mem.isOpen = false ∧
    (after (.maBankHashWrite .i3c 5 0xFFFF#32) zR).reg (Reg.maBankHash 5) = 0x7FFF ∧
    ((after (.maBankHashWrite .i3c 5 1#32) { zR with mem := { zR.mem with isOpen := true } }).pg (ordOf .memarb 0)).err.getLsbD 3 = true := by
  decide +kernel
theorem test_scrub : let s := (on .memarb 0 zR).setReg Reg.maScrubLenLo 256
    s.mem.scrub = none ∧ (s.pg (ordOf .memarb 0)).freeze = false ∧ (s.pg (ordOf .memarb 0)).enable = true ∧
    s.reg64 Reg.maScrubBaseLo + s.reg64 Reg.maScrubLenLo ≤ s.dramSize ∧ (after (.scrubStart .i3c) s).mem.scrub.isSome = true ∧
    (after (.scrubDone [(64, 2)]) (after (.scrubStart .i3c) s)).mem.scrub = none := by decide +kernel
theorem test_scrub_range : let s := (on .memarb 0 zR).setReg Reg.maScrubLenHi 0xFFFF
    s.dramSize < s.reg64 Reg.maScrubBaseLo + s.reg64 Reg.maScrubLenLo ∧ (after (.scrubStart .i3c) s).mem.scrubRes = 1 := by decide +kernel
theorem test_leak : let s := zR.setPg 5 { zR.pg 5 with bucket := 3 }
    ((after .ceBucketLeak s).pg 5).bucket = 2 ∧ ((after .ceBucketLeak s).pg 6).bucket = 0 := by decide +kernel

/-! ## Coding a picture -/

/-- A segment of a row. -/
def wSeg (row : Nat) (st : SegSt) : Seg :=
  { row := row, col := 0, t := 0, c := 100000, q := 30, floor := false, short := false, st := st, phys := 0, preset := 0, blocks := []
    passed := 0, queue := [], reports := [], reconAt := none, floorAt := none, out := none, wrote := 0, cut := false, bits := 0
    cplx := 0 }
/-- A session whose frame is being coded. -/
def coding (f : Frame) : State :=
  on .stone 0 (on .bolter 0 ((wX .running).setFrame 0 { f with coded := false, cap := 400000, target := 300000, usedHard := 0, usedSoft := 0 }))
theorem test_row_start : let s := coding { wFrame with timedOut := true }
    s.bolterOn 0 = true ∧ (s.bolter 0).busy = false ∧ ((s.bolterPick 0).map fun e => (e.1, e.2.2)) = some (0, true) ∧
    ((s.bolterPick 0).map (·.2.1)) = (s.ses 0).frame ∧
    ((after (.bolterRowStart 0) s).ses 0).frame.map (fun f => (f.nextRow, f.segs.map fun g => (g.floor, g.q))) = some (1, [(true, 51)]) ∧
    zR.bolterPick 0 = none ∧ after (.bolterRowStart 0) zR = zR := by decide +kernel
/-- Every line of frame 4 is there, and its last row is next. -/
def lined : State :=
  let s := coding { wFrame with nextRow := 29 }
  s.setSes 0 { s.ses 0 with lines := [(4, 480)] }
theorem test_row_computed : ((lined.bolterPick 0).map fun e => (e.1, e.2.2)) = some (0, false) ∧
    ((lined.bolterPick 0).map (·.2.1)) = (lined.ses 0).frame ∧ lined.bolterOn 0 = true := by decide +kernel
theorem test_row_done : let f := { wFrame with nextRow := 30, segs := [wSeg 29 .atBolter] }
    let s := (coding f).setBolter 0 { busy := true, ses := 0, row := 29, drop := false }
    let s := s.setSes 0 { s.ses 0 with kRd := 4 }
    s.bolterOn 0 = true ∧ (s.ses 0).active.isSome = true ∧ (s.bolter 0).drop = false ∧
    ((s.ses 0).active.any fun f => f.segs.any fun g => g.row == (s.bolter 0).row && g.st == .atBolter) = true ∧
    (s.bolter 0).row + 1 = dNy (s.ses 0).desc ∧ (s.ses 0).kRd = 4 ∧ 5 ∉ (s.ses 0).readOn ∧
    ((after (.bolterRowDone 0) s).ses 0).kRd = 5 := by decide +kernel
theorem test_row_dropped : let s := (coding wFrame).setBolter 0 { busy := true, ses := 0, row := 29, drop := true }
    s.bolterOn 0 = true ∧ (s.bolter 0).drop = true ∧ ((after (.bolterRowDone 0) s).bolter 0).busy = false ∧
    (after (.bolterRowDone 0) s).reg (Reg.bolterRows 0) = 0 := by decide +kernel

/-- A block of one inter unit, or of one intra unit. -/
def wBlock (intra : Bool) : Block :=
  { units := [{ x := 0, y := 0, w := 16, h := 16, intra := if intra then some (0, false) else none
                refs := if intra then [] else [(0, 0, 0)], interp := 0 }]
    tx := [(4, 0)], elems := [1], floor := [], cplx := 1 }
theorem test_seg_start : let f := { wFrame with nextRow := 1, segs := [wSeg 0 .queued], refs := [3] }
    let s0 := (coding f).setRunner 5 { (coding f).runner 5 with lib := some 0 }
    let bl : List Block := wBlock true :: List.replicate 39 (wBlock false)
    s0.stoneOn 0 = true ∧ (s0.stone 0).busy = false ∧ (s0.imageAt 1 (s0.stone 0).lstone).isSome = true ∧
    ((s0.segPick (fun d g => g.st == .queued && dStone d g.col == (s0.stone 0).lstone)).map fun e => (e.1, e.2.2)) = some (0, wSeg 0 .queued) ∧
    (s0.ses 0).frame.any (fun f => s0.segTakes 0 f (wSeg 0 .queued) 0 bl) = true ∧
    (s0.ses 0).frame.any (fun f => s0.segPreset 0 f == 0) = true ∧
    (s0.ses 0).frame.any (fun f => s0.segTakes 0 f (wSeg 0 .queued) 0 []) = false ∧
    after (.stoneSegmentStart 0 []) s0 = s0 := by decide +kernel
/-- What reconstruction leaves of row 0 of `wD`. -/
def wRecon : SegRecon :=
  { y := List.replicate 2560 9, cb := List.replicate 640 8, cr := List.replicate 640 8, motion := List.replicate 640 0
    edge := List.replicate 11520 9, modes := List.replicate 2560 0 }
/-- Row 0 is reconstructed at tick 5, with its checkpoint open. -/
def doneAt : State :=
  let f := { wFrame with nextRow := 1, segs := [{ wSeg 0 .coding with reconAt := some 5 }] }
  let s := ((coding f).setStone 0 { (coding f).stone 0 with busy := true }).setRses 0 { RefSes.reset with sblk := some 0 }
  let c : Ckpt := { seq := 1, frame := 4, row := 0, q := 30, preset := 0, clean := 0, cycle := none, seam := (false, false)
                    samples := [], modes := [], complete := false }
  { s with ckpts := [(0, c)] }
theorem test_seg_done : let s := doneAt
    s.stoneOn 0 = true ∧ (s.stone 0).busy = true ∧ s.memServes = true ∧ reconFits wD 0 0 wRecon = true ∧
    ((s.ses 0).active.bind fun f => f.seamAt wD 0 0) = some 0 ∧ ((s.ses 0).active.bind fun f => f.seg? 0 0) =
      some { wSeg 0 .coding with reconAt := some 5 } ∧
    s.ckptArea 0 0 = 0 ∧ ((Tbl.get? s.ckpts 0).map (·.row)) = some 0 ∧ (s.rses 0).sblk.isSome = true ∧
    ((after (.stoneWatchdog 0) s).stone 0).role = .retired := by decide +kernel
theorem test_seg_not_done : let f := { wFrame with nextRow := 1, segs := [wSeg 0 .coding] }
    let s := (coding f).setStone 0 { (coding f).stone 0 with busy := true }
    ((s.ses 0).active.bind fun f => f.seg? 0 0) = some (wSeg 0 .coding) ∧ (wSeg 0 .coding).reconAt = none ∧
    ((after (.stoneSegmentDone 0 wRecon) s).stone 0).busy = true := by decide +kernel
/-- Row 5 is coded, its runner is DONE, and its checkpoint is complete. -/
def wDone (c : Nat) : State :=
  let s := coding { wFrame with nextRow := 6, segs := [{ wSeg 5 .coded with out := some [1, 2, 3], wrote := 3, c := c }] }
  { s with ckpts := [(0, { seq := 1, frame := 4, row := 5, q := 30, preset := 0, clean := 0, cycle := none, seam := (false, false)
                           samples := [], modes := [], complete := true })] }
theorem test_commit : let s := wDone 64
    let g := { wSeg 5 .coded with out := some [1, 2, 3], wrote := 3, c := 64 }
    ((s.segPick (fun _ g => g.st == .coded && g.phys == 0)).map fun e => (e.1, e.2.2)) = some (0, g) ∧ s.stoneOn 0 = true ∧
    segBits wD 5 0 (3 + segHead wD) 8 = 64 ∧ (s.ses 0).frame.any (fun f => f.segMost wD g == 64) = true ∧
    (s.ses 0).frame.any (fun f => s.ckptDone 0 f g) = true ∧
    ((after (.segmentCommit 0) s).ses 0).frame.map (fun f => (f.usedSoft, f.segs.map (·.bits))) = some (64, [64]) ∧
    after (.segmentCommit 0) (wDone 63) = wDone 63 := by decide +kernel
theorem test_commit_waits : let s := { wDone 64 with ckpts := [] }
    after (.segmentCommit 0) s = s := by decide +kernel
theorem test_seam : let d := image 256 [(0x00, 4, 0x00201E02), (0x04, 4, 0x01E00280)]
    let f := { wFrame with coded := false, segs := [{ wSeg 0 .coding with reconAt := some 5 }, { wSeg 0 .coding with col := 1 }] }
    let s := on .stone 0 (((zR.setSes 0 { Ses.reset with st := .running, desc := d, frame := some f }).setStone 0
      { zR.stone 0 with busy := true }))
    s.stoneOn 0 = true ∧ dCols d = 2 ∧ f.seamAt d 0 0 = none ∧ (s.pg (ordOf .stone 0)).resetting = false ∧
    ((after (.seamTimeout 0) s).pg (ordOf .stone 0)).err.getLsbD 4 = true := by decide +kernel

/-- A session with congestion control, and its Governor's reports. -/
def looped (st : SesSt) (g : Gov) : State :=
  zR.setSes 0 { Ses.reset with st := st, desc := image 256 [(0x60, 4, 5), (0x64, 4, 8000000), (0x74, 4, 1000000)], gov := g }
theorem test_report : let r : FbReport := ⟨0, [], 1250000⟩
    let s := looped .running { Gov.reset with cNow := 4000000, reports := [r] }
    (s.ses 0).st ≠ .free ∧ (s.ses 0).gov.reports = r :: [] ∧ govLoop (s.ses 0).desc = true ∧ (s.ses 0).gov.hold ≤ r.time ∧
    ((after (.govFeedbackReport 0) s).ses 0).gov.reports = [] ∧ (zR.ses 0).gov.reports = [] ∧ after (.govFeedbackReport 0) zR = zR := by
  decide +kernel
theorem test_report_held : let r : FbReport := ⟨0, [], 5⟩
    let s := looped .running { Gov.reset with cNow := 4000000, hold := 6, reports := [r] }
    r.time < (s.ses 0).gov.hold ∧ ((after (.govFeedbackReport 0) s).ses 0).gov.cNow = 4000000 := by decide +kernel
theorem test_in_force : let s := looped .running { Gov.reset with cNow := 4000000, pendAt := some 10 }
    (s.ses 0).gov.pendAt = some 10 ∧ ((after (.govRateInForce 0) s).ses 0).gov.cForce = 4000000 ∧ (after (.govRateInForce 0) s).tick = 239 ∧
    (zR.ses 0).gov.pendAt = none ∧ after (.govRateInForce 0) zR = zR := by decide +kernel
theorem test_fb_timeout : let s := (looped .held { Gov.reset with cNow := 4000000 }).setReg Reg.govFbTimeoutMs 1
    fld (s.reg Reg.govFbTimeoutMs) 15 0 ≠ 0 ∧ (s.ses 0).st = .held ∧ (s.pg (ordOf .governor 0)).resetting = false ∧
    ((after (.govFbTimeout 0) s).ses 0).gov.toAt = 1250000 ∧ ((after (.govFbTimeout 0) s).ses 0).gov.cNow = 4000000 * s.decFactor / 1000 := by
  decide +kernel
theorem test_fb_timeout_off : let s := zR.setReg Reg.govFbTimeoutMs 0
    fld (s.reg Reg.govFbTimeoutMs) 15 0 = 0 ∧ after (.govFbTimeout 0) s = s := by decide +kernel

theorem test_lost : let s := zR.setRses 0 { RefSes.reset with waits := [(65541, 20)] }
    (s.rses 0).waits.find? (fun w => w.1 % 65536 == (5#16).toNat) = some (65541, 20) ∧ (s.rses 0).gone.contains 65541 = false ∧
    (s.rses 0).got.contains 65541 = false ∧ ((after (.packetLost 0 5#16) s).rses 0).gone = [65541] ∧
    (zR.rses 0).waits = [] ∧ after (.packetLost 0 5#16) zR = zR := by decide +kernel
theorem test_cls : zR.clsBound 15 = false ∧ (2 ≤ fld 0x4480#32 7 0 ∧ fld 0x4480#32 7 0 ≤ 128 ∧ 2 ≤ fld 0x4480#32 15 8 ∧ fld 0x4480#32 15 8 ≤ 68) ∧
    (zR.setReg (clsReg 15 0) (0x4480#32 &&& clsMask 0)).bufsSum ≤ 8192 ∧
    (after (.refClsWrite .i3c 15 0 0x4480#32) zR).reg (clsReg 15 0) = 0x4480 ∧
    (after (.refClsWrite .i3c 15 3 0x2000#32) zR).reg (clsReg 15 3) = 0x2000 := by decide +kernel
theorem test_cls_base : let s := after (.refClsWrite .i3c 0 1 0x5FFF#32) zR
    s.reg (clsReg 0 1) = 0 ∧ Tbl.get? s.heldLo (pathKey .i3c (clsReg 0 1)) = some 0x5000#32 ∧
    (after (.refClsWrite .i3c 0 2 7#32) s).reg (clsReg 0 1) = 0x5000 := by decide +kernel
theorem test_cls_bound : let s := zR.setRbuf 0 { RefBuf.reset with owner := 3 }
    s.clsBound 0 = true ∧ s.reg (clsReg 0 3) ≠ 1#32 &&& clsMask 3 ∧ (s.pg (ordOf .refpool 0)).resetting = false ∧
    ((after (.refClsWrite .i3c 0 3 1#32) s).pg (ordOf .refpool 0)).err.getLsbD 7 = true := by decide +kernel

/-! ## Transport -/

/-- A row unit of one NAL unit of two bytes. -/
def wUnit : RowUnit :=
  { frame := 4, tk := 0, row := 5, bytes := [0, 0, 0, 1, 0x41, 7], tiles := [], full := true, last := false, params := false, since := 0 }
/-- A session with linked bytes, a flow and a template. -/
def sending (k : Pkt) : State :=
  let s := wB.setSes 0 { Ses.reset with st := .running, desc := wD, pkt := { k with tmpl := wT } }
  (s.setLane 0 { Lane.reset with isOpen := true, units := [wUnit], hist := [] }).setFlow 0 { wFlow with owner := .session 0 }
theorem test_packetize : let s := sending { Pkt.reset with next := 77 }
    s.pktOn 0 = true ∧ (s.ses 0).pkt.rtxWait = [] ∧ (s.nextPiece 0).map (fun e => (e.1, e.2.1, e.2.2.payload)) = some (wUnit, [[0x41, 7]], [0x41, 7]) ∧
    s.flowTakes (dFlow wD) true (buildFrame wT 0 (srtpSeal (s.ses 0).pkt.tx (dSsrc wD) 77
      ([0x80, byte (dPt wD)] ++ beBytes 2 77 ++ beBytes 4 (rtpStamp wD 0 0) ++ beBytes 4 (dSsrc wD)) [0x41, 7])) = true ∧
    s.memServes = true ∧ (s.ses 0).pkt.switchTx.next < 2 ^ 48 := by decide +kernel
theorem test_packetize_end : let s := sending { Pkt.reset with next := 2 ^ 48 }
    2 ^ 48 ≤ (s.ses 0).pkt.switchTx.next ∧ after (.packetize 0) s = s ∧ zR.pktOn 0 = false ∧ after (.packetize 0) zR = zR ∧
    after (.feedbackPacket 0) zR = zR := by decide +kernel
theorem test_rekey : let s := sending Pkt.reset
    s.coreUp = true ∧ fld (s.preg .i3c Reg.pktSel) 8 0 = 0 ∧ flag 0x80020001#32 31 = true ∧ (s.slot (fld 0x80020001#32 11 0)).typ = 2 ∧
    (s.slot (fld 0x80020001#32 27 16)).typ = 2 ∧ ((after (.pktRekeyCmd .i3c 0x80020001#32) s).ses 0).pkt.armed.isSome = true := by decide +kernel
/-- The same session with a sender report interval. -/
def reporting (k : Pkt) : State :=
  (sending k).setSes 0 { (sending k).ses 0 with desc := image 256 [(0xB8, 4, 0x105DC)] }
theorem test_sr : let s := reporting { Pkt.reset with srAt := 9 }
    let u := s.reach 9
    dSrMs (s.ses 0).desc ≠ 0 ∧ (s.ses 0).st ≠ .ready ∧ s.pktOn 0 = true ∧
    u.flowTakes 0 false (buildFrame wT 0 (srtcpSeal (s.ses 0).pkt.tx 0 0 (u.senderReport 0))) = true ∧
    ((after (.srIntervalExpiry 0) s).ses 0).pkt.srtcp = 1 ∧ (after (.srIntervalExpiry 0) s).tick = 9 := by decide +kernel
theorem test_sr_end : let s := reporting { Pkt.reset with srtcp := 2 ^ 31 }
    2 ^ 31 ≤ (s.ses 0).pkt.srtcp ∧ (s.ses 0).pkt.exhausted = false ∧ (s.pg (ordOf .packetizer 0)).resetting = false ∧
    ((after (.srIntervalExpiry 0) s).ses 0).pkt.exhausted = true := by decide +kernel
theorem test_feedback : let s := fun b => sending { Pkt.reset with fb := [([0x80, b], 3)] }
    ((s 191).ses 0).pkt.fb = ([0x80, 191], 3) :: [] ∧ beAt [0x80, 191] 1 1 < 192 ∧ ((after (.feedbackPacket 0) (s 191)).ses 0).pkt.fbDrop = 1 ∧
    223 < beAt [0x80, 224] 1 1 ∧ (192 ≤ beAt [0x80, 192] 1 1 ∧ beAt [0x80, 223] 1 1 ≤ 223) ∧
    ((after (.feedbackPacket 0) (s 223)).ses 0).pkt.authBad = 1 := by decide +kernel

theorem test_history : let x : Lane := { Lane.reset with
      isOpen := true, maxSegs := 9, read := 2 * spillBytes, hist := [⟨7, 0, 20, 5⟩, ⟨8, spillBytes, spillBytes + 9, 6⟩] }
    let s := (sending Pkt.reset).setLane 3 x
    let s := s.setSes 0 { s.ses 0 with desc := image 256 [(0xC0, 4, 1)] }
    let u := s.setSes 0 { s.ses 0 with pkt := { (s.ses 0).pkt with rtxWait := [7] } }
    s.coreUp = true ∧ (s.lane 3).histEnd = some spillBytes ∧ dHist (s.ses x.owner).desc ≠ 0 ∧ s.histMay 3 spillBytes = true ∧
    (∀ h ∈ x.histOld spillBytes, (s.histSent x.owner h).isSome = true) ∧ u.histMay 3 spillBytes = false ∧
    ((after (.historyExpiry 1 1) s).lane 3).hist = [⟨8, spillBytes, spillBytes + 9, 6⟩] ∧
    (after (.historyExpiry 1 1) s).tick = 1250006 ∧ (zR.lane 3).histEnd = none ∧ after (.historyExpiry 1 1) zR = zR := by decide +kernel
theorem test_leat_flush : let s := sending Pkt.reset
    fld 0#32 7 0 = 0 ∧ fld 0#32 8 8 = 0 ∧ (s.lane 0).isOpen = true ∧ ((after (.leatFlush .i3c 0#32) s).lane 0).units = [] := by decide +kernel
theorem test_leat_stale : let s := (sending Pkt.reset).setReg Reg.leatStaleUs 2
    (s.lane 0).oldest = some 0 ∧ fld (s.reg Reg.leatStaleUs) 23 0 ≠ 0 ∧ (s.lane 0).stale = false ∧ (s.pg (ordOf .leat0 0)).resetting = false ∧
    (s.lane 0).isOpen = true ∧ (after (.leatStale 0 0) s).tick = 2500 ∧ ((after (.leatStale 0 0) s).lane 0).stale = true ∧
    (fld ((zR.setReg Reg.leatStaleUs 0).reg Reg.leatStaleUs) 23 0 = 0) := by decide +kernel

theorem test_reload : let s := (wB.setFlow 0 { wFlow with k := 99 * 65536 * 65536 }).setReg Reg.sluFlowBaseLo 0x200
    let s := s.writeLines 0 0 0x200 wF
    s.coreUp = true ∧ (s.flow? 0).isSome = true ∧ (s.readFlow 0).1 = some (flowDesc wF) ∧ (after (.sluFlowReload .i3c 0) s).reg Reg.sluFlowResult = 0 ∧
    zR.flow? 4095 = none ∧ (after (.sluFlowReload .i3c 4095) zR).reg Reg.sluFlowResult = 1 := by decide +kernel
theorem test_coarse : let s := zR.setFlow 0 { wFlow with wheel := some (119999, true) }
    let t := zR.setFlow 0 { wFlow with wheel := some (120000, true) }
    s.sluiceOn = true ∧ ((after .sluiceCoarseSlot s).flow? 0).bind (·.wheel) = some (119999, false) ∧
    ((after .sluiceCoarseSlot t).flow? 0).bind (·.wheel) = some (120000, true) ∧ (after .sluiceCoarseSlot s).tick = 40000 := by decide +kernel
theorem test_fine : let x : Flow := { wFlow with wheel := some (80, false), k := 0, pkts := [⟨List.replicate 60 0, false, 5⟩] }
    let s := wB.setFlow 0 x
    zR.flows = [] ∧ zR.leat.lanes = [] ∧ after .sluiceFineSlot zR = zR.reach 80 ∧
    s.flows = [(0, x)] ∧ s.leat.lanes = [] ∧ 0 ≤ (x.settle 80).k ∧ s.flowBlocked (x.settle 80) = false ∧
    ((after .sluiceFineSlot s).flow? 0).map (·.pkts) = some [] ∧ ((after .sluiceFineSlot s).flow? 0).map (·.k) = some (-4194304) := by decide +kernel
theorem test_tbl_commit : let s := zR.setGate 95 { Gate.reset with pending := false }
    fld 95#32 6 0 < 4 * s.part.quads ∧ ((after (.sluTblCommit .i3c 95#32) s).gate 95).pending = true ∧
    4 * s.part.quads ≤ fld 96#32 6 0 ∧ after (.sluTblCommit .i3c 96#32) s = s := by decide +kernel
theorem test_tbl_swap : let s := zR.setGate 0 { Gate.reset with pending := true, openAll := true }
    (s.gate 0).pending = true ∧ ((s.gate 0).copy (s.gate 0).active).en = false ∧ ((after (.sluTblSwap 0) s).gate 0).active = true ∧
    (after (.sluTblSwap 0) s).tick = 1 ∧ (zR.gate 0).pending = false ∧ after (.sluTblSwap 0) zR = zR := by decide +kernel
theorem test_gate_entry : let c : GateCopy := { en := true, count := 2, phase := 0, entries := [(0, 0x10001), (1, 0x10002)] }
    let s := zR.setGate 0 { Gate.reset with copy0 := c }
    ((s.gate 0).copy (s.gate 0).active).en = true ∧ ((after (.gateEntryBoundary 0) s).gate 0).entry = 1 ∧
    (after (.gateEntryBoundary 0) s).tick = 80 := by decide +kernel

/-! ## The time base -/

theorem test_tb_offset : let s := after (.tbOffsetWrite .i3c 0x10007#32) zR
    zR.live = true ∧ s.tb.offset = 7 * 2 ^ 96 ∧ flag (s.pg (ordOf .timebase 0)).int 3 = true := by decide +kernel
theorem test_tb_rate_ok : let s := { zR with tick := 1000, heldLo := [(pathKey .i3c Reg.tbRateLo, 0xCCCC0000#32)] }
    rateOk (fld 0#32 7 0 * 2 ^ 32 + (Tbl.getD s.heldLo (pathKey .i3c Reg.tbRateLo) (loWord s.tb.rate)).toNat) = true ∧
    (after (.tbRateWrite .i3c 0#32) s).tb.rate = 0xCCCC0000 ∧ (after (.tbRateWrite .i3c 0#32) s).netTime = s.netTime := by decide +kernel
theorem test_tb_rate_bad : rateOk (fld 1#32 7 0 * 2 ^ 32 + (Tbl.getD zR.heldLo (pathKey .i3c Reg.tbRateLo) (loWord zR.tb.rate)).toNat) = false ∧
    (zR.pg (ordOf .timebase 0)).resetting = false ∧ ((after (.tbRateWrite .i3c 1#32) zR).pg (ordOf .timebase 0)).err.getLsbD 1 = true := by
  decide +kernel
theorem test_tb_step : let s := { zR with tb := { zR.tb with offset := 3 * 2 ^ 32 }, heldLo := [(pathKey .i3c Reg.tbStepLo, 0xFFFFFFFE#32)] }
    (after (.tbStepWrite .i3c 0xFFFFFFFF#32) s).tb.offset = 2 ^ 32 := by decide +kernel
theorem test_cmp : let s := (zR.setReg (Reg.tbCmpPeriodNs 31) 1000).setReg (Reg.tbCmpPhaseNs 31) 999
    s.cmpEn 31 = false ∧ 1000 ≤ (s.reg (Reg.tbCmpPeriodNs 31)).toNat ∧ s.cmpPhase 31 < s.cmpPeriod 31 ∧ flag 1#32 0 = true ∧
    Tbl.get? (after (.tbCmpWrite .i3c 31 3 1#32) s).tb.next 31 = some (999 * 2 ^ 32) ∧
    (after (.tbCmpWrite .i3c 31 1 0xFFFFFFFF#32) s).reg (cmpReg 31 1) = 0xFFFF ∧
    (after (.tbCmpWrite .i3c 31 3 1#32) s).cmpEn 31 = true ∧ ((after (.tbCmpWrite .i3c 31 3 1#32) s).pg (ordOf .timebase 0)).resetting = false ∧
    ((after (.tbCmpWrite .i3c 31 0 5#32) (after (.tbCmpWrite .i3c 31 3 1#32) s)).pg (ordOf .timebase 0)).err.getLsbD 1 = true := by
  decide +kernel
theorem test_sdref : zR.tb.refE = false ∧ zR.dev.mode ≠ .off ∧ (after .sdrefWLoss zR).tb.refE = true ∧ after .tbPllLockE zR = zR ∧
    (after .tbPllLockE (after .sdrefWLoss zR)).tb.pllLock = true ∧ after .sdrefWLoss (after .sdrefWLoss zR) = after .sdrefWLoss zR := by
  decide +kernel
theorem test_pps_in : let s := { zR with tick := 1250, tb := { zR.tb with ppsInAt := some 0 } }
    s.up = true ∧ (after .ppsInEdge s).tb.ppsInAt = some 1250 ∧ (after .ppsInEdge s).reg Reg.tbPpsInCnt = 1 ∧
    (inMode .off z).up = false ∧ after .ppsInEdge (inMode .off z) = inMode .off z := by decide +kernel
theorem test_pps_out : let s := { zR with tb := { zR.tb with ppsOut := true, ppsFall := 44 } }
    (after .ppsOutPulseEnd s).out = [.pps false] ∧ (after .ppsOutPulseEnd s).tick = 44 ∧ zR.tb.ppsOut = false ∧
    after .ppsOutPulseEnd zR = zR := by decide +kernel

/-! ## The Ledger -/

/-- A fault that no record carries yet. -/
def wFault : LdgFault :=
  { time := 5, page := 1, src := 2, cls := 2, mode := 3, master := 0, acc := 0, merged := 1, addr := 0, por := 1, buFail := 0 }
/-- A Ledger with an update. -/
def owed : State := { zR with ldg := { zR.ldg with faults := [wFault] } }
theorem test_ldg_sync : let s := after (.ldgSync .i3c) owed
    owed.live = true ∧ owed.ldg.busy = false ∧ owed.ldg.updates = true ∧ s.ldg.write.map (·.bank) = some 1 ∧ s.ldg.bank0 = owed.ldg.bank0 ∧
    owed.ldg.newest.map (·.1) = some 0 ∧ zR.ldg.updates = false ∧ (after (.ldgSync .i3c) zR).ldg.result = 0 ∧
    s.ldg.busy = true ∧ after (.ldgReadUser .i3c) s = { s with ldg := { s.ldg with result := 4 } } := by decide +kernel
theorem test_ldg_bank1 : let s := { zR with ldg := { zR.ldg with bank0 := .bad, bank1 := zR.ldg.bank0 } }
    s.ldg.newest.map (·.1) ≠ some 0 ∧ (after (.ldgClearRetire .i3c) s).ldg.write.map (·.bank) = some 0 ∧
    (after (.ldgReadFaults .i3c) s).ldg.read.map (·.1) = some .readFaults := by decide +kernel
theorem test_ldg_user : let s := (zR.setReg Reg.ldgLen 64).writeLines 0 0 0 [7]
    s.ldgLen % 64 = 0 ∧ s.ldgLen ≤ 2 ^ 20 ∧ (s.readBytes ldgMaster 0x0 s.ldgAddr s.ldgLen).1 = some (padTo 64 [7]) ∧
    ((after (.ldgWriteUser .i3c) s).ldg.write.map fun w => Tbl.getD w.record.secs 9 []) = some (padTo 64 [7]) := by decide +kernel
/-- A record of the four mandatory sections, each empty. -/
def wRec : List Byte :=
  let l := image 128 [(0, 4, 0x5A4C4752), (8, 4, 128), (0xC, 1, 1), (0xD, 1, 4), (0x40, 4, 1), (0x50, 4, 2), (0x60, 4, 3), (0x70, 4, 4)]
  l.take 0x10 ++ leBytes 4 (crc32 (l.take 0x10 ++ slice l 0x40 64)) ++ l.drop 0x14
theorem test_ldg_parse : ldgParse wRec = some [(1, []), (2, []), (3, []), (4, [])] := by decide +kernel
theorem test_ldg_record : let s := (zR.setReg Reg.ldgLen 128).writeLines 0 0 0 wRec
    let r := s.readBytes ldgMaster 0x0 s.ldgAddr s.ldgLen
    s.ldgLen % 64 = 0 ∧ s.ldgLen ≠ 0 ∧ s.ldgLen ≤ 2 ^ 24 ∧ r.1 = some wRec ∧
    (∀ y ∈ [2, 3, 4], ∀ c ∈ r.2.secImgs y (Tbl.getD [(1, []), (2, []), (3, []), (4, [])] y []), c = 0) ∧
    (after (.ldgWriteRecord .i3c) s).ldg.write.isSome = true := by decide +kernel
theorem test_ldg_len : let s := zR.setReg Reg.ldgLen 65
    s.ldgLen % 64 ≠ 0 ∧ (s.pg (ordOf .ledger 0)).resetting = false ∧ (after (.ldgWriteUser .i3c) s).ldg.result = 1 ∧
    ((after (.ldgWriteRecord .i3c) s).pg (ordOf .ledger 0)).err.getLsbD 2 = true := by decide +kernel
theorem test_ldg_write : owed.up = true ∧ owed.ldgDue = true ∧ (after .ledgerRecordWrite owed).ldg.write.map (·.added) = some [wFault] ∧
    (after (.ledgerWriteDone true) (after .ledgerRecordWrite owed)).ldg.newest.map (fun e => (e.1, e.2.seq, e.2.faults)) =
      some (1, 2, [wFault]) := by decide +kernel
theorem test_ldg_retry : let s := after .ledgerRecordWrite owed
    s.ldg.write.map (fun w => (w.bank, w.retry)) = some (1, false) ∧ (after .ledgerFlashTimeout s).ldg.write.map (·.retry) = some true ∧
    (after .ledgerFlashTimeout s).dev.mode ≠ .halt ∧ ((after .ledgerFlashTimeout s).pg (ordOf .ledger 0)).resetting = false ∧
    (after (.ledgerWriteDone false) (after .ledgerFlashTimeout s)).ldg.write = none ∧
    (after (.ledgerWriteDone false) (after .ledgerFlashTimeout s)).ldg.updates = true := by decide +kernel
theorem test_ldg_interval : let s := { owed with ldg := { owed.ldg with lastAt := some 0 } }
    s.ldg.lastAt = some 0 ∧ s.ldg.updates = true ∧ s.ldg.busy = false ∧ (after .ledgerIntervalExpiry s).ldg.write.isSome = true := by decide +kernel
theorem test_wear : (after .ledgerWearUpdate zR).ldg.write.isSome = true ∧ zR.ldgDue = true ∧
    (after .ledgerWearUpdate (after .ledgerRecordWrite owed)).ldg.wearP = true ∧ (after .ledgerRecordWrite owed).ldg.busy = true ∧
    (after .wearHourCount (zR.setReg Reg.devTjMax 1760)).ldg.wear.hoursMid = 1 ∧
    (after .wearHourCount (zR.setReg Reg.devTjMax 0xFFFF)).ldg.wear.hoursLow = 1 := by decide +kernel
/-- A record that holds one fault. -/
def faulted : LdgRecord := { seq := 1, wear := ⟨0, 1, 0, 0, 0⟩, faults := [wFault], retire := Retire.none, secs := [], bad := [] }
theorem test_ldg_read : let s := { zR with ldg := { zR.ldg with read := some (.readFaults, 0), bank0 := .valid faulted } }
    s.memServes = true ∧ 0 + (s.ldg.readData .readFaults).length ≤ s.dramSize ∧ (after .ledgerReadDone s).mem.bytesAt 0 1 = [5] := by
  decide +kernel

/-! ## Decode sessions and runners -/

/-- A decode descriptor: AVC level 3, two buffers of class 0, delivery to part DRAM. -/
def wE : List Byte := image 128 [(0, 4, 0x1E01), (4, 4, 30000), (8, 4, 0x03140820), (0x14, 4, 640), (0x18, 4, 491520)]
/-- A runner image with two words; the first writes G0 to G0. -/
def wM (id : Nat) : LibSlot := { valid := true, ledger := true, image := image 292 [(4, 1, id), (8, 4, 2), (0x105, 1, 2)], addr := 0 }
/-- Pipeline 0 with its runner. -/
def wP : State :=
  let s := wB.setLib 0 (wM 0x11)
  let s := { s with runners := { s.runners with force := [(5, ⟨2, 0, 0⟩)] } }
  s.setRunner 5 { s.runner 5 with lib := some 0 }
/-- A decode session in a state. -/
def decoding (x : DecSes) : State := wP.setDec 0 { x with desc := wE }
theorem test_dec_setup : let s := wP.writeLines 0 0 0 wE
    let r := s.readBytes 0x122 0x0 (s.preg64 .i3c (Reg.decSesDescLo 0) / 64 * 64) 128
    s.coreUp = true ∧ 0 < s.part.pipes ∧ (s.dec 0).st = .free ∧ r.1 = some wE ∧ r.2.eeOk wE = true ∧ r.2.eePresent wE = true ∧
    r.2.pipeServes (eePipe wE) (dCodec wE) = true ∧ (r.2.decFree 0).refRoom (eeClass wE) (eeBufs wE) false = true ∧
    ((after (.decSetup (.reg .i3c) 0 0) s).rses 512).bufs.length = 2 := by decide +kernel
theorem test_dec_start : let s := decoding { DecSes.reset with st := .ready }
    (s.dec 0).st = .ready ∧ s.running = true ∧ s.pipeSum (eePipe (s.dec 0).desc) + s.eeLoad (s.dec 0).desc ≤ 10 ^ 12 ∧
    ((after (.decStart (.reg .i3c) 7 0) s).dec 0).st = .running ∧ ((after (.decAbort (.reg .i3c) 7 0) s).dec 0).st = .free ∧
    (after (.decStart (.reg .i3c) 7 0) s).reg (Reg.decSesResult 7) = 0x2000 := by decide +kernel
theorem test_dec_stop : let s := decoding { DecSes.reset with st := .running, input := [1] }
    (s.dec 0).st = .running ∧ ((after (.decStop (.reg .i3c) 0 0) s).dec 0).input = [] ∧
    ((after (.decStop (.reg .i3c) 0 0) (decoding { DecSes.reset with st := .held })).dec 0).st = .stopping := by decide +kernel
theorem test_dec_absent : zR.part.decSessions ≤ 128 ∧ (zR.pg (ordOf .dec 7)).resetting = false ∧
    (after (.decSetup (.reg .i3c) 7 128) zR).reg (Reg.decSesResult 7) = 0x21080 := by decide +kernel
theorem test_dec_stopped : let s := decoding { DecSes.reset with st := .stopping }
    let u := s.setDec 0 { s.dec 0 with waits := [3] }
    s.decSpent 0 = true ∧ ((after (.decSessionStopped 0) s).dec 0).st = .free ∧ u.decSpent 0 = false ∧
    after (.decSessionStopped 0) u = u := by decide +kernel
theorem test_dec_rtp : let s := decoding { DecSes.reset with st := .running, net := [([0x00], 3), ([0x80], 4)] }
    (s.dec 0).takes = true ∧ beAt [0x00] 0 1 / 64 ≠ 2 ∧ ((after (.decRtpPacket 0) s).dec 0).drops = 1 ∧
    ((after (.decRtpPacket 0) s).dec 0).net = [([0x80], 4)] := by decide +kernel
theorem test_dec_reorder : let s := decoding { DecSes.reset with st := .held, rtp := [⟨5, 90, false, [0x41, 1], 0, none⟩, ⟨6, 91, false, [], 0, none⟩] }
    (s.dec 0).takes = true ∧ ((after (.decReorderTimeout 0) s).dec 0).aus.map (·.bytes) = [[0, 0, 0, 1, 0x41, 1]] ∧
    ((after (.decReorderTimeout 0) s).dec 0).rtp.length = 1 := by decide +kernel
/-- An access unit. -/
def wAu : DecAu := { bytes := [0, 0, 0, 1, 0x65], time := 0, size := 5, bufs := [] }
/-- The headers of a small picture of AVC Main. -/
def wH : DecHead :=
  { seq := { profile := 2, level := 30, high := false, chroma := 1, depth := 8, field := false, large := false, width := 128, height := 96
             dpb := 1 }
    cropX := 0, cropY := 0, width := 128, height := 96, order := 0, key := true, recovers := false, refs := [], grain := false, bins := 9, vlc := 0
    shows := none, more := false, outputs := [], waits := [], keeps := [] }
/-- A session with an access unit on an enabled pipeline. -/
def decReady : State :=
  let s0 := decoding { DecSes.reset with st := .running, aus := [wAu], lastBuf := some 1 }
  on .dec 0 ((s0.setRses 512 { RefSes.reset with bufs := [0, 1] }).setRbuf 0 { RefBuf.reset with owner := 512 })
theorem test_dec_start_pic : let s := decReady
    let t := after (.decPictureStart 0 (some wH)) s
    let u := after (.decPictureStart 0 (some { wH with refs := [none] })) s
    s.accepts .dec 0 = true ∧ (s.pipe 0).busy = false ∧ (s.pipe 0).lost = false ∧ s.memServes = true ∧ s.decPick 0 = some (0, wAu) ∧
    s.decSeqOk (s.dec 0).desc wH.seq = true ∧ (s.refTake 512 (s.dec 0).num (s.dec 0).num).1 = some 0 ∧
    (t.pipe 0).busy = true ∧ (t.pipe 0).buf = 0 ∧ (t.pipe 0).subst = false ∧ (u.pipe 0).refs = [1] ∧ (u.pipe 0).subst = true := by decide +kernel
theorem test_dec_unsupported : let h := { wH with seq := { wH.seq with dpb := 2 } }
    decReady.decSeqOk (decReady.dec 0).desc h.seq = false ∧
    ((after (.decPictureStart 0 (some h)) decReady).pg (ordOf .dec 0)).err.getLsbD 4 = true ∧
    ((after (.decPictureStart 0 none) decReady).dec 0).aus = [] := by decide +kernel
/-- A picture to deliver. -/
def wPic : DecPic :=
  { num := 0, buf := 0, status := 0, cropX := 0, cropY := 0, width := 1, height := 1, depth := 8, flags := 0, auTime := 0, order := 0, shown := false }
theorem test_dec_shown : let s := decReady.setDec 0 { decReady.dec 0 with num := 1, dpb := [{ wPic with shown := true }] }
    let h := { wH with shows := some 0 }
    s.decSeqOk (s.dec 0).desc h.seq = true ∧ (s.dec 0).dpb.find? (fun q => q.num == 0) = some { wPic with shown := true } ∧
    ((after (.decPictureStart 0 (some h)) s).dec 0).ready.map (·.flags) = [1] := by decide +kernel
theorem test_dec_done : let s := after (.decPictureStart 0 (some wH)) decReady
    (s.pipe 0).au = some wAu ∧ (s.pipe 0).head = some wH ∧ (s.pipe 0).busy = true ∧ (s.pipe 0).ses = 0 ∧
    s.serves .dec 0 (s.pipe 0).since = true ∧ s.memServes = true ∧ s.pipeServes 0 (dCodec (s.dec 0).desc) = true ∧
    (s.pg (ordOf .dec 0)).resetting = false ∧ ((after (.decWatchdog 0) s).pipe 0).lost = true := by decide +kernel
/-- The units of a slice that decode: five of six by the syntax, and of them those before a line that failed. -/
theorem test_dec_sound : let x : DecSlice := { cabac := true, units := [0, 1, 2, 3, 4, 5], good := 5, data := [(0, 7), (0, 7), (64, 8), (64, 8)] }
    DecSlice.sound 100 [8] false x = [0, 1] ∧
    DecSlice.sound 100 [] false x = [0, 1, 2, 3, 4] ∧ DecSlice.sound 100 [] true x = [] := by decide +kernel
theorem test_dec_poll : let s0 := (decoding { DecSes.reset with st := .running, ready := [wPic] }).writeLines 0 0 256 [7]
    let s := s0.setDec 0 { s0.dec 0 with desc := image 128 [(8, 4, 0x03140820), (0x24, 4, 256)] }
    (s.dec 0).st ≠ .free ∧ (s.dec 0).ready ≠ [] ∧ eeCons (s.dec 0).desc ≠ 0 ∧ (s.dec 0).polled = none ∧ eeSpace (s.dec 0).desc = none ∧
    (s.readBytes (0x40 + eePipe (s.dec 0).desc) 0x0 (eeCons (s.dec 0).desc) 4).1 = some [7, 0, 0, 0] ∧
    ((after (.decConsPoll 0) s).dec 0).polled = some 7 := by decide +kernel
theorem test_dec_deliver : let s := on .dma 31 ((decoding { DecSes.reset with st := .running, ready := [wPic], out := 2 ^ 32 - 1 }).setReg
      (Reg.decCtl 0) 0x9F)
    let t := s.setDec 0 { s.dec 0 with desc := image 128 [(8, 4, 0x03140820), (0x24, 4, 256)], polled := some (2 ^ 32 - 2) }
    s.decDma 0 = some 31 ∧ s.accepts .dma 31 = true ∧ s.memServes = true ∧ eeCons (s.dec 0).desc = 0 ∧
    ((after (.decDeliveryDone 0) s).dec 0).out = 0 ∧
    (∃ c, (t.dec 0).polled = some c ∧ ((t.dec 0).out + 2 ^ 32 - c) % 2 ^ 32 < eeSlots (t.dec 0).desc) ∧
    (zR.dec 0).ready = [] ∧ after (.decDeliveryDone 0) zR = zR ∧ after (.decConsPoll 0) zR = zR :=
  ⟨by decide +kernel, by decide +kernel, by decide +kernel, by decide +kernel, by decide +kernel, ⟨2 ^ 32 - 2, by decide +kernel⟩,
    by decide +kernel⟩
theorem test_dec_ctl : let s := after (.decCtlWrite .i3c 0 0x85#32) zR
    flag 0xFFFFFF7F#32 7 = false ∧ (after (.decCtlWrite .i3c 7 0xFFFFFF7F#32) zR).reg (Reg.decCtl 7) = 0x1F ∧
    flag 0x85#32 7 = true ∧ (flag (s.reg (Reg.decCtl 0)) 7 = true ∧ fld (s.reg (Reg.decCtl 0)) 4 0 = fld 0x85#32 4 0) ∧
    (s.pg (ordOf .dec 1)).resetting = false ∧ ((after (.decCtlWrite .i3c 1 0x85#32) s).pg (ordOf .dec 1)).err.getLsbD 6 = true := by decide +kernel

theorem test_asg : let s := wP.setLib 1 { wI with image := image 16 [(4, 4, 0x01000001)] }
    (s.pg (ordOf .runners0 0)).resetting = false ∧ s.asgOk 63 (asgOf 0x109#32) = true ∧
    (after (.runnerAssignWrite .i3c 63 0x109#32) s).reg (Reg.runnerAssign 63) = 0x109 ∧ s.asgOk 63 (asgOf 0x209#32) = false ∧
    ((after (.runnerAssignWrite .i3c 63 0x209#32) s).pg (ordOf .runners0 0)).err.getLsbD 6 = true := by decide +kernel
theorem test_asg_apply : let s0 := zR.setReg (Reg.runnerAssign 4) 0x103
    let s := s0.setRunner 4 { s0.runner 4 with lib := some 1 }
    s.runnerOf 4 = some 4 ∧ s.asgWaits 4 = true ∧ (s.runner 4).busy = false ∧ (s.runner 4).loading = none ∧ s.asgHeld (s.assign 4) = false ∧
    s.asgHeld (s.asked 4) = false ∧ s.placeHeld 4 (s.asked 4) = false ∧ (s.runner 4).lib = some (s.asked 4).lib ∧
    (after (.runnerAssignApply 4) s).assign 4 = ⟨3, 0, 1⟩ := by
  decide +kernel
/-- Runner 5 serves stone 0 with image 0, and is to take image 1. -/
def replacing : State :=
  let s0 := (zR.setLib 0 wI).setLib 1 wI
  let s0 := { s0 with runners := { s0.runners with force := [(5, ⟨1, 0, 0⟩)] } }
  (s0.setRunner 5 { s0.runner 5 with lib := some 0, busy := true }).setReg (Reg.runnerAssign 5) 0x101
theorem test_asg_replace : let s := replacing
    s.runnerOf 5 = some 5 ∧ s.asgWaits 5 = true ∧ (s.runner 5).loading = none ∧ s.asgHeld (s.assign 5) = false ∧ s.asgHeld (s.asked 5) = false ∧
    s.placeHeld 5 (s.asked 5) = false ∧ s.asgReplaces 5 = true ∧ (∀ j ∈ List.range 5, s.asgReplaces j = false) ∧ s.spareRunner = some 64 ∧
    (s.runner 64).lib ≠ some (s.asked 5).lib ∧ (s.runner 64).loading ≠ some (s.asked 5).lib ∧ (s.lib (s.asked 5).lib).valid = true ∧
    ((after (.runnerAssignApply 5) s).runner 64).loading = some 1 ∧ (after (.runnerAssignApply 5) s).assign 5 = ⟨1, 0, 0⟩ := by decide +kernel
theorem test_asg_place : let s := replacing.setReg (Reg.runnerAssign 6) 0x101
    s.asgWaits 6 = true ∧ s.placeHeld 6 (s.asked 6) = true ∧ after (.runnerAssignApply 6) s = s := by decide +kernel
theorem test_lib : zR.runners.cmd = none ∧ (zR.lib 15).valid = false ∧ (after (.libInsert .i3c 15) zR).runners.cmd = some (15, zR.libAddr) ∧
    (wP.lib 0).valid = true ∧ (after (.libInsert .i3c 0) wP).runners.result = 4 ∧
    wP.libHeld 15 = false ∧ (after (.libRemove .i3c 15) wP).runners.result = 0 ∧
    wP.libHeld 0 = true ∧ (after (.libRemove .i3c 0) wP).runners.result = 4 := by decide +kernel
theorem test_lib_busy : let s := { zR with runners := { zR.runners with cmd := some (3, 0) } }
    s.runners.cmd.isSome = true ∧ after (.libInsert .i3c 15) s = s ∧ after (.libRemove .i3c 15) s = s := by decide +kernel
theorem test_lib_done : let s := { zR with runners := { zR.runners with cmd := some (3, 64) } }
    s.memServes = true ∧ s.runners.cmd = some (3, 64) ∧ (after .libInsertDone s).runners.result = (s.libRead 64).1 ∧
    (after .libInsertDone s).runners.cmd = none := by decide +kernel
theorem test_load : let s0 := zR.setLib 0 (wM 1)
    let s := s0.setRunner 65 { s0.runner 65 with loading := some 0 }
    65 < s.part.runnersPhys ∧ (s.runner 65).loading = some 0 ∧ (s.lib 0).ledger = true ∧ (s.pg (ordOf .runners0 0)).resetting = false := by decide +kernel
/-- Runner 5 ready to start a unit of stone 0, which codes column 0 of row 9 of session 3. -/
def starting (inited : Bool) : State :=
  let s := zR.setLib 0 (wM 1)
  let s := { s with runners := { s.runners with force := [(5, ⟨1, 0, 0⟩)] } }
  let s := s.setRunner 5 { s.runner 5 with lib := some 0, inited := inited }
  on .runners0 0 (s.setStone 0 { s.stone 0 with busy := true, ses := 3, row := 9, units := [(3, 9, 0)] })
theorem test_unit_start : let s := starting true
    ((s.videoUnit (s.assign (s.runner 5).logical)).map fun u => ((u.ses, u.col, u.row), u.seg, u.since)) =
      some ((3, 0, 9), some (3, 9, 0), 0) ∧
    s.runnerFree 5 0 = true ∧ (s.runner 5).inited = true ∧ ((after (.runnerUnitStart 5) s).runner 5).m.gr 7 = 9 ∧
    ((after (.runnerUnitStart 5) s).stone 0).units = [] ∧
    ((starting false).runner 5).inited = false ∧ (starting false).runnerFree 5 (starting false).tick = true ∧
    ((after (.runnerUnitStart 5) (starting false)).runner 5).busy = true := by decide +kernel
/-- A Zstandard frame in which one raw block is left. -/
def wXForm : XForm :=
  { chan := 0, id := 0x21, slot := 0, dict := 0, input := [17, 0, 0, 7, 8], pos := 0, dicts := []
    frame := some { outAt := 0, size := none, most := 131072, alone := false, sumEach := false, sumAll := false, dict := [], tables := [] } }
/-- Runner 5 of the asset pool, and a step of channel 0 whose output may have `most` bytes. -/
def assets (most : Nat) : State :=
  let s0 := (running { run 6 [6, 1] [] with phase := .xform, step := { stp 6 with p0 := most } }).setLib 0 (wM 0x21)
  let zeros := (List.range 16).map fun i => (i, lineCheck (List.replicate 64 0) (s0.place (64 * i)).l)
  let s0 := { s0 with mem := { s0.mem with checks := zeros }, runners := { s0.runners with force := [(5, ⟨3, 0, 0⟩)], queue := [wXForm] } }
  on .runners0 0 (s0.setRunner 5 { s0.runner 5 with lib := some 0, inited := true })
theorem test_asset : let s := assets 2
    s.runnerFree 5 0 = true ∧ (s.assign (s.runner 5).logical).side = 3 ∧ (s.runner 5).inited = true ∧ s.memServes = true ∧
    s.runners.queue.find? (fun q => q.id == (s.lib ((s.runner 5).lib.getD 0)).id) = some wXForm ∧ (s.chan 0).run.map (·.at_) = some 0 ∧
    wXForm.frame.map (fun f => ((frameBlock wXForm f []).code, (frameBlock wXForm f []).bytes, (frameBlock wXForm f []).last)) =
      some (0, [7, 8], true) := by decide +kernel
theorem test_asset_state : let s := assets 2
    (∀ i ∈ List.range 16, s.xstateAddr 0 + 64 * i < s.dramSize ∧ s.lineGood (s.xstateAddr 0 + 64 * i) = true) ∧
    (s.setReg Reg.runXstateBaseLo 0x400).lineGood ((s.setReg Reg.runXstateBaseLo 0x400).xstateAddr 0) = false := by decide +kernel
theorem test_asset_init : let s := (assets 2).setRunner 5 { (assets 2).runner 5 with inited := false }
    (s.runner 5).inited = false ∧ s.runnerFree 5 s.tick = true ∧ ((after (.assetUnitStart 5) s).runner 5).busy = true := by decide +kernel
/-- Runner 5 in a unit. -/
def working (m : Micro) : State := (starting true).setRunner 5 { (starting true).runner 5 with busy := true, m := m }
/-- Nothing offered. -/
def noInput : RunnerInput := { elem := none, outFull := false, starved := false }
theorem test_microword : let s := working { Micro.reset with g := [(0, 5)] }
    let u := (s.lib 0).fetch 0 (Config.freeNat (s.free + 6))
    s.unitOn 5 = true ∧ uwBad u.w ((s.lib 0).word1 29 28) u.nxt u.cond = false ∧ u.nxt = 0 ∧ bits u.w 121 120 = 0 ∧ bitOf u.w 41 = true ∧
    ((after (.runnerMicroword 5 noInput) s).runner 5).m.pc = 1 := by decide +kernel
theorem test_out_refused : let u : RowUnit :=
      { frame := 4, tk := 0, row := 5, bytes := List.replicate 4000 1, tiles := [], full := true, last := false, params := false, since := 0 }
    let s := ((working Micro.reset).setLane 0 { Lane.reset with isOpen := true, units := [u] }).setLib 0
      { wM 1 with image := image 292 [(4, 1, 1), (8, 4, 2), (0x10D, 1, 8)] }
    let s := s.setRunner 5 { s.runner 5 with unit := some (3, 9, 0) }
    let w := (s.lib 0).fetch 0 (Config.freeNat (s.free + 6))
    s.unitOn 5 = true ∧ uwBad w.w ((s.lib 0).word1 29 28) w.nxt w.cond = false ∧ uwWrites w.w = true ∧ s.outRefused 5 = true ∧
    ((after (.runnerMicroword 5 noInput) s).runner 5).stall = 1 := by decide +kernel
theorem test_mem_op : let s := (working { Micro.reset with mem := some (2, 0) }).writeLines 0 0 0 [1, 2, 3, 4]
    s.memServes = true ∧ (s.runner 5).m.mem = some (2, 0) ∧ (s.readBytes (runMaster 5) 0x0 0 64).1 = some (padTo 64 [1, 2, 3, 4]) ∧
    Tbl.getD ((after (.runnerMemOpDone 5) s).runner 5).m.line 0 0 = 0x04030201 := by decide +kernel
theorem test_cpy_op : let s := working { Micro.reset with cpy := some (3, 2, 9) }
    (s.runner 5).m.cpy = some (3, 2, 9) ∧ ((after (.runnerCpyOpDone 5) s).runner 5).m.outB = [9, 9] ∧
    zR.part.runnersPhys ≤ 128 ∧ (s.runner 5).busy = true ∧ ((after (.runnerWatchdog 5) s).runner 5).role = .retired := by decide +kernel

/-! ## Channel processors -/

/-- A CP word. -/
def ins (op d low : Nat) : BitVec 14 := BitVec.ofNat 14 (op * 512 + d * 64 + low)
/-- CP 0 runs and is at this word, its last. -/
def cpu (w : BitVec 14) (f : Cp → Cp) : State := zR.setCp 0 (f { zR.cp 0 with running := true, pc := 16383, prog := [(16383, w)] })
/-- What the statements ask of the CP before it executes. -/
def cpFits (s : State) : Bool :=
  s.cpActive 0 && (!(s.cp 0).x || decide (12288 ≤ (s.cp 0).pc)) && (s.cp 0).latch.isNone && decide ((s.cp 0).imms.length ≤ 2)
/-- The CP after one instruction, all that the statements ask of it being met; none where it is not. -/
def cpRun (i : Instr) (w : BitVec 14) (f : Cp → Cp) : Option Cp :=
  if cpFits (cpu w f) then some ((after i (cpu w f)).cp 0) else none
/-- Wk after it. -/
def wk (k : Nat) (r : Option Cp) : Option Nat := r.map fun c => (c.wr k).toNat
theorem test_cp_fields : ∀ op ∈ List.range 32, bits (ins op 7 63).toNat 13 9 = op ∧ bits (ins op 7 63).toNat 8 6 = 7 ∧
    bits (ins op 7 63).toNat 5 0 = 63 := by decide +kernel
theorem test_cp_add : addWith 0xFFFFFFFF#32 0 true = (0, { z := true, n := false, c := true, v := false }) ∧
    addWith 0x7FFFFFFF#32 1 false = (0x80000000#32, { z := false, n := true, c := false, v := true }) := by decide +kernel
theorem test_cp_immediates : wk 7 (cpRun (.cpMovi 0) (ins 3 7 63) fun c => { c with imms := [1, 2] }) = some 32959 ∧
    wk 0 (cpRun (.cpAddi 0) (ins 4 0 63) id) = some 0xFFFFFFFF ∧
    (cpRun (.cpCmpi 0) (ins 5 0 5) fun c => c.setW 0 5).map (·.fl) = some 5 ∧
    (cpRun (.cpPaddi 0) (ins 15 7 63) id).map (·.ptr 3) = some 0xFFFFFFFF#32 := by decide +kernel
theorem test_cp_ld_st : wk 1 (cpRun (.cpLd 0) (ins 9 1 0x10) fun c => { c.setP 1 0xFFFC with data := [(65532, 1#8), (65535, 2#8)] }) = some 0x02000001 ∧
    (cpRun (.cpSt 0) (ins 10 1 0x1F) fun c => { (c.setP 1 0xBFC4).setW 1 0x01020304 with fl := 0x10 }).map (·.data) =
      some [(0xC000, 4#8), (0xC001, 3#8), (0xC002, 2#8), (0xC003, 1#8)] ∧
    (cpRun (.cpLd 0) (ins 9 1 0x10) fun c => c.setP 1 0x10000).map (·.tcause) = some 3 ∧
    (cpRun (.cpSt 0) (ins 10 1 0x10) fun c => { c.setP 1 0xBFFC with fl := 0x10 }).map (·.pc) = some 3 := by decide +kernel
theorem test_cp_ldb_stb : wk 1 (cpRun (.cpLdb 0) (ins 11 1 0) fun c => { c.setP 0 0xFFFF with data := [(65535, 200#8)] }) = some 200 ∧
    (cpRun (.cpStb 0) (ins 12 1 3) fun c => (c.setP 0 0xFFFD).setW 1 0x1FF).map (·.data) = some [(0, 0xFF#8)] ∧
    (cpRun (.cpStb 0) (ins 12 1 3) fun c => c.setP 0 0x10000).map (·.fl) = some 0x20#8 := by decide +kernel
theorem test_cp_alu : ∀ e ∈ [(0, 3), (1, 0xFFFFFFFF), (2, 0xFFFFFFF9), (3, 0), (4, 0), (5, 0xFFFFFFFF), (6, 0xFFFFFFFF), (7, 0xFFFFFFFC)],
    wk 1 (cpRun (.cpAlu 0) (ins 6 1 (16 + e.1)) fun c => { (c.setW 1 0xFFFFFFFC).setW 2 3 with fl := 4 }) = some e.2 := by decide +kernel
/-- SHF fn of W1 and W2. -/
def shf (fn : Nat) (a b : Word) : Option Nat := wk 1 (cpRun (.cpShf 0) (ins 7 1 (16 + fn)) fun c => (c.setW 1 a).setW 2 b)
theorem test_cp_shf : shf 0 0x08000004 0x24 = some 0x80000040 ∧ shf 1 0x80000000 0x24 = some 0x08000000 ∧ shf 2 0x80000000 0x24 = some 0xF8000000 ∧
    shf 3 0x40000001 0x24 = some 0x14000000 ∧ shf 4 0 0x24 = some 0xFFFFFFDB ∧ shf 5 0 0x24 = some 0xFFFFFFDC ∧ shf 6 9 0x24 = some 26 ∧
    shf 6 9 0 = some 32 ∧ shf 7 0 0x24 = some 0x24000000 := by decide +kernel
theorem test_cp_shi : (cpRun (.cpShi 0) (ins 8 1 0x11) fun c => c.setW 1 3).map (fun c => (c.wr 1, c.flags.c)) = some (1, true) ∧
    wk 1 (cpRun (.cpShi 0) (ins 8 1 0x20) fun c => c.setW 1 3) = some 3 := by decide +kernel
/-- BIT fn of W2. -/
def bitFn (fn : Nat) (b : Word) : Option Nat := wk 1 (cpRun (.cpBit 0) (ins 26 1 (16 + fn)) fun c => c.setW 2 b)
theorem test_cp_bit : bitFn 0 0x03000001 = some 1 ∧ bitFn 1 0x01000001 = some 9 ∧ bitFn 2 0x03000001 = some 0xC0000080 ∧
    bitFn 3 0x01000003 = some 0xC0000080 ∧ bitFn 4 0x03000001 = some 3 := by decide +kernel
theorem test_cp_movp : (cpRun (.cpMovp 0) (ins 13 1 0x38) fun c => { c.setP 3 65535 with data := [(65535, 9#8)] }).map (fun c => (c.wr 1, c.ptr 3)) = some (9, 0x10000) ∧
    (cpRun (.cpMovp 0) (ins 13 1 0x34) fun c => (c.setP 3 65532).setW 1 7).map (·.data) = some [(65532, 7#8)] ∧
    (cpRun (.cpMovp 0) (ins 13 1 0x30) fun c => c.setP 3 65530).map (·.tcause) = some 3 := by decide +kernel
theorem test_cp_pmov : let f := fun c : Cp => { (c.setW 1 0xFFFF).setP 3 5 with rc := 7, fl := 0x2F }
    let r := fun k => cpRun (.cpPmov 0) (BitVec.ofNat 14 (14 * 512 + 3 * 128 + 16 + 2 * k)) f
    (r 0).map (·.ptr 3) = some 0xFFFF ∧ wk 1 (r 1) = some 5 ∧ (r 2).map (·.ptr 3) = some 0x10004 ∧ (r 3).map (·.rc) = some 0xFFFF ∧
    wk 1 (r 4) = some 7 ∧ (r 5).map (·.fl) = some 0x2F ∧ wk 1 (r 6) = some 0x2F := by decide +kernel
theorem test_cp_crc : let f := fun c : Cp => { (c.setW 1 0xFFFFFFFF).setP 3 0xFFFF with data := [(65535, 0x61#8)] }
    (cpRun (.cpCrc 0) (ins 25 1 0x38) f).map (fun c => (c.wr 1, c.ptr 3)) = some (0x9D77, 0x10000) ∧
    wk 1 (cpRun (.cpCrc 0) (ins 25 1 0x30) f) = some (0xFFFFFFFF - 0xC1D04330) := by decide +kernel
theorem test_cp_rep_paddi : (cpRun (.cpPaddi 0) (ins 15 7 63) fun c => { c with rep := true, rc := 3, first := some 5 }).map (fun c => (c.ptr 3, c.rep)) =
    some (0xFFFFFFFD, false) ∧ (cpRun (.cpPaddi 0) (ins 15 7 63) fun c => { c with rep := true }).map (·.ptr 3) = some 0 := by decide +kernel

theorem test_cp_imm : (cpRun (.cpImm 0) (ins 2 7 63) fun c => { c with imms := [3] }).map (fun c => (c.imms, c.first, c.pc)) = some ([3, 511], some 16383, 0) := by
  decide +kernel
theorem test_cp_branches : (∀ e ∈ [(16, Instr.cpJmp 0), (17, .cpBz 0), (19, .cpBc 0), (21, .cpBn 0)],
      (cpRun e.2 (ins e.1 7 63) fun c => { c with fl := 0xF }).map (·.pc) = some 16383) ∧
    (∀ e ∈ [(18, Instr.cpBnz 0), (20, .cpBnc 0), (22, .cpBnn 0)],
      (cpRun e.2 (ins e.1 7 63) fun c => { c with imms := [1, 0] }).map (·.pc) = some 511 ∧
      (cpRun e.2 (ins e.1 7 63) fun c => { c with fl := 0xF }).map (·.pc) = some 0) := by decide +kernel
theorem test_cp_call : let f := fun c : Cp => { c with stack := List.replicate 15 (9, false) }
    (cpRun (.cpCall 0) (ins 23 0 4) f).map (fun c => (c.pc, c.stack.head?)) = some (4, some (0, false)) ∧
    (cpRun (.cpJr 0) (ins 24 1 1) fun c => (f c).setW 1 0xFFFFFFFF).map (fun c => (c.pc, c.stack.length)) = some (16383, 16) ∧
    (cpRun (.cpJr 0) (ins 24 1 0) fun c => c.setW 1 0x4005).map (·.pc) = some 5 ∧
    (cpRun (.cpXcall 0) (ins 0 1 4) fun c => (f c).setW 1 77).map (fun c => (c.x, c.stack.head?)) = some (true, some (0, true)) := by decide +kernel
theorem test_cp_simple : (cpRun (.cpNop 0) (ins 0 0 0) id).map (·.pc) = some 0 ∧
    (cpRun (.cpRep 0) (ins 1 0 0) id).map (fun c => (c.rep, c.first)) = some (true, some 16383) ∧
    (cpRun (.cpRet 0) (ins 0 0 1) fun c => { c with stack := [(0x4003, false)] }).map (fun c => (c.pc, c.stack)) = some (3, []) ∧
    (cpRun (.cpRett 0) (ins 0 0 2) fun c => { c with tnext := 16384, tfl := 8 }).map (fun c => (c.pc, c.fl)) = some (0, 8) ∧
    (cpRun (.cpWfm 0) (ins 0 0 3) id).map (·.sleep) = some true ∧ (cpu (ins 0 0 3) id).wfmReady 0 = false := by decide +kernel
/-- Channel 0 has an extension step, which CP 0 runs. -/
def called (w : BitVec 14) (f : Cp → Cp) : State :=
  (cpu w fun c => f { c with call := some ⟨0, 0⟩, fl := 0x10 }).setChan 0 { zR.chan 0 with run := some { run 0x80 [] [] with phase := .ext } }
theorem test_cp_ret_ext : let s := called (ins 0 0 1) fun c => { (c.setW 0 0x10002).setW 1 9 with stack := [(5, true)] }
    cpFits s = true ∧ (s.chan 0).run = some { run 0x80 [] [] with phase := .ext } ∧
    ((after (.cpRet 0) s).chan 0).run.map (·.fin) = some (some ⟨0x17, 2, 9⟩) ∧ ((after (.cpRet 0) s).cp 0).x = false := by decide +kernel
theorem test_cp_in : let f := fun c : Cp => { c with tpc := 1, tnext := 16383, tcause := 3, trep := 4, logical := 2, timeHi := 6, eic := { c.eic with sel := 127, pend := [(127, 8#32)] } }
    ∀ e ∈ [(0, 1), (1, 16383), (2, 3), (3, 0x3FFF), (4, 4), (9, 127), (10, 8), (11, 0xFFFFFFFF), (17, 6), (18, 512), (16, 0)],
    wk 7 (cpRun (.cpIn 0) (ins 27 7 e.1) f) = some e.2 := by decide +kernel
theorem test_cp_take : (cpRun (.cpIn 0) (ins 27 7 8) id).map (fun c => (c.wr 7, c.flags.z)) = some (0x80000000, true) ∧
    (cpRun (.cpIn 0) (ins 27 7 8) fun c => { c with eic := { c.eic with pend := [(127, 0x80000000#32)], mask := [(127, 0#32)], auto := [(127, 0x80000000#32)] } }).map
      (fun c => (c.wr 7, c.eic.pended 4095, c.eic.masked 4095)) = some (4095, false, true) := by decide +kernel
theorem test_cp_in_vendor : let s := cpu (ins 27 7 32) id
    cpFits s = true ∧ 32 ≤ bits (ins 27 7 32).toNat 5 0 ∧ (s.cp 0).x = false ∧ (after (.cpIn 0) s).free = 1 := by decide +kernel
theorem test_cp_out : let r := fun k v => cpRun (.cpOut 0) (ins 28 1 k) fun c => c.setW 1 v
    (r 1 0xFFFFFFFF).map (·.tnext) = some 16383 ∧ (r 9 0xFF).map (·.eic.sel) = some 127 ∧ (r 10 3).map (·.eic.pend) = some [(0, 3)] ∧
    (r 11 3).map (·.eic.mask) = some [(0, 3)] ∧ (r 13 1).map (·.eic.hold) = some (some 0) ∧ (r 24 6).map (·.dmaIdx) = some 6 := by decide +kernel
theorem test_cp_out_send : let s := cpu (ins 28 1 14) fun c => c.setW 1 4096
    cpFits s = true ∧ (s.pg (ordOf .millrace 0)).resetting = false ∧ ((after (.cpOut 0) s).pg (ordOf .millrace 0)).err.getLsbD 3 = true ∧
    ((after (.cpOut 0) s).cp 0).pc = 0 := by decide +kernel
theorem test_cp_out_wait : let s := called (ins 28 1 25) fun c => { c with dmaIdx := 6 }
    let s := s.setDma (s.chan 0).dma { s.dma (s.chan 0).dma with armed := true }
    cpFits s = true ∧ s.cpChan 0 = some 0 ∧ (s.dma (s.chan 0).dma).armed = true ∧ ((after (.cpOut 0) s).cp 0).latch = some 1 := by decide +kernel
theorem test_cp_traps : let r := fun i w (f : Cp → Cp) => (cpRun i w f).map fun c => (c.tcause, c.pc)
    r (.cpReservedOpcode 0) (ins 29 0 0) id = some (1, 1) ∧ r (.cpRet 0) (ins 0 0 1) id = some (5, 5) ∧
    r (.cpJr 0) (ins 24 0 1) (fun c => { c with stack := List.replicate 16 (0, false) }) = some (5, 5) ∧
    r (.cpIn 0) (ins 27 0 31) id = some (4, 4) ∧ r (.cpIn 0) (ins 27 0 15) id = some (4, 4) ∧
    r (.cpNop 0) (ins 0 0 0) (fun c => { c with imms := [1] }) = some (2, 2) ∧ r (.cpImm 0) (ins 2 0 0) (fun c => { c with imms := [1, 2] }) = some (2, 2) ∧
    r (.cpRep 0) (ins 1 0 0) (fun c => { c with imms := [1] }) = some (2, 2) := by decide +kernel
theorem test_cp_double : let s := cpu (ins 29 0 0) fun c => { c with fl := 0x20 }
    cpFits s = true ∧ (s.cp 0).t = true ∧ s.stepsOn 0 = [] ∧ (s.pg (ordOf .cp 0)).resetting = false ∧
    ((after (.cpReservedOpcode 0) s).cp 0).pc = 0 ∧ ((after (.cpReservedOpcode 0) s).pg (ordOf .cp 0)).err.getLsbD 3 = true := by decide +kernel
theorem test_cp_emulation : let s := cpu (ins 29 0 0) fun c => { c with fl := 0x10, ext := true, prog := (12416, 13000#14) :: c.prog }
    cpFits s = true ∧ (s.cp 0).x = true ∧ ((s.cp 0).wordAt 12416).toNat ≠ 0 ∧ ((after (.cpReservedOpcode 0) s).cp 0).pc = 13000 := by decide +kernel
theorem test_cp_wake : let s := cpu (ins 0 0 3) fun c => { c with sleep := true, eic := { c.eic with count := 1 } }
    s.coreUp = true ∧ (s.cp 0).sleep = true ∧ (s.pg (ordOf .cp 0)).resetting = false ∧ s.wfmReady 0 = true ∧
    ((after (.cpWfmWake 0) s).cp 0).eic.count = 0 ∧ (after (.cpWfmWake 0) s).reg (Reg.cpWakes 0) = 1 ∧
    (zR.cp 0).sleep = false ∧ (zR.cp 0).call = none ∧ after (.cpWfmWake 0) zR = zR ∧ after (.cpExtWatchdog 0) zR = zR := by decide +kernel
theorem test_cp_wake_timeout : let s := cpu (ins 0 0 3) fun c => { c with sleep := true, eic := { c.eic with count := 1, since := 7 } }
    let s := s.setReg (Reg.cpEicCoal 0) 0x20003
    s.wfmReady 0 = false ∧ s.wfmTimeout 0 = some 3757 ∧ (after (.cpWfmWake 0) s).tick = 3757 ∧ ((after (.cpWfmWake 0) s).cp 0).sleep = false ∧
    (cpu (ins 0 0 3) fun c => { c with sleep := true }).wfmTimeout 0 = none := by decide +kernel
theorem test_cp_out_full : let s := cpu (ins 28 1 14) fun c => c.setW 1 4095
    let u := { s with inputs := [(Inp.cpSend.idx, List.replicate 64 ⟨3072, .soft, 0⟩)] }
    cpFits s = true ∧ s.inputFull .cpSend = false ∧ ((after (.cpOut 0) s).cp 0).pc = 0 ∧ cpFits u = true ∧ u.inputFull .cpSend = true ∧
    ((after (.cpOut 0) u).cp 0).latch = some 1 := by decide +kernel
theorem test_cp_watchdog : let s := called 0 id
    s.coreUp = true ∧ (s.cp 0).call = some ⟨0, 0⟩ ∧ (s.cp 0).t = false ∧ (s.cp 0).x = true ∧
    ((after (.cpExtWatchdog 0) s).chan 0).run.map (·.fin) = some (some ⟨0x17, 0xFFFF, 0⟩) ∧ ((after (.cpExtWatchdog 0) s).cp 0).pc = 6 ∧
    ((after (.cpExtWatchdog 0) s).pg (ordOf .cp 0)).err.getLsbD 4 = true := by decide +kernel

/-! ## Event controllers and images -/

theorem test_eic : zR.cpPage 0 = true ∧ ((after (.eicSetPend .i3c 0 4095) zR).cp 0).eic.pended 4095 = true ∧
    ((after (.eicClrPend .i3c 0 4095) (after (.eicSetPend .i3c 0 4095) zR)).cp 0).eic.pended 4095 = false ∧
    (zR.cp 0).eic.masked 0 = true ∧ ((after (.eicUnmask .i3c 0 0) zR).cp 0).eic.masked 0 = false ∧
    ((after (.eicMask .i3c 0 0) (after (.eicUnmask .i3c 0 0) zR)).cp 0).eic.masked 0 = true := by decide +kernel
theorem test_eic_hold : let s := zR.setCp 0 { zR.cp 0 with eic := { (zR.cp 0).eic with hold := some 0, queue := [4095, 0] } }
    (s.cp 0).eic.hold = some 0 ∧ ((after (.eicHoldExpiry 0) s).cp 0).eic.pended 4095 = true ∧ ((after (.eicHoldExpiry 0) s).cp 0).eic.hold = none ∧
    ((after (.eicHoldExpiry 0) s).pg (ordOf .cp 0)).err.getLsbD 6 = true ∧ (zR.cp 0).eic.hold = none ∧ after (.eicHoldExpiry 0) zR = zR := by decide +kernel
/-- The last CP is the spare. -/
def spare (f : Cp → Cp) : State := zR.setCp 16 (f (zR.cp 16))
theorem test_cp_img : zR.cpPage 16 = true ∧ (zR.cp 16).role = .spare ∧ (zR.cp 0).role ≠ .spare ∧ (zR.cp 16).img = none ∧
    ((after (.cpImgLoad .i3c 0) zR).cp 0).imgRes = 4 ∧ ((after (.cpImgLoad .i3c 16) zR).cp 16).img = some (1, 0) ∧
    ((after (.cpImgLoadExt .i3c 16) zR).cp 16).imgRes = 6 ∧
    ((after (.cpImgLoadExt .i3c 16) (spare fun c => { c with running := true })).cp 16).img = some (2, 0) ∧
    ((after (.cpImgMove .i3c 16 15) (spare fun c => { c with running := true })).cp 16).img = some (3, 15) ∧ 15 < zR.part.cpsUse := by decide +kernel
theorem test_cp_move : let s := spare fun c => { c with running := true, img := some (3, 15) }
    s.chans = [] ∧ s.physOf 15 = some 15 ∧ ((after (.cpMoveBind 16) s).cp 16).logical = 15 ∧ ((after (.cpMoveBind 16) s).cp 15).role = .spare ∧
    ((after (.cpMoveBind 16) s).cp 16).imgRes = 0 := by decide +kernel
theorem test_cp_load : let s := spare fun c => { c with img := some (1, 0) }
    s.cpPage 16 = true ∧ s.memServes = true ∧ (s.cp 16).img = some (1, 0) ∧ (s.pg (ordOf .cp 16)).resetting = false ∧
    ((after (.cpImgLoadDone 16) s).cp 16).running = false ∧ ((after (.cpImgLoadDone 16) s).cp 16).img = none ∧
    ((after (.cpImgLoadDone 16) s).pg (ordOf .cp 16)).err.getLsbD 5 = true := by decide +kernel
theorem test_pawl_load : 15 < zR.part.quads ∧ ((after (.pawlImgLoad .i3c 15) zR).pawl 15).loading = true ∧
    (let s := after (.pawlImgLoad .i3c 15) zR
     s.memServes = true ∧ (s.pawl 15).loading = true ∧ (s.pawl 15).loadable = true ∧ ((after (.pawlLoadDone 15) s).pawl 15).loading = false ∧
     ((after (.pawlLoadDone 15) s).pg (ordOf .pawl 15)).err.getLsbD 4 = true) ∧
    (zR.pawl 0).loading = false ∧ after (.pawlLoadDone 0) zR = zR := by decide +kernel

/-! ## Pawls -/

/-- A pawl word. -/
def pin (op v low : Nat) : BitVec 12 := BitVec.ofNat 12 (op * 256 + v * 64 + low)
/-- Pawl 23 runs and is at this word, its last. -/
def pawl (w : BitVec 12) (f : Pawl → Pawl) : State := zR.setPawl 23 (f { Pawl.reset with running := true, pc := 4095, prog := [(4095, w)] })
/-- The pawl after one instruction, where it runs with at most two prefixes, as the statements ask; else none. -/
def pRun (i : Instr) (w : BitVec 12) (f : Pawl → Pawl) : Option Pawl :=
  if (pawl w f).pawlActive 23 ∧ ((pawl w f).pawl 23).imms.length ≤ 2 then some ((after i (pawl w f)).pawl 23) else none
/-- Vk after it. -/
def vk (k : Nat) (r : Option Pawl) : Option Nat := r.map fun x => (x.vr k).toNat
theorem test_pawl_fields : ∀ op ∈ List.range 16, bits (pin op 3 63).toNat 11 8 = op ∧ bits (pin op 3 63).toNat 7 6 = 3 ∧ bits (pin op 3 63).toNat 5 0 = 63 := by
  decide +kernel
theorem test_pawl_immediates : vk 3 (pRun (.pawlLdi 23) (pin 1 3 63) fun x => { x with imms := [2, 1] }) = some 32895 ∧
    (pRun (.pawlPfx 23) (pin 2 3 63) fun x => { x with imms := [1] }).map (fun x => (x.imms, x.first)) = some ([1, 255], some 4095) ∧
    vk 3 (pRun (.pawlAddi 23) (pin 4 3 63) id) = some 0xFFFF ∧ vk 3 (pRun (.pawlAddi 23) (pin 4 3 63) fun x => { x with imms := [0] }) = some 63 := by decide +kernel
theorem test_pawl_branches : (pRun (.pawlJmp 23) (pin 7 3 63) id).map (·.pc) = some 4095 ∧
    (pRun (.pawlBz 23) (pin 8 0 5) fun x => { x with z := true, imms := [1] }).map (·.pc) = some 261 ∧ (pRun (.pawlBz 23) (pin 8 0 5) id).map (·.pc) = some 0 ∧
    (pRun (.pawlBnz 23) (pin 9 0 5) id).map (·.pc) = some 5 ∧
    (pRun (.pawlCall 23) (pin 10 0 5) fun x => { x with stack := [1, 2, 3] }).map (fun x => (x.pc, x.stack)) = some (5, [0, 1, 2, 3]) := by decide +kernel
theorem test_pawl_simple : (pRun (.pawlNop 23) (pin 0 0 0) id).map (·.pc) = some 0 ∧
    (pRun (.pawlRet 23) (pin 0 0 1) fun x => { x with stack := [4097, 3] }).map (fun x => (x.pc, x.stack)) = some (1, [3]) ∧
    (pRun (.pawlRett 23) (pin 0 0 2) fun x => { x with tnext := 9, tz := true, trap := true }).map (fun x => (x.pc, x.z, x.trap)) = some (9, true, false) ∧
    (pRun (.pawlWfe 23) (pin 0 0 3) id).map (·.sleep) = some true ∧
    (pRun (.pawlWfe 23) (pin 0 0 3) fun x => { x with e := 4, ep := 6 }).map (fun x => (x.sleep, x.pc)) = some (false, 0) ∧
    (pRun (.pawlTwait 23) (pin 0 0 4) fun x => { x with t := 1 }).map (·.twait) = some true ∧ (pRun (.pawlTwait 23) (pin 0 0 4) id).map (·.pc) = some 0 := by decide +kernel
/-- ALU fn of V3 and V2: V3, Z and, where the spec gives it, C. -/
def pAlu (fn : Nat) (a b : BitVec 16) : Option (Nat × Bool) := (pRun (.pawlAlu 23) (pin 3 3 (32 + fn)) fun x => (x.setV 3 a).setV 2 b).map fun x => ((x.vr 3).toNat, x.z)
/-- C after it. -/
def pAluC (fn : Nat) (a b : BitVec 16) : Option Bool := (pRun (.pawlAlu 23) (pin 3 3 (32 + fn)) fun x => (x.setV 3 a).setV 2 b).map (·.c)
theorem test_pawl_alu : pAlu 0 1 0 = some (0, true) ∧ pAlu 1 0xFFFF 1 = some (0, true) ∧ pAlu 2 1 2 = some (0xFFFF, false) ∧ pAlu 3 6 3 = some (2, false) ∧
    pAlu 4 6 3 = some (7, false) ∧ pAlu 5 6 3 = some (5, false) ∧ pAlu 6 3 3 = some (3, true) ∧ pAlu 7 0x8001 0 = some (2, false) ∧ pAlu 8 1 0 = some (0, true) ∧
    pAluC 1 0xFFFF 1 = some true ∧ pAluC 2 1 2 = some false ∧ pAluC 6 3 3 = some true ∧ pAluC 7 0x8001 0 = some true ∧ pAluC 8 1 0 = some true := by decide +kernel
theorem test_pawl_in : let f := fun x : Pawl => { x with tpc := 1, tnext := 0, tcause := 5, timeLat := 2 ^ 48 + 2 ^ 33 + 2 ^ 18, rqData := [(1, 7)], rqErr := true }
    (∀ e ∈ [(0, 1), (1, 0), (2, 5), (3, 1475), (4, 0), (9, 4), (10, 2), (11, 1), (0x15, 7), (0x17, 2), (8, 0), (0x19, 0xFFFF), (0x3F, 0)],
      vk 3 (pRun (.pawlIn 23) (pin 5 3 e.1) f) = some e.2) := by decide +kernel
theorem test_pawl_in_msi : (pRun (.pawlIn 23) (pin 5 3 0x18) fun x => { x with msi := [5, 6] }).map (fun x => ((x.vr 3).toNat, x.msi)) = some (5, [6]) := by decide +kernel
theorem test_pawl_out : let r := fun k a => pRun (.pawlOut 23) (pin 6 3 k) fun x => x.setV 3 a
    (r 1 0xFFFF).map (·.tnext) = some 4095 ∧ (r 0x10 8).map (·.rqAddr) = some [(0, 8)] ∧ (r 0x13 8).map (·.rqAddr) = some [(3, 8)] ∧
    (r 0x16 2).map (·.rq) = some (some 2) ∧ (r 0x1E 1).map (·.memCmd) = some (some 1) ∧ (r 0x1E 2).map (·.memCmd) = some (some 2) := by decide +kernel
theorem test_pawl_out_request : let s := pawl (pin 6 3 0x16) fun x => { x.setV 3 2 with rqAddr := [(3, 1)] }
    (after (.pawlOut 23) s).out = [.rootRead 23 (2 ^ 48)] ∧
    (pRun (.pawlOut 23) (pin 6 3 0x16) fun x => { x.setV 3 2 with rq := some 1 }).map (fun x => (x.rq, x.pc)) = some (some 1, 4095) := by decide +kernel
theorem test_pawl_sev : 23 < zR.part.quads ∧ ((after (.pawlSev 23) (pawl (pin 11 0 0) id)).pawl 0).ep = 0x10 ∧
    (pRun (.pawlSev 23) (pin 11 0 23) id).map (fun x => (x.ep, x.pc)) = some (0x10, 0) := by decide +kernel
theorem test_pawl_tset : let r := fun k => pRun (.pawlTset 23) (pin 12 3 (16 * k)) fun x => { x.setV 3 2 with t := 2 ^ 64 - 1 }
    (r 0).map (·.t) = some 2 ∧ (r 1).map (·.t) = some 2048 ∧ (r 2).map (·.t) = some 2047 ∧ vk 3 (r 3) = some 65535 := by decide +kernel
theorem test_pawl_ev : let r := fun k => pRun (.pawlEv 23) (pin 13 3 (16 * k)) fun x => { x.setV 3 9 with e := 6, ep := 12 }
    (r 0).map (·.e) = some 9 ∧ vk 3 (r 1) = some 6 ∧ vk 3 (r 2) = some 12 ∧ vk 3 (r 3) = some 4 ∧ (r 3).map (·.ep) = some 8 := by decide +kernel
theorem test_pawl_traps : let r := fun i w (f : Pawl → Pawl) => (pRun i w f).map fun x => (x.tcause, x.pc, x.trap)
    r (.pawlReservedOpcode 23) (pin 14 0 0) id = some (1, 1, true) ∧ r (.pawlRet 23) (pin 0 0 1) id = some (5, 1, true) ∧
    r (.pawlIn 23) (pin 5 0 0x16) id = some (4, 1, true) ∧ r (.pawlIn 23) (pin 5 0 0x1E) id = some (4, 1, true) ∧
    r (.pawlNop 23) (pin 0 0 0) (fun x => { x with imms := [1] }) = some (2, 1, true) ∧
    r (.pawlReservedOpcode 23) (pin 15 0 0) (fun x => { x with trap := true, stack := [1] }) = some (0, 0, false) ∧
    ((after (.pawlReservedOpcode 23) (pawl (pin 15 0 0) fun x => { x with trap := true })).pg (ordOf .pawl 23)).err.getLsbD 2 = true := by decide +kernel
theorem test_pawl_wakes : let s := zR.setPawl 23 { Pawl.reset with sleep := true, e := 0x8000, ep := 0xFFFF }
    let u := zR.setPawl 23 { Pawl.reset with twait := true, t := 77 }
    (s.pawl 23).ep &&& (s.pawl 23).e ≠ 0 ∧ ((after (.pawlWfeWake 23) s).pawl 23).pc = 1 ∧ (u.pawl 23).sleep = false ∧
    (after (.pawlTwaitExpiry 23) u).tick = 77 ∧ ((after (.pawlTwaitExpiry 23) u).pawl 23).twait = false ∧
    (zR.pawl 23).ep &&& (zR.pawl 23).e = 0 ∧ (zR.pawl 23).twait = false ∧ after (.pawlWfeWake 23) zR = zR ∧ after (.pawlTwaitExpiry 23) zR = zR := by decide +kernel
theorem test_pawl_ends : let s := zR.setPawl 23 { Pawl.reset with rq := some 2 }
    let r := fun ok => (after (.pawlRqEnd 23 0x12345#32 ok) s).pawl 23
    (s.pawl 23).rq = some 2 ∧ (r true).rqData = [(0, 0x2345), (1, 1)] ∧ (r true).ep = 0x20 ∧ (r false).rqData = [] ∧ (r false).rqErr = true := by decide +kernel
theorem test_pawl_mem : let s := (zR.setPawl 23 { Pawl.reset with memCmd := some 1 }).writeLines 0 0 0 [1, 2]
    s.memServes = true ∧ (s.readLine (pawlMaster 23) 0x0 (quadAddr (s.pawl 23).memAddr)).1 = some (padTo 64 [1, 2]) ∧
    Tbl.getD ((after (.pawlMemDone 23) s).pawl 23).line 0 0 = 0x201 ∧ (zR.pawl 23).memCmd = none ∧ after (.pawlMemDone 23) zR = zR := by decide +kernel

/-! ## PCIe -/

/-- Link 0 is configured with a role, at 64 GT/s, and up with Bus Master Enable. -/
def linked (role : Nat) : State :=
  ((zR.setReg (Reg.pcieCfg 0) (BitVec.ofNat 32 (0x16000 + role))).setReg (Reg.quadCfg 0) 2).setLink 0 { Link.reset with up := true, cfg := [(1, 4#32)] }
theorem test_pcie_cfg : zR.live = true ∧ 19 < zR.part.pcieQuads ∧ zR.cfgRefused 19 (0x30#32 &&& 0x17733#32) = true ∧ zR.cfgRefused 0 (0x16001#32 &&& 0x17733#32) = false ∧
    (zR.pg (ordOf .pcie 19)).resetting = false ∧ zR.linkEn 0 = false ∧ zR.linkDraining 0 = false ∧
    ((after (.pcieCfgWrite .i3c 19 0x30#32) zR).pg (ordOf .pcie 19)).err.getLsbD 1 = true ∧
    (after (.pcieCfgWrite .i3c 0 0xFFF16001#32) zR).reg (Reg.pcieCfg 0) = 0x16001 := by decide +kernel
theorem test_pcie_up : let s := (linked 3).setLink 0 Link.reset
    s.linkReady 0 = true ∧ s.linkRole 0 = 3 ∧ (s.nvme 0).st = .down ∧ 6 ≤ fld (s.pcieCfg 0) 14 12 ∧ ((after (.pcieLinkUp 0 6 4 false) s).link 0).flit = true ∧
    ((after (.pcieLinkUp 0 1 1 false) s).nvme 0).st = .init ∧ zR.linkReady 0 = false ∧ after (.pcieLinkUp 0 1 1 false) zR = zR := by decide +kernel
theorem test_pcie_down : let s := linked 1
    (s.link 0).up = true ∧ s.linkRole 0 ≠ 3 ∧ s.linkEn 0 = true ∧ s.dev.mode ≠ .off ∧ (s.pg (ordOf .pcie 0)).resetting = false ∧
    (after (.pcieLinkDown 0) s).link 0 = Link.reset ∧ ((after (.pcieLinkDown 0) s).pg (ordOf .pcie 0)).err.getLsbD 3 = true ∧
    (zR.link 0).up = false ∧ after (.pcieLinkDown 0) zR = zR := by decide +kernel
theorem test_pcie_config : (linked 2).canMaster 0 = true ∧ (linked 2).linkRole 0 = 2 ∧
    (after (.pcieConfigRequest 0 (.read 0)) (inMode .bringup (linked 1))).out = [.answer 0 3 []] ∧
    (after (.pcieConfigRequest 0 (.read 0)) (linked 2)).out.length = 1 ∧
    ((after (.pcieConfigRequest 0 (.write 1 0xFFFFFFFF#32)) (linked 2)).link 0).cfgWord 1 = 0x546 := by decide +kernel
theorem test_pcie_aperture : let s := linked 2
    s.coreUp = true ∧ s.linkEn 0 = true ∧ 1048512 + 64 ≤ s.barSize 0 2 ∧ s.memServes = true ∧
    ((after (.pcieInboundWrite 0 (some 2) 1048512 (List.replicate 64 7#8) 15 false) s).readBytes 0 0 1048512 64).1 = some (List.replicate 64 7) ∧
    (after (.pcieInboundWrite 0 (some 0) 4 [0, 0, 0, 0] 15 false) s).reg (Reg.pcieDiscard 0) = 1 := by decide +kernel
theorem test_pcie_doorbells : let s := linked 1
    s.coreUp = true ∧ s.linkEn 0 = true ∧ (s.link 0).up = true ∧ s.canMaster 0 = true ∧
    after (.pcieInboundWrite 0 (some 0) 0x200 [0, 0, 0, 0] 15 false) s = after (.srcDb 0) s ∧
    after (.pcieInboundWrite 0 (some 0) 0x100 [5, 0, 0, 0] 15 false) s = after (.evqConsWrite none 5) s := by decide +kernel
theorem test_pcie_root : let s := linked 3
    s.linkRole 0 = 3 ∧ ((after (.pcieInboundWrite 0 none 0x1FFFFFFF000 [0xFF, 0xFF, 0, 0] 15 false) s).pawl 0).msi = [65535] ∧
    s.inWindow 0 4096 1 = false ∧ (s.pg (ordOf .pcie 0)).resetting = false ∧ (after (.pcieInboundRead 0 none 4096 1) s).out = [.answer 0 1 []] ∧
    ((after (.pcieInboundRead 0 none 4096 1) s).pg (ordOf .pcie 0)).err.getLsbD 4 = true := by decide +kernel
theorem test_pcie_poison : (after (.pcieInboundWrite 0 none 0 [] 0 true) (linked 2)).reg (Reg.pciePoison 0) = 1 ∧
    (after (.pcieInboundRead 0 (some 0) 0 4) (linked 2)).reg (Reg.pcieUrRx 0) = 1 ∧ (after (.pcieInboundRead 0 (some 0) 0 4) (linked 2)).out = [.answer 0 1 []] := by
  decide +kernel
theorem test_pcie_completion : let s := linked 1
    Tbl.get? (after (.pcieCompletion 0 9 [4] true) s).ext (extKey 0 9) = some (some 4) ∧ Tbl.get? (after (.pcieCompletion 0 9 [4] false) s).ext (extKey 0 9) = some none ∧
    (after (.pcieCplTimeout 0 9) s).reg (Reg.pcieCplTo 0) = 1 ∧ Tbl.get? (after (.pcieCplTimeout 0 9) s).ext (extKey 0 9) = some none := by decide +kernel

theorem test_pcie_retrain : let s := linked 3
    s.linkReady 0 = true ∧ (s.link 0).up = true ∧ s.stalled = [] ∧ ((after (.pcieLinkUp 0 6 4 false) s).link 0).flit = true ∧
    (after (.pcieLinkUp 0 1 2 false) s).nvme 0 = s.nvme 0 := by decide +kernel
theorem test_pcie_down_root : let s := (linked 3).setNvme 0 { Nvme.reset with st := .ready }
    (s.link 0).up = true ∧ s.linkRole 0 = 3 ∧ (s.nvme 0).resets = [] ∧ ((after (.pcieLinkDown 0) s).nvme 0).st = .resetting ∧
    (after (.pcieLinkDown 0) s).link 0 = Link.reset := by decide +kernel
theorem test_pcie_bringup : let s := inMode .bringup (linked 2)
    s.dev.resetN = true ∧ 0 < s.part.pcieQuads ∧
    (after (.pcieInboundWrite 0 (some 2) 64 [1] 15 false) s).stalled = [⟨0, some 2, 64, [1], 15, false⟩] := by decide +kernel
theorem test_pcie_slack : let s := inMode .slack (linked 1)
    s.live = true ∧ s.linkEn 0 = true ∧ (s.link 0).up = true ∧ (after (.pcieInboundWrite 0 (some 0) 0x200 [0, 0, 0, 0] 15 false) s).reg (Reg.pcieDiscard 0) = 1 ∧
    (after (.pcieInboundRead 0 (some 4) 0 4) s).out = [.answer 0 1 []] := by decide +kernel
theorem test_pcie_served : let s := (((linked 3).setReg (Reg.pcieInBaseLo 0) 0).setReg (Reg.pcieInLimitLo 0) 0x1000).writeLines 0 0 0 [7, 8]
    s.inWindow 0 0 2 = true ∧ s.inWindow 0 0x1FFE 2 = true ∧ s.inWindow 0 0x1FFF 2 = false ∧ (s.readBytes 0x1C0 0x0 0 2).1 = some [7, 8] ∧
    (s.readBytes 0x1C0 0x0 64 2).1 = none ∧
    (after (.pcieInboundRead 0 none 0 2) s).out = [.answer 0 0 [7, 8]] ∧ (after (.pcieInboundRead 0 none 64 2) s).out = [.answer 0 2 []] := by decide +kernel
theorem test_pcie_msix : let s := linked 1
    s.dev.mode ≠ .slack ∧ (after (.pcieInboundRead 0 (some 4) 16383 1) s).out = [.answer 0 0 [(s.link 0).msixByte 16383]] ∧
    (after (.pcieConfigRequest 0 (.write 1 0#32)) s).canMaster 0 = false ∧
    (after (.pcieConfigRequest 0 (.write 1 2#32)) (s.setLink 0 { Link.reset with up := true })).out = [.answer 0 0 []] := by decide +kernel

/-! ## NVMe and keys -/

/-- An NVMe command of channel 0. -/
def wCmd : NvmeCmd :=
  { chan := 0, admin := false, opcode := 1, pairNo := 1, nsid := 1, lba := 0, len := 64, offset := 0, pieces := [(0, 64)], sent := true, issued := 0
    aborted := false }
/-- A controller behind link 0, whose pawl runs. -/
def rooted (x : Nvme) : State := ((linked 3).setPawl 0 { Pawl.reset with running := true }).setNvme 0 x
/-- A controller in a state with command 7 in flight for a step of channel 0. -/
def nvme (st : NvmeSt) (r : StepRun) : State :=
  (rooted { Nvme.reset with st := st, cmds := [(7, wCmd)] }).setChan 0 { zR.chan 0 with run := some r }
/-- A WRITE step with two commands in flight. -/
def wWrite : StepRun := { run 1 [] [] with phase := .nvme, left := 2 }
theorem test_nvme_init : let s := nvme .resetting wWrite
    let i : NvmeIdentity := { payload := 1, granted := 2, mdts := 5, namespaces := [(100, 9)] }
    let u := rooted { Nvme.reset with st := .init, cmds := [(7, { wCmd with sent := false })] }
    s.rootUp 0 = true ∧ (s.nvme 0).st = .resetting ∧ ((after (.nvmeControllerInit 0 (some i)) s).nvme 0).pairs = 2 ∧
    ((after (.nvmeControllerInit 0 (some i)) s).nvme 0).nn = 1 ∧ ((after (.nvmeControllerInit 0 (some i)) s).nvme 0).cmds.length = 1 ∧
    ((after (.nvmeControllerInit 0 (some i)) s).link 0).mps = 256 ∧ (u.nvme 0).cmds = [(7, { wCmd with sent := false })] ∧
    ((after (.nvmeControllerInit 0 (some i)) u).nvme 0).cmds.map (·.2.sent) = [true] ∧
    ((after (.nvmeControllerInit 0 none) (rooted { Nvme.reset with st := .init })).nvme 0).st = .failed ∧
    (zR.nvme 0).st = .down ∧ after (.nvmeControllerInit 0 none) zR = zR := by decide +kernel
theorem test_nvme_done : let s := nvme .ready wWrite
    let st : NvmeStatus := ⟨0, false, 0, []⟩
    Tbl.get? (s.nvme 0).cmds 7 = some wCmd ∧ (s.chan 0).run = some wWrite ∧ wWrite.phase = .nvme ∧ wWrite.step.op ≠ 7 ∧ wCmd.reads = false ∧
    ((after (.nvmeCompletion 0 7 st) s).chan 0).run.map (fun r => (r.left, r.done)) = some (1, 64) ∧
    ((after (.nvmeCompletion 0 7 st) (nvme .ready { wWrite with left := 1 })).chan 0).run.map (·.phase) = some .moved ∧
    (after (.nvmeCompletion 0 7 st) s).reg (Reg.nvmeCmds 0) = 1 ∧ after (.nvmeCompletion 0 8 st) s = s ∧ after (.nvmeCmdTimeout 0 (some 8)) s = s := by decide +kernel
theorem test_nvme_again : let r := { wWrite with step := { wWrite.step with retry := 1 } }
    let s := nvme .ready r
    let e := fun dnr => (after (.nvmeCompletion 0 7 ⟨0x281, dnr, 0, []⟩) s).chan 0
    r.spent < r.step.retry ∧ (e false).run.map (·.spent) = some 1 ∧ (e true).run.map (·.fin) = some (some ⟨0x10, 0x281, 0⟩) ∧
    ((after (.nvmeCompletion 0 7 ⟨0x281, false, 0, []⟩) (nvme .ready wWrite)).chan 0).run.map (·.fin) = some (some ⟨0x10, 0x281, 0⟩) := by decide +kernel
theorem test_nvme_late : let s := nvme .ready wWrite
    let u := s.setNvme 0 { s.nvme 0 with cmds := [(7, { wCmd with aborted := true })] }
    ((after (.nvmeCmdTimeout 0 (some 7)) s).nvme 0).cmds.map (·.2.aborted) = [true] ∧ (after (.nvmeCmdTimeout 0 (some 7)) s).tick = msTicks (max 1 (fld (s.reg (Reg.nvmeCtl 0)) 31 16)) ∧
    (u.nvme 0).resets = [] ∧ ((after (.nvmeCmdTimeout 0 (some 7)) u).nvme 0).st = .resetting ∧ ((after (.nvmeCmdTimeout 0 (some 7)) u).nvme 0).resets = [(after (.nvmeCmdTimeout 0 (some 7)) u).tick] := by
  decide +kernel
theorem test_nvme_reset : let s := nvme .ready wWrite
    let u := (s.setNvme 0 { s.nvme 0 with resets := [5, 0] })
    s.rootUp 0 = true ∧ (s.nvme 0).resets = [] ∧ ((after (.nvmeCmdTimeout 0 none) s).nvme 0).st = .resetting ∧
    2 ≤ ((u.nvme 0).resets.filter fun k => decide (u.tick ≤ k + secTicks 60)).length ∧ (u.pg (ordOf .pcie 0)).resetting = false ∧
    ((after (.nvmeCmdTimeout 0 none) u).nvme 0).st = .failed ∧ ((after (.nvmeCmdTimeout 0 none) u).pg (ordOf .pcie 0)).err.getLsbD 5 = true := by
  decide +kernel
/-- A key command waits first. -/
def keyed (c : IbrCmd) : State := { zR with ibr := { zR.ibr with queue := [c] } }
theorem test_keys_queue : let s := keyed ⟨.i3c, 1, 0, 0, 0⟩
    let u := viaReg s
    s.takes .i3c = true ∧ s.ibr.queue ≠ [] ∧ s.ibr.queue.head?.any (·.cmd == 2) = false ∧
    (after (.ibrImport .i3c 4095 9) s).ibr.queue = [⟨.i3c, 1, 0, 0, 0⟩, ⟨.i3c, 1, 4095, 9, 0⟩] ∧ (after (.ibrClear .i3c 4095) s).ibr.queue.length = 2 ∧
    u.takes .regload = true ∧ (after (.ibrAttest .regload) u).ibr.queue.length = 2 ∧ (after (.ibrFuseCust .i3c) s).ibr.queue.length = 2 := by decide +kernel
theorem test_keys_clear : let s := zR.setSlot 4095 { KeySlot.empty with typ := 2 }
    s.ibr.queue = [] ∧ s.slotBound 4095 = false ∧ (after (.ibrClear .i3c 4095) s).slot 4095 = KeySlot.empty ∧
    (after (.ibrClear .regload 4095) (viaReg s)).ibr.resReg = 0 := by
  decide +kernel
theorem test_keys_clear_bound : let s := zR.setSes 0 { Ses.reset with st := .ready, pkt := { Ses.reset.pkt with old := [4095] } }
    s.ibr.queue = [] ∧ s.slotBound 4095 = true ∧ (after (.ibrClear .i3c 4095) s).ibr.resI3c = 3 := by decide +kernel
theorem test_keys_done : let s := keyed ⟨.i3c, 1, 4095, 0xFFFF, 2 ^ 40⟩
    s.dramSize < 2 ^ 40 + 64 ∧ (after .ibrCommandDone s).ibr.resI3c = 7 ∧
    (after .ibrCommandDone ((keyed ⟨.i3c, 1, 4095, 0xFFFF, 0⟩).setSlot 4095 { KeySlot.empty with typ := 2 })).ibr.resI3c = 3 ∧
    (after .ibrCommandDone (keyed ⟨.i3c, 3, 0, 0, 2 ^ 40⟩)).ibr.resI3c = 7 ∧
    (let s := keyed ⟨.regload, 4, 0, 0, 0⟩
     s.dev.mode ≠ .standby ∧ s.ibr.cpk = none ∧ (after .ibrCommandDone s).ibr.resReg = 6 ∧
     (after .ibrCommandDone { s with ibr := { s.ibr with cpk := some [1] } }).ibr.resReg = 5) := by decide +kernel
theorem test_keys_import : let s := (keyed ⟨.i3c, 1, 4095, 0xFFFF, 0⟩).writeLines 0 0 0 [1]
    s.memServes = true ∧ (s.slot 4095).typ = 0 ∧ 64 ≤ s.dramSize ∧
    ({ s with ibr := { s.ibr with queue := [] } }.readBytes 0x127 0x0 0 64).1 = some (padTo 64 [1]) := by decide +kernel
theorem test_keys_attest : let s := (keyed ⟨.i3c, 3, 0, 0, 0⟩).writeLines 0 0 0 [1]
    s.memServes = true ∧ 384 ≤ s.dramSize ∧ ({ s with ibr := { s.ibr with queue := [] } }.readBytes 0x127 0x0 0 48).1 = some (padTo 48 [1]) := by
  decide +kernel
theorem test_keys_fuse : let s := ((inMode .standby (keyed ⟨.i3c, 4, 0, 0, 0⟩)).writeLines 0 0 0 [1]).writeLines 0 0 64 [2]
    s.memServes = true ∧ s.ibr.cpk = none ∧ s.dev.mode = .standby ∧ 96 ≤ s.dramSize ∧
    ({ s with ibr := { s.ibr with queue := [] } }.readBytes 0x127 0x0 0 96).1 = some (padTo 64 [1] ++ padTo 32 [2]) ∧
    leNat (padTo 64 [1] ++ padTo 32 [2]) ≠ 0 ∧ (after .ibrCommandDone s).ibr.cpk = some (padTo 64 [1] ++ padTo 32 [2]) := by decide +kernel

/-! ## The switch -/

/-- Quad 0 is Ethernet with a port of 100 Gbit/s, enabled and in a state. -/
def lit (x : Port) : State := ((zR.setReg (Reg.quadCfg 0) 0x4D).setReg (Reg.quadPort 0 0) 0x10001).setPort 0 x
/-- A port that is up. -/
def wUp : Port := { Port.reset with up := true }
/-- A frame of 60 bytes. -/
def wFr : SwFrame := ⟨List.replicate 60 0, 1, 1, 0, 1, none, false⟩
theorem test_port_up : let s := lit { Port.reset with held := true, dead := true, q1 := [4] }
    s.portLit 0 = true ∧ s.portEn 0 = true ∧ (s.port 0).up = false ∧ s.isRing 0 = false ∧ ((after (.portUp 0) s).port 0).up = true ∧
    ((after (.portUp 0) s).port 0).dead = false ∧ ((after (.portUp 0) s).port 0).q1 = [4] ∧
    zR.portEn 0 = false ∧ after (.portUp 0) zR = zR ∧ (s.pg (ordOf .quad 0)).resetting = false ∧ flag (s.quadCfg 0) 6 = true ∧
    ((after (.anRetry 0) s).pg (ordOf .quad 0)).err.getLsbD 3 = true := by decide +kernel
theorem test_port_down : let s := lit { wUp with q0 := [5], downs := 65535 }
    s.live = true ∧ (s.port 0).up = true ∧ (s.port 0).tx = none ∧ s.isRing 0 = false ∧ ((after (.portDown 0) s).port 0).downs = 65535 ∧
    ((after (.portDown 0) s).port 0).q0 = [5] ∧ ((after (.portDown 0) s).port 0).held = true ∧ ((after (.portDown 0) s).pg (ordOf .quad 0)).err.getLsbD 1 = true := by decide +kernel
theorem test_port_hold : let s := lit { Port.reset with held := true, q2 := [5] }
    (s.port 0).held = true ∧ ((after (.portHoldExpiry 0) s).port 0).dead = true ∧ ((after (.portHoldExpiry 0) s).port 0).queued = [] ∧
    (zR.port 0).held = false ∧ after (.portHoldExpiry 0) zR = zR := by decide +kernel
theorem test_quad_cfg : let s := lit wUp
    23 < s.part.quads ∧ s.quadEn 0 = true ∧ s.linkOfQuad 0 = none ∧ (after (.quadCfgWrite .i3c 0 0) s).quadCfg 0 = 0x4D ∧
    ((after (.quadCfgWrite .i3c 0 0) s).pg (ordOf .quad 0)).err.getLsbD 4 = true ∧
    s.quadEn 23 = false ∧ s.quadMode (23 / 2 * 2) ≠ 5 ∧ s.linkOfQuad 23 = none ∧ (after (.quadCfgWrite .i3c 23 0xFFFFFFE9#32) s).quadCfg 23 = 0x1E9 ∧
    (after (.quadCfgWrite .i3c 23 0xFFFFFFED#32) s).quadCfg 23 = 0xED := by decide +kernel
theorem test_quad_port : let s := lit { Port.reset with held := true, q0 := [5] }
    flag (s.reg (Reg.quadPort 0 0)) 16 = true ∧ (after (.quadPortEnWrite .i3c 0 0 0xFFFEFFFF#32) s).reg (Reg.quadPort 0 0) = 0xFFF ∧
    ((after (.quadPortEnWrite .i3c 0 0 0xFFFEFFFF#32) s).port 0).queued = [] := by decide +kernel
theorem test_frame_in : let s := lit wUp
    s.portOn 0 = true ∧ (s.port 0).rx = none ∧ s.cellsFor 0 (frameCells wFr.bytes) = true ∧
    ((after (.frameHeaderReceived 0 wFr.bytes) s).port 0).rx.map (·.bytes.length) = some 60 := by decide +kernel
theorem test_frame_no_cells : let s := { lit wUp with net := { (lit wUp).net with frames := [(1, { wFr with cells := 131072, src := 0 })] } }
    s.cellsFor 0 (frameCells wFr.bytes) = false ∧ flag (s.reg Reg.mirCtl) 0 = false ∧ (s.pg (ordOf .switch 0)).resetting = false ∧
    ((after (.frameHeaderReceived 0 wFr.bytes) s).pg (ordOf .switch 0)).err.getLsbD 2 = true := by decide +kernel
/-- A frame in reception for channel 1023. -/
def wRx : RxPend := { bytes := wFr.bytes, at_ := 0, dest := .chan 1023, mirror := false }
theorem test_frame_stored : let s := lit { wUp with rx := some wRx }
    s.portOn 0 = true ∧ 1023 < s.part.channels ∧ 60 ≤ wRx.bytes.length ∧ frType wRx.bytes ≠ 0x8808 ∧
    Tbl.getD ((after (.frameStored 0 false) s).port 0).cnt cRxErr 0 = 1 ∧ Tbl.getD ((after (.frameStored 0 true) s).port 0).cnt cRxFrames 0 = 1 ∧
    ((after (.frameStored 0 true) s).port 0).rx = none := by decide +kernel
theorem test_frame_to_port :
    let s := ((lit { wUp with rx := some { wRx with dest := .ports [0, 4] none } }).setReg (Reg.quadCfg 1) 0x4D).setReg (Reg.quadPort 1 0) 0x10001
    let t := after (.frameStored 0 true) s
    ([0, 4].filter fun k => k != 0) = [4] ∧ s.mirrors (Reg.mirRx 0) 0 = false ∧ (s.port 4).dead = false ∧ s.portEn 4 = true ∧
    s.net.nextId ∉ (s.port 4).queued ∧ s.cellsOf (s.port 4).queued + frameCells wFr.bytes ≤ fld (s.reg Reg.swPortQmax) 16 0 ∧
    (t.port 4).queue (if 4 ≤ frPcp wFr.bytes then 2 else 3) = [s.net.nextId] ∧ (t.swFrame s.net.nextId).map (·.refs) = some 1 := by decide +kernel
/-- Frame 9 in the switch. -/
def held (x : Port) (refs : Nat) : State := { lit x with net := { (lit x).net with frames := [(9, { wFr with refs := refs })] } }
theorem test_frame_tx : let s := held { wUp with q0 := [9, 8] } 1
    s.portOn 0 = true ∧ (s.port 0).tx = none ∧ s.swFrame 9 = some wFr ∧ wFr.tag = none ∧ s.mirrors (Reg.mirTx 0) 0 = false ∧ s.isRing 0 = false ∧
    (after (.frameTxStart 0) s).port 0 = { wUp with q0 := [8], tx := some 9 } ∧
    (after (.frameTxDone 0) (held { wUp with tx := some 9 } 1)).swFrame 9 = none ∧
    ((after (.frameTxDone 0) (held { wUp with tx := some 9 } 2)).swFrame 9).map (·.refs) = some 1 ∧
    (after (.frameTxDone 0) (held { wUp with tx := some 9 } 1)).out = [.frame 0 wFr.bytes] := by decide +kernel
theorem test_fwd : let s := zR.setReg (Reg.fwdKey 0) 5
    let t := after (.fwdCommit .i3c) (after (.fwdInsert .i3c false) s)
    s.coreUp = true ∧ s.net.fwd.busy = false ∧ keyBad false (s.fwdKey .i3c) = false ∧ (after (.fwdInsert .i3c false) s).net.fwd.staged.length = 1 ∧
    t.net.fwd.entries.length = 1 ∧ t.net.fwd.busy = true ∧ t.net.fwd.waiting = 0 ∧ (after .fwdCommitDone t).net.fwd.busy = false ∧
    (after (.fwdDiscard .i3c) (after (.fwdInsert .i3c false) s)).net.fwd.staged = [] ∧ after .fwdCommitDone s = s ∧
    (t.net.fwd.next.any fun e => e.flow == false && e.key == t.fwdKey .i3c) = true ∧ (after (.fwdDelete .i3c false) t).net.fwd.staged.length = 1 ∧
    (after (.fwdInsert .i3c false) t).net.fwd.staged.length = 1 ∧
    (t.fwdFind false (t.fwdKey .i3c)).map (·.data.length) = some 4 ∧ Tbl.getD (after (.fwdRead .i3c false) t).net.fwd.result 0 9 = 0 ∧
    (s.net.fwd.next.any fun e => e.flow == false && e.key == s.fwdKey .i3c) = false ∧ Tbl.getD (after (.fwdDelete .i3c false) s).net.fwd.result 0 9 = 2 := by decide +kernel
theorem test_fwd_bad : let s := zR.setReg (Reg.fwdKey 0) 0x4000
    keyBad true (s.fwdKey .i3c) = true ∧ Tbl.getD (after (.fwdInsert .i3c true) s).net.fwd.result 0 9 = 4 ∧
    Tbl.getD (after (.fwdDelete .i3c true) s).net.fwd.result 0 9 = 4 ∧ Tbl.getD (after (.fwdRead .i3c true) s).net.fwd.result 0 9 = 4 := by decide +kernel

/-! ## The ring and the weir -/

/-- The ring is on, with a ring port up, in a state. -/
def ringed (east : Bool) (r : Ring) : State :=
  let s := zR.setReg Reg.swRingCtl (zR.reg Reg.swRingCtl ||| 1)
  let s := s.setPort (if east then s.ringEast else s.ringWest) wUp
  { s with net := { s.net with ring := r } }
/-- A ring agent in ELECT. -/
def wRing : Ring := { zR.net.ring with st := .elect, min := 0 }
/-- A hand-off frame from part 7. -/
def wHand (typ : Nat) (p : List Byte) : HandOff := { ver := 1, typ := typ, hops := 0, src := 7, dst := 9, seq := 0, tag := 0, payload := p, checkOk := true }
theorem test_ring_idle : zR.net.ring.st ≠ .elect ∧ after .ringAnnounceTimer zR = zR ∧ zR.net.ring.topo = 0 ∧ after .ringTopoTimeout zR = zR ∧
    (let s := (ringed true wRing).setPort (ringed true wRing).ringEast Port.reset
     s.ringEn = true ∧ s.ringUp true = false ∧ s.ringUp false = false ∧ after .ringAnnounceTimer s = s) := by decide +kernel
/-- The ring on quads that are enabled. -/
def ringLit (r : Ring) : State :=
  let s := ((ringed true r).setReg (Reg.quadCfg 22) 0x4D).setReg (Reg.quadCfg 23) 0x4D
  (s.setReg (Reg.quadPort 22 0) 0x10001).setReg (Reg.quadPort 23 0) 0x10001
/-- An ANNOUNCE takes one cell, whatever the part's MAC address is. -/
theorem hand_cells (s : State) (a : List Byte) (h : HandOff) (hp : h.payload.length = 8) : frameCells (s.handFrame a h) = 1 := by
  simp [frameCells, State.handFrame, State.ringDa, handBody, hp, ceilDiv]
theorem test_ring_announces : let s := ringLit wRing
    let d := s.ringPort true
    s.coreUp = true ∧ s.ringEn = true ∧ s.net.ring.st = .elect ∧ s.ringUp true = true ∧ s.ringUp (!true) = false ∧ (s.port d).dead = false ∧
    s.portEn d = true ∧ s.net.nextId ∉ (s.port d).queued ∧ s.net.nextId + 1 ∉ (s.port d).queued ∧
    s.cellsFor srcAgent 1 = true ∧ s.cellsOf (s.port d).queued + 1 + 1 ≤ fld (s.reg Reg.swPortQmax) 16 0 := by decide +kernel
/-- Both ring ports are up. -/
def ringBoth : State := (ringLit wRing).setPort (ringLit wRing).ringWest wUp
theorem test_ring_announces_both : let s := ringBoth
    s.ringUp true = true ∧ s.ringUp false = true ∧ s.ringPort true ≠ s.ringPort false ∧ s.portEn (s.ringPort false) = true ∧
    (s.port (s.ringPort false)).dead = false ∧ s.net.nextId ∉ (s.port (s.ringPort false)).queued ∧
    s.net.nextId + 1 ∉ (s.port (s.ringPort false)).queued ∧ s.cellsFor srcAgent 1 = true ∧
    s.cellsOf (s.port (s.ringPort false)).queued + 1 + 1 ≤ fld (s.reg Reg.swPortQmax) 16 0 := by decide +kernel
theorem test_ring_announces_second : (ringBoth.ringSend true 0 (leBytes 8 ringBoth.net.ring.min)).cellsFor srcAgent 1 = true := by
  simp only [State.ringSend, State.ringPut, State.storeFrame, hand_cells, leBytes_length]
  decide +kernel
theorem test_ring_bad : let s := ringed true wRing
    s.coreUp = true ∧ s.ringEn = true ∧ s.ringUp true = true ∧ (after (.ringTopoRx true (wHand 4 [])) s).reg Reg.swRingBad = 1 ∧
    (after (.ringDataRx true { wHand 3 [] with ver := 2 }) s).reg Reg.swRingBad = 1 ∧ (after (.ringReadyRx true { wHand 2 [] with checkOk := false }) s).reg Reg.swRingBad = 1 ∧
    (after (.ringAnnounceRx true { wHand 0 [] with src := s.dev.serial }) s).reg Reg.swRingBad = 1 := by decide +kernel
theorem test_ring_announce : let s := ringed false { wRing with min := 5 }
    (wHand 0 [4]).src ≠ s.dev.serial ∧ (after (.ringAnnounceRx false (wHand 0 [4])) s).net.ring.min = 4 ∧ after (.ringAnnounceRx false (wHand 0 [5])) s = s := by decide +kernel
theorem test_ring_elect : let s := ringed false wRing
    s.net.ring.isMaster = false ∧ s.net.ring.min = s.serialNo ∧ s.ringUp true = false ∧ (after .ringElectTimeout s).net.ring.isMaster = true ∧
    (after .ringElectTimeout s).tick = msTicks 20 ∧ after .ringElectTimeout (ringed false { wRing with min := 5 }) = ringed false { wRing with min := 5 } := by decide +kernel
theorem test_ring_topo : let s := ringed false { wRing with isMaster := true, topo := 1 }
    let h := wHand 1 ([2, 0] ++ List.replicate 8 0 ++ leBytes 8 7)
    (topoList h.payload).head? = some s.serialNo ∧ bitOf (leAt h.payload 0 2) 9 = false ∧ bitOf (leAt h.payload 0 2) 8 = false ∧ (after (.ringTopoRx false h) s).net.ring.st = .readyRing ∧
    (after (.ringTopoRx false h) s).net.ring.count = 2 ∧
    (let u := ringed true { wRing with isMaster := true, topo := 1 }
     u.ringUp false = false ∧ (after .ringTopoTimeout u).net.ring.topo = 2) := by decide +kernel
theorem test_ring_ready : let s := ringed true wRing
    let h := wHand 2 ([2, 2] ++ leBytes 8 7 ++ List.replicate 8 0)
    s.ringUp (!true) = false ∧ (topoList h.payload).findIdx? (· == s.serialNo) = some 1 ∧ (after (.ringReadyRx true h) s).net.ring.pos = 1 ∧
    (after (.ringReadyRx true h) s).net.ring.st = .readyLine := by decide +kernel
theorem test_ring_data : let s := ringed true wRing
    (wHand 3 []).dst ≠ s.dev.serial ∧ after (.ringDataRx true { wHand 3 [] with hops := 15 }) s = s ∧
    { wHand 3 [] with dst := 0 }.dst = s.dev.serial := by decide +kernel
theorem test_weir : let s := { zR with net := { zR.net with weir := { closed := true, change := some (false, 0), stuck := false } } }
    let u := { zR with net := { zR.net with weir := { closed := true, change := none, stuck := false } } }
    s.part.hasWeir = true ∧ (after .weirSwitchDone s).net.weir = { closed := false, change := none, stuck := false } ∧ (after .weirSwitchDone s).reg Reg.weirSwitches = 1 ∧
    s.live = true ∧ (s.pg (ordOf .weir 0)).resetting = false ∧ (after .weirStuckTimeout s).net.weir.stuck = true ∧
    ((after .weirStuckTimeout s).pg (ordOf .weir 0)).err.getLsbD 0 = true ∧ after .weirSwitchDone u = u ∧ after .weirStuckTimeout u = u ∧
    (after (.weirHoldClosedWrite .i3c 0xFFFFFFFF#32) u).reg Reg.weirCtl = 1 ∧ (after (.weirHoldClosedWrite .i3c 1) u).net = u.net := by decide +kernel
end Sys2Proof.Tests
end

section
/-!
SUPPORT. What recording and reporting an error changes (R40, R43, R435): the headers of pages, the router's inputs, the causes of
the I3C target and the Ledger's fault entries, and of the ERR_STAT bits only that of its source.
-/

namespace Sys2Proof.Machine

/-- `t` is `s` but for what the recording of an error may change (R40, R435). -/
def State.ErrorFrame (s t : State) : Prop :=
  t = { s with pages := t.pages, inputs := t.inputs, i3c := t.i3c, ldg := t.ldg }

namespace State.ErrorFrame

variable {s t u : State}

theorem trans (hst : s.ErrorFrame t) (htu : t.ErrorFrame u) : s.ErrorFrame u := by
  unfold State.ErrorFrame at *
  rw [htu, hst]

theorem evq_eq (h : s.ErrorFrame t) : t.evq = s.evq := (congrArg State.evq h :)

theorem mem_eq (h : s.ErrorFrame t) : t.mem = s.mem := (congrArg State.mem h :)

theorem reg_eq (h : s.ErrorFrame t) (a : Nat) : t.reg a = s.reg a := (congrArg (State.reg · a) h :)

end State.ErrorFrame

/-- A live part is not OFF (R425). -/
theorem State.mode_ne_off_of_live {s : State} (h : s.live = true) : s.dev.mode ≠ .off := by
  simp only [State.live, State.up, Bool.and_eq_true, Bool.not_eq_true', Bool.or_eq_false_iff, beq_eq_false_iff_ne] at h
  obtain ⟨⟨⟨off, _⟩, _⟩, _⟩ := h
  exact off

section
variable (s : State) (f : Fam) (n src cls : Nat) (cap : Cap)

theorem State.errorFrame_setPg (o : Nat) (h : PageHdr) : s.ErrorFrame (s.setPg o h) := rfl

theorem State.errorFrame_sendPage : s.ErrorFrame (s.sendPage f n cls) := rfl

theorem State.errorFrame_raiseInt (cause : Nat) : s.ErrorFrame (s.raiseInt f n cause cls) := by
  have page (h : PageHdr) := s.errorFrame_setPg (ordOf f n) h
  simp only [State.raiseInt]
  split
  · exact page _
  · split
    · exact (page _).trans (State.errorFrame_sendPage ..)
    · exact (page _).trans (State.errorFrame_setPg ..)

theorem State.errorFrame_raiseIbi (code payload : Nat) : s.ErrorFrame (s.raiseIbi code payload) := by
  simp only [State.raiseIbi]
  split <;> exact rfl

theorem State.errorFrame_ledgerFault (page : Nat) : s.ErrorFrame (s.ledgerFault page src cls cap) := by
  simp only [State.ledgerFault]
  split <;> exact rfl

theorem State.errorFrame_report : s.ErrorFrame (s.report f n src cls cap) := by
  have int : s.ErrorFrame (if flag (s.reg (baseOf f n + 0x14)) src then s else s.raiseInt f n 0 cls) := by
    split
    · exact rfl
    · exact s.errorFrame_raiseInt ..
  simp only [State.report]
  split
  · exact (int.trans (State.errorFrame_raiseIbi ..)).trans (State.errorFrame_ledgerFault ..)
  · exact int

theorem State.errorFrame_raiseErr : s.ErrorFrame (s.raiseErr f n src cap) := by
  simp only [State.raiseErr, State.raiseErrAs]
  split
  · exact rfl
  split
  · exact s.errorFrame_setPg ..
  split
  · exact s.errorFrame_setPg ..
  · exact (s.errorFrame_setPg ..).trans (State.errorFrame_report ..)

@[simp] theorem State.raiseIbi_pg (code payload o : Nat) : (s.raiseIbi code payload).pg o = s.pg o := by
  simp only [State.raiseIbi]
  split <;> rfl

@[simp] theorem State.ledgerFault_pg (page o : Nat) : (s.ledgerFault page src cls cap).pg o = s.pg o := by
  simp only [State.ledgerFault]
  split <;> rfl

@[simp] theorem State.send_pg (i : Inp) (source o : Nat) (body : MsgBody) : (s.send i source body).pg o = s.pg o := rfl

/-- Gathering toward a source message leaves ERR_STAT alone (R43). -/
@[simp] theorem State.raiseInt_err (cause : Nat) :
    ((s.raiseInt f n cause cls).pg (ordOf f n)).err = (s.pg (ordOf f n)).err := by
  simp only [State.raiseInt]
  split
  · simp
  · split <;> simp [State.sendPage]

@[simp] theorem State.report_err : ((s.report f n src cls cap).pg (ordOf f n)).err = (s.pg (ordOf f n)).err := by
  simp only [State.report]
  split <;> split <;> simp

@[simp] theorem PageHdr.record_err (h : PageHdr) (now : Nat) :
    (h.record src cap now).err = h.err ||| BitVec.ofNat 16 (2 ^ src) := by
  simp only [PageHdr.record]
  split <;> rfl

/-- Outside OFF and a reset of the page, an error sets the bit of its source and no other (R40, R437). -/
theorem State.raiseErr_err (off : s.dev.mode ≠ .off) (resetting : (s.pg (ordOf f n)).resetting = false) :
    ((s.raiseErr f n src cap).pg (ordOf f n)).err = (s.pg (ordOf f n)).err ||| BitVec.ofNat 16 (2 ^ src) := by
  simp only [State.raiseErr, State.raiseErrAs, if_neg off, resetting, Bool.false_eq_true, if_false]
  split <;> simp

theorem State.raiseErr_getLsbD_err (lt : src < 16) (live : s.live = true)
    (resetting : (s.pg (ordOf f n)).resetting = false) :
    ((s.raiseErr f n src cap).pg (ordOf f n)).err.getLsbD src = true := by
  rw [s.raiseErr_err f n src cap (State.mode_ne_off_of_live live) resetting, BitVec.getLsbD_or, BitVec.getLsbD_ofNat,
    Nat.testBit_two_pow_self]
  simp [lt]

end

theorem State.live_of_coreUp {s : State} (h : s.coreUp = true) : s.live = true := Bool.and_elim_left h

theorem State.live_of_takes {s : State} {p : Path} (h : s.takes p = true) : s.live = true := Bool.and_elim_left h

end Sys2Proof.Machine
end

section
/-!
SUPPORT. Bits and fields of a register word (R8), read as bits of the vector.
-/

namespace Sys2Proof.Machine

theorem flag_eq_getLsbD (w : Word) (k : Nat) : flag w k = w.getLsbD k := by
  simp [flag, bitOf, BitVec.getLsbD, Nat.testBit_eq_decide_div_mod_eq, Bool.beq_eq_decide_eq]

/-- A field put back in its place is the word under the field's mask. -/
theorem word_fld_mul (w : Word) (hi lo : Nat) :
    word (fld w hi lo * 2 ^ lo) = w &&& word ((2 ^ (hi + 1 - lo) - 1) * 2 ^ lo) := by
  refine BitVec.eq_of_getLsbD_eq fun i lt => ?_
  simp only [word, fld, bits, BitVec.getLsbD_and, BitVec.getLsbD_ofNat, Nat.testBit_mul_two_pow, Nat.testBit_mod_two_pow,
    Nat.testBit_div_two_pow, Nat.testBit_two_pow_sub_one]
  by_cases le : lo ≤ i
  · simp [lt, le, BitVec.getLsbD, Bool.and_comm]
  · simp [le]

end Sys2Proof.Machine
end

section
/-!
PROOFS. The event queue's index and control writes (R53, R55), and GETSTATUS (R29).
-/

namespace Sys2Proof.Machine

section
variable (s : State)

/-- The way of a consumer index is open: a register path, or the host's doorbell page where none is named (R53). -/
def State.consReach (s : State) : Option Path → Bool
  | none => s.coreUp
  | some p => s.takes p

/-- The capture of a consumer index that is ignored (R53, R492). -/
def State.consCap (s : State) : Option Path → Cap
  | none => s.dbCap 0x100
  | some p => Cap.reg p Reg.evqCons

theorem exec_evqConsWrite (d : Option Path) (v : Word) (reach : s.consReach d = true) :
    exec (.evqConsWrite d v) s = .next (s.evqCons v.toNat (s.consCap d)) := by
  cases d with
  | none => exact congrArg Host.Outcome.next (if_pos reach)
  | some p => exact congrArg Host.Outcome.next (if_pos reach)

variable {s} in
theorem State.live_of_consReach {d : Option Path} (reach : s.consReach d = true) : s.live = true := by
  cases d with
  | none => exact State.live_of_coreUp reach
  | some p => exact State.live_of_takes reach

/-- An index that is neither ahead of the producer nor a move back becomes the consumer's, and changes no more than whether the ring
counts as full (R53). -/
theorem State.evqCons_of_le (v : Nat) (cap : Cap)
    (le : (s.evq.prod + 2 ^ 17 - v % 2 ^ 17) % 2 ^ 17 ≤ s.evqUsed) :
    ∃ full, s.evqCons v cap = { s with evq := { s.evq with cons := v % 2 ^ 17, fullAt := full } } := by
  simp only [State.evqCons, if_pos le]
  split
  · exact ⟨s.evq.fullAt, rfl⟩
  · exact ⟨none, rfl⟩

theorem State.evqCons_of_lt (v : Nat) (cap : Cap)
    (lt : s.evqUsed < (s.evq.prod + 2 ^ 17 - v % 2 ^ 17) % 2 ^ 17) :
    s.evqCons v cap = s.raiseErr .evq 0 0 cap :=
  if_neg (Nat.not_le.mpr lt)

theorem exec_evqCtlWrite (p : Path) (v : Word) (takes : s.takes p = true) :
    exec (.evqCtlWrite p v) s = .next (s.evqCtlWrite p v) :=
  congrArg Host.Outcome.next (if_pos takes)

/-- What a write to EVQ_CTL stores: its fields, with a SIZE_LOG2 outside 6 to 16 as 6 (R55). -/
def evqCtlStored (v : Word) : Word :=
  (v &&& 0x3FFC07#32) ||| word ((if 6 ≤ fld v 8 4 ∧ fld v 8 4 ≤ 16 then fld v 8 4 else 6) * 16)

theorem evqCtlStored_of_size (v : Word) (lo : 6 ≤ fld v 8 4) (hi : fld v 8 4 ≤ 16) : evqCtlStored v = v &&& 0x3FFDF7#32 := by
  have size : word (fld v 8 4 * 16) = v &&& 0x1F0#32 := word_fld_mul v 8 4
  rw [evqCtlStored, if_pos ⟨lo, hi⟩, size, ← BitVec.and_or_distrib_left]
  rfl

/-- EN, LOC and NOTIFY are stored as written (R55). -/
theorem flag_evqCtlStored (v : Word) (k : Nat) (lt : k < 3) : flag (evqCtlStored v) k = flag v k := by
  have size (m : Nat) : (word (m * 16)).getLsbD k = false := by
    rw [word, BitVec.getLsbD_ofNat, show m * 16 = m * 2 ^ 4 from rfl, Nat.testBit_mul_two_pow]
    simp [show ¬ 4 ≤ k by omega]
  have mask : (0x3FFC07#32).getLsbD k = true := by
    interval_cases k <;> rfl
  rw [flag_eq_getLsbD, flag_eq_getLsbD, evqCtlStored, BitVec.getLsbD_or, BitVec.getLsbD_and, mask, size,
    Bool.and_true, Bool.or_false]

/-- While EN is 1, a write that changes LOC is discarded with CFG (R55). -/
theorem State.evqCtlWrite_of_changed (p : Path) (v : Word) (en : flag s.evqCtl 0 = true) (loc : flag s.evqCtl 1 ≠ flag v 1) :
    s.evqCtlWrite p v = s.raiseErr .evq 0 2 (Cap.reg p Reg.evqCtl) :=
  if_pos ⟨en, .inl (by rw [← flag_evqCtlStored v 1 (by decide)] at loc; exact loc)⟩

/-- A write that raises EN takes effect and ends a suspension (R55). -/
theorem State.evqCtlWrite_of_rise (p : Path) (v : Word) (off : flag s.evqCtl 0 = false) (en : flag v 0 = true) :
    s.evqCtlWrite p v =
      { s.setReg Reg.evqCtl (evqCtlStored v) with evq := { s.evq with suspended := false } } := by
  have stored : flag (evqCtlStored v) 0 = true := by rw [flag_evqCtlStored v 0 (by decide), en]
  have kept : ¬ (flag s.evqCtl 0 = true ∧
      (flag s.evqCtl 1 ≠ flag (evqCtlStored v) 1 ∨ fld s.evqCtl 8 4 ≠ fld (evqCtlStored v) 8 4)) := by
    simp [off]
  exact (if_neg kept).trans (if_pos ⟨stored, by simp [off]⟩)

end

/-- Settles O24: one lemma for each outcome of a consumer index and of EVQ_CTL; what an ignored write leaves is the frame of a
recorded error. -/
theorem eventQueueWrites : Obligations.EventQueueWrites := by
  intro s v reaches
  have way (d : Option Path) (reach : reaches d = true) : s.consReach d = true := by cases d <;> exact reach
  refine ⟨fun d reach le => ?_, fun d reach lt resetting => ?_, fun p takes en loc resetting => ?_,
    fun p takes off en lo hi => ?_⟩
  · obtain ⟨full, cons⟩ := s.evqCons_of_le v.toNat (s.consCap d) le
    exact ⟨_, (exec_evqConsWrite s d v (way d reach)).trans (congrArg _ cons), rfl, rfl, rfl⟩
  · have ignored := s.evqCons_of_lt v.toNat (s.consCap d) lt
    have frame := s.errorFrame_raiseErr .evq 0 0 (s.consCap d)
    have bad := s.raiseErr_getLsbD_err .evq 0 0 (s.consCap d) (by decide) (State.live_of_consReach (way d reach)) resetting
    exact ⟨_, (exec_evqConsWrite s d v (way d reach)).trans (congrArg _ ignored), frame.evq_eq, bad, frame.mem_eq⟩
  · have discarded := s.evqCtlWrite_of_changed p v en loc
    have frame := s.errorFrame_raiseErr .evq 0 2 (Cap.reg p Reg.evqCtl)
    have cfg := s.raiseErr_getLsbD_err .evq 0 2 (Cap.reg p Reg.evqCtl) (by decide) (State.live_of_takes takes) resetting
    exact ⟨_, (exec_evqCtlWrite s p v takes).trans (congrArg _ discarded), frame.reg_eq _, cfg, frame.evq_eq⟩
  · have rise := s.evqCtlWrite_of_rise p v off en
    have stored : (s.setReg Reg.evqCtl (evqCtlStored v)).reg Reg.evqCtl = v &&& 0x3FFDF7#32 := by
      rw [State.reg_setReg, if_pos rfl, evqCtlStored_of_size v lo hi]
    exact ⟨_, (exec_evqCtlWrite s p v takes).trans (congrArg _ rise), stored, rfl, rfl⟩

/-- The status word saturates the count of pending IBIs at 15 and has the protocol error and the mode above it (R29). -/
theorem State.i3cStatus_eq (s : State) :
    s.i3cStatus = min 15 s.i3c.ibis.length + (if s.i3c.proto then 32 else 0) + 256 * s.dev.mode.code := by
  have count : sat s.i3c.ibis.length 15 = min 15 s.i3c.ibis.length := by
    unfold sat
    split <;> omega
  have error : b2n s.i3c.proto * 2 ^ 5 = if s.i3c.proto then 32 else 0 := by cases s.i3c.proto <;> rfl
  have mode : s.dev.mode.code * 2 ^ 8 = 256 * s.dev.mode.code := Nat.mul_comm ..
  rw [State.i3cStatus, count, error, mode]

/-- The target answers GETSTATUS at its address, and the protocol error is cleared (R26, R29). -/
theorem State.getstatus_of_addressed (s : State) (addressed : s.i3cAddressed = true) :
    s.getstatus = { s with i3c := { s.i3c with proto := false }, out := .i3cData (beBytes 2 s.i3cStatus) :: s.out } :=
  if_pos addressed

/-- Settles O6, by the equation of the status word and the answer of an addressed target. -/
theorem getstatusReportsAndClears : Obligations.GetstatusReportsAndClears := by
  intro s up da
  have addressed : s.i3cAddressed = true := by simp [State.i3cAddressed, up, Option.isSome_iff_ne_none, da]
  rw [← s.i3cStatus_eq]
  exact congrArg Host.Outcome.next (s.getstatus_of_addressed addressed)

end Sys2Proof.Machine
end

section
/-!
SUPPORT. The pages of the register map (R465, R466): the windows of the families do not overlap, so an address within a page and
the ordinal of that page name the same family and number; and what the readers of the map answer there.
-/

namespace Sys2Proof.Machine

theorem Fam.mem_all (f : Fam) : f ∈ Fam.all := by cases f <;> decide

/-- The families stand in ascending order, each ending before the next begins (R465). -/
theorem Fam.all_pairwise (q : Part) :
    Fam.all.Pairwise fun f g => f.info.base + 0x400 * f.count q ≤ g.info.base := by
  cases q <;> decide

theorem baseOf_add_mod (f : Fam) (n : Nat) {off : Nat} (lt : off < 0x400) : (baseOf f n + off) % 0x400 = off := by
  have aligned : f.info.base % 0x400 = 0 := by cases f <;> rfl
  rw [baseOf]
  omega

theorem pageOf_baseOf_add {q : Part} {f : Fam} {n off : Nat} (count : n < f.count q) (lt : off < 0x400) :
    pageOf q (baseOf f n + off) = some (f, n) := by
  obtain ⟨before, after, all⟩ := List.append_of_mem f.mem_all
  have pairwise := Fam.all_pairwise q
  rw [all, List.pairwise_append] at pairwise
  obtain ⟨-, -, below⟩ := pairwise
  refine List.findSome?_eq_some_iff.mpr ⟨before, f, after, all, ?_, fun g mem => if_neg ?_⟩
  · have inside : f.info.base ≤ baseOf f n + off ∧ baseOf f n + off < f.info.base + 0x400 * f.count q := by
      rw [baseOf]
      omega
    have index : (baseOf f n + off - f.info.base) / 0x400 = n := by
      rw [baseOf]
      omega
    rw [if_pos inside, index]
  · have ends := below g mem f List.mem_cons_self
    rw [baseOf]
    omega

theorem count_ordOf_of_pageAt {q : Part} {o : Nat} {f : Fam} {n : Nat} (page : pageAt q o = some (f, n)) :
    n < f.count q ∧ ordOf f n = o := by
  obtain ⟨g, -, found⟩ := List.exists_of_findSome?_eq_some page
  split at found
  case isTrue inside =>
    obtain ⟨rfl, rfl⟩ := Prod.mk.inj (Option.some.inj found)
    rw [ordOf]
    omega
  case isFalse => cases found

section
variable {f : Fam} {n a : Nat}

theorem implemented_of_page {q : Part} (page : pageOf q a = some (f, n)) :
    implemented q a = (decide (a % 0x400 < 0x40) || (regDef f (a % 0x400)).isSome) := by
  unfold implemented
  rw [page]

theorem State.liveWord_of_header {s : State} (p : Path) {v : Nat} (page : pageOf s.part a = some (f, n))
    (header : a % 0x400 < 0x40) (holds : s.liveHeader f n (a % 0x400) = some v) : s.liveWord p a = word v := by
  unfold State.liveWord
  rw [page]
  simp only [if_pos header, holds]

/-- What a read of an implemented word returns and does: its latch, then its RC bits (R38, R39, R276). -/
theorem State.readWord_of_page {s : State} (p : Path) (page : pageOf s.part a = some (f, n)) :
    s.readWord p a = (s.seen p a, State.clearRead f n (a % 0x400) (s.seen p a)
      (if f = .timebase ∧ a % 0x400 = 0x40 then s.latch p ((List.range 5).map fun k => a + 4 + 4 * k)
        else if f.latches (a % 0x400) then s.latch p [a + 4] else s)) := by
  unfold State.readWord
  rw [page]

end

/-- In the header only the LO words of the capture latch their companions (R38). -/
theorem Fam.latches_header (f : Fam) {off : Nat} (header : off < 0x40) :
    f.latches off = (off == 0x20 || off == 0x2C) := by
  have block : f.rwLo off = false := by
    cases f <;> simp only [Fam.rwLo, Bool.or_eq_false_iff, Bool.and_eq_false_iff, beq_eq_false_iff_ne,
      decide_eq_false_iff_not] <;> omega
  simp [Fam.latches, Fam.rlLo, header, block]

theorem Fam.rcBits_errStat {f : Fam} (sources : f.info.classes ≠ []) : f.rcBits 0x10 = 0xFFFF := by
  simp [Fam.rcBits, sources]

theorem Fam.rcBits_intStat {f : Fam} (sources : f.info.classes ≠ []) : f.rcBits 0x34 = 0xFFFFFFFF := by
  simp [Fam.rcBits, sources]

theorem pathKey_injective (p : Path) : Function.Injective (pathKey p) := by
  intro a b eq
  cases p <;> simpa [pathKey] using eq

end Sys2Proof.Machine
end

section
/-!
PROOFS. Reads with effects (R38 to R40) and the latch of TB_NOW_LO (R276).
-/

namespace Sys2Proof.Machine

section
variable (s : State) (p : Path) {f : Fam} {n : Nat}

/-- A header word is readable on every page that the part has (R38). -/
theorem State.readable_header {off : Nat} (count : n < f.count s.part) (header : off < 0x40) (whole : off % 4 = 0) :
    s.readable (baseOf f n + off) = true := by
  have lt : off < 0x400 := by omega
  have mod := baseOf_add_mod f n lt
  have aligned : (baseOf f n + off) % 4 = 0 := by omega
  simp [State.readable, implemented_of_page (pageOf_baseOf_add count lt), mod, aligned, header]

/-- A path that has latched no word sees what the header holds (R38). -/
theorem State.seen_header {off v : Nat} (count : n < f.count s.part) (header : off < 0x40)
    (free : Tbl.get? s.shadows (pathKey p (baseOf f n + off)) = none) (holds : s.liveHeader f n off = some v) :
    s.seen p (baseOf f n + off) = word v := by
  have lt : off < 0x400 := by omega
  rw [← baseOf_add_mod f n lt] at header holds
  rw [State.seen, free, State.liveWord_of_header p (pageOf_baseOf_add count lt) header holds, Option.getD_none]

theorem State.liveHeader_errStat (sources : f.info.classes ≠ []) :
    s.liveHeader f n 0x10 = some (s.pg (ordOf f n)).err.toNat := by
  simp [State.liveHeader, sources]

theorem State.liveHeader_intStat (sources : f.info.classes ≠ []) :
    s.liveHeader f n 0x34 = some (s.pg (ordOf f n)).int.toNat := by
  simp [State.liveHeader, sources]

/-- A read of ERR_STAT that returns every bit clears them all (R40). -/
theorem State.clearRead_errStat (sources : f.info.classes ≠ []) :
    s.clearRead f n 0x10 (word (s.pg (ordOf f n)).err.toNat) =
      s.setPg (ordOf f n) { s.pg (ordOf f n) with err := 0, armed := true, merged := 0 } := by
  have returned (e : BitVec 16) : BitVec.ofNat 16 (word e.toNat &&& 0xFFFF#32).toNat = e := by
    have lt := e.isLt
    refine BitVec.eq_of_toNat_eq ?_
    rw [BitVec.toNat_ofNat, BitVec.toNat_and, show (0xFFFF#32).toNat = 2 ^ 16 - 1 from rfl, Nat.and_two_pow_sub_one_eq_mod,
      word, BitVec.toNat_ofNat]
    omega
  have cleared (e : BitVec 16) : e &&& ~~~(BitVec.ofNat 16 (word e.toNat &&& 0xFFFF#32).toNat) = 0 := by
    rw [returned, BitVec.and_not_self]
  simp only [State.clearRead, Fam.rcBits_errStat sources]
  exact congrArg (fun e => s.setPg _ { s.pg _ with err := e, armed := true, merged := 0 }) (cleared _)

/-- A read of INT_STAT that returns every bit clears them all (R39). -/
theorem State.clearRead_intStat (sources : f.info.classes ≠ []) :
    s.clearRead f n 0x34 (word (s.pg (ordOf f n)).int.toNat) =
      s.setPg (ordOf f n) { s.pg (ordOf f n) with int := 0 } := by
  have cleared (i : Word) : i &&& ~~~(word i.toNat &&& 0xFFFFFFFF#32) = 0 := by
    rw [word, BitVec.ofNat_toNat, BitVec.setWidth_eq, show 0xFFFFFFFF#32 = BitVec.allOnes 32 from rfl, BitVec.and_allOnes,
      BitVec.and_not_self]
  simp only [State.clearRead, Fam.rcBits_intStat sources]
  exact congrArg (fun i => s.setPg _ { s.pg _ with int := i }) (cleared _)

theorem State.clearRead_of_rcBits {off : Nat} (w : Word) (rc : f.rcBits off = 0) : s.clearRead f n off w = s := if_pos rc

/-- A read of a word that latches nothing has only the effect of its RC bits (R39). -/
theorem State.readWord_of_not_latches {a : Nat} (page : pageOf s.part a = some (f, n))
    (plain : f.latches (a % 0x400) = false) :
    s.readWord p a = (s.seen p a, s.clearRead f n (a % 0x400) (s.seen p a)) := by
  have other : ¬ (f = .timebase ∧ a % 0x400 = 0x40) := by
    rintro ⟨rfl, off⟩
    rw [off] at plain
    cases plain
  rw [State.readWord_of_page p page, if_neg other, if_neg (Bool.eq_false_iff.mp plain)]

/-- A read of a LO word keeps its HI word (R38). -/
theorem State.readWord_of_latches {a : Nat} (page : pageOf s.part a = some (f, n)) (lo : f.latches (a % 0x400) = true)
    (rc : f.rcBits (a % 0x400) = 0) (other : ¬ (f = .timebase ∧ a % 0x400 = 0x40)) :
    s.readWord p a = (s.seen p a, s.latch p [a + 4]) := by
  rw [State.readWord_of_page p page, if_neg other, if_pos lo, State.clearRead_of_rcBits _ _ rc]

/-- The five words that follow TB_NOW_LO (R276). -/
def tbNowRest : List Nat := (List.range 5).map fun k => Reg.tbNowLo + 4 + 4 * k

theorem pageOf_tbNowLo (q : Part) : pageOf q Reg.tbNowLo = some (.timebase, 0) :=
  pageOf_baseOf_add (f := .timebase) (n := 0) (off := 0x40) Nat.one_pos (by decide)

theorem State.readable_tbNowLo : s.readable Reg.tbNowLo = true := by
  rw [State.readable, implemented_of_page (pageOf_tbNowLo _)]
  rfl

theorem State.readWord_tbNowLo : s.readWord p Reg.tbNowLo = (s.seen p Reg.tbNowLo, s.latch p tbNowRest) := by
  have rc : Fam.timebase.rcBits (Reg.tbNowLo % 0x400) = 0 := by decide
  rw [State.readWord_of_page p (pageOf_tbNowLo _), if_pos ⟨rfl, rfl⟩, State.clearRead_of_rcBits _ _ rc, tbNowRest]

/-- Each latched word is kept for its path as the live word of that instant (R38). -/
theorem State.get?_latch {l : List Nat} {a : Nat} (mem : a ∈ l) :
    Tbl.get? (s.latch p l).shadows (pathKey p a) = some (s.liveWord p a) := by
  have kept (l : List Nat) (t : Tbl Word) (listed : a ∈ l ∨ Tbl.get? t (pathKey p a) = some (s.liveWord p a)) :
      Tbl.get? (l.foldl (fun t b => Tbl.set t (pathKey p b) (s.liveWord p b)) t) (pathKey p a) = some (s.liveWord p a) := by
    induction l generalizing t with
    | nil => exact listed.resolve_left List.not_mem_nil
    | cons b l ih =>
      refine ih _ ?_
      by_cases eq : a = b
      · exact .inr (by simp [eq])
      · simpa [eq, (pathKey_injective p).eq_iff] using listed
  exact kept l s.shadows (.inl mem)

theorem State.get?_latch_tbNowRest (k : Nat) (lt : k < 5) :
    Tbl.get? (s.latch p tbNowRest).shadows (pathKey p (Reg.tbNowLo + 4 + 4 * k)) =
      some (s.liveWord p (Reg.tbNowLo + 4 + 4 * k)) :=
  s.get?_latch p (List.mem_map_of_mem (List.mem_range.mpr lt))

/-- A REGLOAD step reads a whole word (R339). -/
theorem State.access_regload (a : Nat) {b : Nat} (takes : s.takes .regload = true) (whole : 4 ≤ b) :
    s.access .regload a b = (s.readWord .regload a).2 :=
  if_pos ⟨takes, whole⟩

/-- By REGLOAD a header word that latches nothing has only the effect of its RC bits (R39). -/
theorem State.access_regload_header {off v b : Nat} (takes : s.takes .regload = true) (whole : 4 ≤ b)
    (count : n < f.count s.part) (header : off < 0x40) (lo : (off == 0x20 || off == 0x2C) = false)
    (free : Tbl.get? s.shadows (pathKey .regload (baseOf f n + off)) = none) (holds : s.liveHeader f n off = some v) :
    s.access .regload (baseOf f n + off) b = s.clearRead f n off (word v) := by
  have lt : off < 0x400 := by omega
  have mod := baseOf_add_mod f n lt
  have plain : f.latches ((baseOf f n + off) % 0x400) = false := by rw [mod, f.latches_header header, lo]
  rw [s.access_regload _ takes whole, s.readWord_of_not_latches _ (pageOf_baseOf_add count lt) plain, mod,
    s.seen_header _ count header free holds]

/-- A private read of one word answers it, little-endian, and counts a transfer (R31, R33). -/
theorem State.access_i3c_word {a : Nat} (addressed : s.i3cAddressed = true) (mrl : 4 ≤ s.i3c.mrl)
    (readable : s.readable a = true) :
    s.access .i3c a 4 =
      ((s.readWord .i3c a).2.emit (.i3cData (leBytes 4 (s.readWord .i3c a).1.toNat))).wrap Reg.i3cXfers 1 := by
  have run : s.readRun 4 a = (leBytes 4 (s.readWord .i3c a).1.toNat, (s.readWord .i3c a).2) := by
    simp [State.readRun, readable]
  simp [State.access, addressed, State.i3cRead, Nat.min_eq_left mrl, run]

theorem exec_errStatRead {o : Nat} (b : Nat) (page : pageAt s.part o = some (f, n)) :
    exec (.errStatRead p o b) s = .next (s.access p (baseOf f n + 0x10) b) := by
  show execErrStatRead p o b s = _
  simp only [execErrStatRead, page]

theorem exec_rcRead {a : Nat} (b : Nat) (readable : s.readable a = true) :
    exec (.rcRead p a b) s = .next (s.access p a b) :=
  congrArg Host.Outcome.next (if_pos readable)

theorem exec_loWordRead {a : Nat} (b : Nat) (readable : s.readable a = true) (page : pageOf s.part a = some (f, n))
    (lo : f.latches (a % 0x400) = true) : exec (.loWordRead p a b) s = .next (s.access p a b) := by
  show execLoWordRead p a b s = _
  simp [execLoWordRead, readable, page, lo]

theorem exec_tbNowLoRead (b : Nat) : exec (.tbNowLoRead p b) s = .next (s.access p Reg.tbNowLo b) := rfl

end

/-- Settles O19: one lemma for each kind of word read (a header word with RC bits, a LO word, TB_NOW_LO), and for each path what it
carries of the read. -/
theorem readsClearAndLatch : Obligations.ReadsClearAndLatch := by
  intro s
  refine ⟨fun takes b whole => ⟨fun o f n page sources => ?_, fun a f n readable page lo rc other => ?_, ?_⟩,
    fun addressed mrl => ?_⟩
  · obtain ⟨count, rfl⟩ := count_ordOf_of_pageAt page
    refine ⟨fun free => ?_, fun free => ?_⟩
    · rw [exec_errStatRead s _ b page,
        s.access_regload_header takes whole count (by decide) rfl free (s.liveHeader_errStat sources), s.clearRead_errStat sources]
      rfl
    · rw [exec_rcRead s _ b (s.readable_header count (by decide) rfl),
        s.access_regload_header takes whole count (by decide) rfl free (s.liveHeader_intStat sources), s.clearRead_intStat sources]
      rfl
  · rw [exec_loWordRead s _ b readable page lo, s.access_regload _ takes whole, s.readWord_of_latches _ page lo rc other]
    rfl
  · refine ⟨s.latch .regload tbNowRest, ?_, rfl, s.get?_latch_tbNowRest .regload⟩
    rw [exec_tbNowLoRead, s.access_regload _ takes whole, State.readWord_tbNowLo]
  · refine ⟨_, (exec_tbNowLoRead ..).trans (congrArg _ (s.access_i3c_word addressed mrl s.readable_tbNowLo)), ?_⟩
    rw [State.readWord_tbNowLo]
    refine ⟨rfl, fun free => ?_, s.get?_latch_tbNowRest .i3c⟩
    rw [State.seen, free]
    rfl

end Sys2Proof.Machine
end
